-- ==== Sys2Proof/Word.lean ====
section
/-! DEFINITION. The word types of the SP1216: bytes, part time, sequences, serials. -/

namespace Sys2Proof

/-- One byte of either link (spec/12). -/
abbrev Byte := BitVec 8

/-- Part time: a 32-bit count of seconds since the part last started (spec/00 section 6.5). -/
abbrev Time := BitVec 32

/-- A sheet sequence, 0 to 65,535, which wraps (R87). -/
abbrev Seq := BitVec 16

/-- A job serial or a commit sequence, 32 bits (R4, R8). -/
abbrev Serial := BitVec 32

/-- A press number P0 to P11 (spec/00 section 6.6). -/
abbrev PressNo := Fin 12

/-- A job entry number 0 to 63 (spec/00 section 6.6). -/
abbrev Entry := Fin 64

/-- An account number 0 to 255; account 0 is the house account (R133). -/
abbrev AccountNo := Fin 256

/-- A power circuit number 0 to 3 (R103). -/
abbrev CircuitNo := Fin 4

/-- A pool number 0 to 3 (R64). -/
abbrev PoolNo := Fin 4

/-- An alert entry number 0 to 31; entry 31 is the overflow entry (R148). -/
abbrev AlertNo := Fin 32

end Sys2Proof
end

