-- ==== Sys2Proof/Config.lean ====
section
/-! DEFINITION. The fixed figures of the part (spec/00 section 1) and the one free value the manual leaves open. -/

namespace Sys2Proof.Config

/-- Spool blocks (spec/00 section 1, R24). -/
abbrev nBlocks : Nat := 16384

/-- Bytes of one spool block (R24). -/
abbrev blockBytes : Nat := 512

/-- Page descriptors (R27). -/
abbrev nDescriptors : Nat := 8192

/-- The most bytes of one page (R27, R28 check 5). -/
abbrev maxPageBytes : Nat := 4194304

/-- The most data bytes of one JOB DATA segment (R28 check 1). -/
abbrev maxSegment : Nat := 1024

/-- Requests the intake holds (R165). -/
abbrev intakeMax : Nat := 8

/-- The longest host frame body (R162). -/
abbrev maxHostBody : Nat := 1100

/-- The longest press frame length (R80). -/
abbrev maxPressBody : Nat := 300

/-- The most total sheets a job or a threshold can name (R5, R118). -/
abbrev maxSheets : Nat := 2088960

/-- The largest value of a 32-bit saturating counter (R145). -/
abbrev max32 : Nat := 4294967295

/-- The largest value of a 48-bit sub-cent quantity (R133). -/
abbrev max48 : Nat := 281474976710655

/-- The bound of a balance in cents (R133). -/
abbrev maxBalance : Int := 2000000000

/-- The heartbeat time-out, 5 s in ms (R88). -/
abbrev heartbeatMs : Nat := 5000

/-- The restart signal, 10 ms (R90). -/
abbrev signalMs : Nat := 10

/-- The restart window, 10 s in ms (R90). -/
abbrev windowMs : Nat := 10000

/-- The wake time-out, 180 s in ms (R92). -/
abbrev wakeMs : Nat := 180000

/-- The calibration time-out, 300 s in ms (R98). -/
abbrev calibrationMs : Nat := 300000

/-- Bytes of one side of a calibration pattern (R114). -/
abbrev patternBytes : Nat := 2048

/-- FREE VALUE (log entry 11): the byte at an offset of one side of one pattern sheet of a SHORT or
LONG run. R114 says that every side is a fixed pattern of 2,048 bytes and does not give the bytes. -/
opaque patternByte (long : Bool) (sheet side offset : Nat) : Byte

end Sys2Proof.Config
end

