-- ==== Sys2Proof/Syntax.lean ====
section
/-! DEFINITION. The commands of the block: one constructor of `Instr` for each row of
spec/opcode_table.json, with the operands its message carries (spec/12). Host request fields are the
raw bytes and words of the body, since their ranges are judged when the request executes (R167). -/

namespace Sys2Proof

/-- How a request names an existing job: entry and serial (R1, R181). -/
structure Handle where
  entry : Byte
  serial : Serial
  deriving DecidableEq, Repr

/-- One run of JOB RUNS as sent: pages, media class, duplex byte, band (R5, spec/12.4). -/
structure RunSpec where
  pages : BitVec 16
  media : Byte
  duplex : Byte
  band : Byte
  deriving DecidableEq, Repr

/-- The fields of PRESS SET as sent (R64, R105, R109 to R111). -/
structure PressSpec where
  pool : Byte
  circuit : Byte
  idleTimeout : Byte
  minAwake : Byte
  shortInterval : BitVec 32
  longThreshold : Byte
  deriving DecidableEq, Repr

/-- The fields of SCHEDULE SET as sent (R63, R50, R156, R157, R174). -/
structure ScheduleSpec where
  mode : Byte
  ageStep : Byte
  starve : BitVec 16
  escalation : BitVec 16
  buzzer : Byte
  threshold : Byte
  deriving DecidableEq, Repr

/-- The fields of FILTER SET as sent (R9). -/
structure FilterSpec where
  enabled : Byte
  account : Byte
  mask : Byte
  media : BitVec 16
  colour : Byte
  minSheets : BitVec 32
  action : Byte
  pool : Byte
  deriving DecidableEq, Repr

/-- A tray of a press: its media class and whether it is LOADED (R85). -/
structure Tray where
  media : Nat
  loaded : Bool
  deriving DecidableEq, Repr

/-- A host request whose body has the length its kind's layout gives (spec/10.5, spec/12.4). -/
inductive Request where
  | jobOpen (account target cls copies : Byte)
  | jobRuns (h : Handle) (declared : BitVec 16) (runs : List RunSpec)
  | jobData (h : Handle) (page : BitVec 16) (flags : Byte) (data : List Byte)
  | jobCommit (h : Handle)
  | jobHold (h : Handle)
  | jobRelease (h : Handle)
  | jobCancel (h : Handle)
  | jobStatus (h : Handle)
  | accountSet (account : Nat) (state : Byte) (limit : BitVec 32)
  | accountAdjust (account : Nat) (amount : BitVec 32)
  | accountRead (account : Nat)
  | priceWrite (group first : Byte) (values : List Nat)
  | priceCommit
  | priceRead (role : Byte)
  | pressSet (press : Byte) (f : PressSpec)
  | pressRead (press : Byte)
  | pressWake (press : Byte)
  | pressSleep (press : Byte)
  | pressCalibrate (press kind : Byte)
  | pressResume (press : Byte)
  | pressRestart (press : Byte)
  | circuitSet (circuit w : Byte) (tw : BitVec 16) (ts : Byte)
  | scheduleSet (f : ScheduleSpec)
  | filterSet (number : Byte) (f : FilterSpec)
  | filterRead (number : Byte)
  | alertLevels (values : List Byte)
  | alertList
  | alertAck (entry kind sourceType : Byte) (source : BitVec 32)
  | meterRead (press clear : Byte)
  | status (clear : Byte)
  | flush
  | restart
  | retainedClear
  | unknown     -- the kind is not a request kind (R166)
  | badLength   -- the body's length does not suit the kind (R167, R181)
  deriving DecidableEq, Repr

/-- A received press frame whose kind is known and whose body length suits it (spec/12.6); `junk` is a
received frame of unknown kind, of another body length, or with an undefined code (R82, R181). -/
inductive PressIn where
  | hello (duplex colour : Bool) (depth : Nat) (trays : List Tray) (asleep : Bool)
  | beat (coverOpen : Bool)
  | credit (n : Byte)
  | picked (seq : Seq)
  | delivered (seq : Seq)
  | jam (location : Byte)
  | clear
  | tray (index media : Byte) (loaded : Bool)
  | cover (coverOpen : Bool)
  | ready
  | asleep
  | caldone (pass : Bool)
  | junk
  deriving DecidableEq, Repr

/-- The commands: one constructor for each row of spec/opcode_table.json. `tag` is the request's tag
(R166), `p` the press on whose link a frame or event occurs. -/
inductive Instr where
  -- host requests
  | jobOpen (tag account target cls copies : Byte)
  | jobRuns (tag : Byte) (h : Handle) (declared : BitVec 16) (runs : List RunSpec)
  | jobData (tag : Byte) (h : Handle) (page : BitVec 16) (flags : Byte) (data : List Byte)
  | jobCommit (tag : Byte) (h : Handle)
  | jobHold (tag : Byte) (h : Handle)
  | jobRelease (tag : Byte) (h : Handle)
  | jobCancel (tag : Byte) (h : Handle)
  | jobStatus (tag : Byte) (h : Handle)
  | accountSet (tag : Byte) (account : Nat) (state : Byte) (limit : BitVec 32)
  | accountAdjust (tag : Byte) (account : Nat) (amount : BitVec 32)
  | accountRead (tag : Byte) (account : Nat)
  | priceWrite (tag group first : Byte) (values : List Nat)
  | priceCommit (tag : Byte)
  | priceRead (tag role : Byte)
  | pressSet (tag press : Byte) (f : PressSpec)
  | pressRead (tag press : Byte)
  | pressWake (tag press : Byte)
  | pressSleep (tag press : Byte)
  | pressCalibrate (tag press kind : Byte)
  | pressResume (tag press : Byte)
  | pressRestart (tag press : Byte)
  | circuitSet (tag circuit w : Byte) (tw : BitVec 16) (ts : Byte)
  | scheduleSet (tag : Byte) (f : ScheduleSpec)
  | filterSet (tag number : Byte) (f : FilterSpec)
  | filterRead (tag number : Byte)
  | alertLevels (tag : Byte) (values : List Byte)
  | alertList (tag : Byte)
  | alertAck (tag entry kind sourceType : Byte) (source : BitVec 32)
  | meterRead (tag press clear : Byte)
  | status (tag clear : Byte)
  | flush (tag : Byte)
  | restart (tag : Byte)
  | retainedClear (tag : Byte)
  | unknownRequest (tag kind : Byte) (body : List Byte)
  -- the host line
  | hostFrameReceived (bytes : List Byte)
  | hostFrameDiscarded (bytes : List Byte) (framingError : Bool)
  | interByteGapTimeout (late : Option Byte)
  | lineBreak
  | replyTransmitted
  | reportTransmissionBegin
  | reportTransmitted
  -- press frames
  | hello (p : PressNo) (duplex colour : Bool) (depth : Nat) (trays : List Tray) (asleep : Bool)
  | beat (p : PressNo) (coverOpen : Bool)
  | credit (p : PressNo) (n : Byte)
  | picked (p : PressNo) (seq : Seq)
  | delivered (p : PressNo) (seq : Seq)
  | jam (p : PressNo) (location : Byte)
  | clear (p : PressNo)
  | tray (p : PressNo) (index media : Byte) (loaded : Bool)
  | cover (p : PressNo) (coverOpen : Bool)
  | ready (p : PressNo)
  | asleep (p : PressNo)
  | caldone (p : PressNo) (pass : Bool)
  | pressFrameDiscarded (p : PressNo) (bytes : List Byte) (framingError : Bool)
  | unactedPressFrame (p : PressNo) (kind : Byte) (body : List Byte)
  | pressFrameTransmitted (p : PressNo)
  -- timers
  | heartbeatExpiry (p : PressNo)
  | restartSignalEnd (p : PressNo)
  | restartWindowExpiry (p : PressNo)
  | wakeTimeout (p : PressNo)
  | calibrationTimeout (p : PressNo)
  | starveExpiry (e : Entry)
  | idleTimerExpiry (p : PressNo)
  | sleepPointReached (p : PressNo)
  | nextGrantTime (c : CircuitNo)
  | escalation (n : AlertNo)
  -- the panel
  | ackButtonPress
  -- supply and start
  | supplyFall (millivolts : Nat)
  | supplyRise (millivolts : Nat)
  | mainSupplyLoss
  | supplyStart
  | resetInputAssert
  | resetInputRelease
  | startOfPart (strap1 strap0 : Bool) (millivolts : Nat)
  | backupCellLoss
  | lineReturnToMark
  | ackButtonRelease
  deriving DecidableEq, Repr

end Sys2Proof
end

