-- ==== Sys2Proof/Machine/State.lean ====
section
/-! DEFINITION. The state of the SP1216 as plain data: the retained domain, the working state of the eleven
blocks, the queue of waiting commands, and the state right after reset. -/

namespace Sys2Proof.Machine

/-! ## Jobs (spec/01) -/

/-- One run of a stored run list (R5). -/
structure Run where
  pages : Nat
  media : Nat
  duplex : Bool
  band : Nat
  deriving DecidableEq, Repr

/-- What a job is aimed at: one press or a pool (spec/01 section 1.1). -/
inductive Target where
  | press (p : PressNo)
  | pool (q : PoolNo)
  deriving DecidableEq, Repr

/-- Job classes (spec/01 section 1.1). -/
inductive JobClass where
  | rush | normal | bulk
  deriving DecidableEq, Repr

/-- Drain targets (R19). -/
inductive DrainTarget where
  | held | starved | fault | cancelled
  deriving DecidableEq, Repr

/-- Job outcomes (spec/01 section 1.1). -/
inductive JobOutcome where
  | completed | cancelled | faulted
  deriving DecidableEq, Repr

/-- The job states other than FREE, each with the fields that are present exactly in it: queued since
while QUEUED, the bound press while PRINTING or DRAINING, the drain target while DRAINING, the outcome
in FINISHED (spec/01 section 1.1, R1). -/
inductive JobState where
  | opened
  | creditWait
  | held
  | queued (since : Time)
  | printing (p : PressNo)
  | draining (p : PressNo) (target : DrainTarget)
  | starved
  | fault
  | finished (outcome : JobOutcome)
  deriving DecidableEq, Repr

/-- The filter outcome of a committed job (R11). -/
structure FilterOutcome where
  hold : Bool
  flagged : Bool
  redirected : Option PoolNo
  deriving DecidableEq, Repr

/-- The fields present after JOB COMMIT (spec/01 section 1.1). The cursor is the ordinal of the next
position to send (R41, R43); `none` is END. -/
structure Commit where
  seq : Serial
  gen : BitVec 8
  estimate : Nat
  charged : Nat
  filter : FilterOutcome
  cursor : Option Nat
  deriving DecidableEq, Repr

/-- A running starve timer: the ms counted and the time-out it was started with (R50). -/
structure Starve where
  elapsed : Nat
  limit : Nat
  deriving DecidableEq, Repr

/-- The job record of a live entry (spec/01 section 1.1). -/
structure Job where
  serial : Serial
  account : AccountNo
  target : Target
  cls : JobClass
  copies : Nat
  runs : Option (List Run)
  received : Nat
  commit : Option Commit
  hold : Option Nat
  hostHold : Bool
  delivered : Nat
  reprinted : Nat
  state : JobState
  starve : Option Starve
  deriving DecidableEq, Repr

/-- Colour condition of a filter (R9). -/
inductive ColourCond where
  | any | colourOnly | monoOnly
  deriving DecidableEq, Repr

/-- Action of a filter (R9). -/
inductive FilterAction where
  | hold
  | flag
  | redirect (q : PoolNo)
  deriving DecidableEq, Repr

/-- One filter table entry (R9). -/
structure Filter where
  enabled : Bool
  account : Byte
  mask : Byte
  media : BitVec 16
  colour : ColourCond
  minSheets : Nat
  action : FilterAction
  deriving DecidableEq, Repr

/-- The default filter entry (R9). -/
def Filter.default : Filter :=
  { enabled := false, account := 0, mask := 0, media := 0, colour := .any, minSheets := 0, action := .hold }

/-! ## The spool (spec/02) -/

/-- A block in use: its used bytes in order (the used length is their number), the chain link, and the
check word once the block is closed (R24, R25). -/
structure Block where
  data : List Byte
  link : Option Nat
  check : Option (BitVec 16)
  deriving DecidableEq, Repr

/-- Page states (R27). -/
inductive PageState where
  | filling | complete | damaged | released
  deriving DecidableEq, Repr

/-- A page descriptor in use (R27). -/
structure Page where
  job : Entry
  number : Nat
  state : PageState
  byteLen : Nat
  first : Option Nat
  last : Option Nat
  deriving DecidableEq, Repr

/-- The spool: the free list with its top first (R26), the blocks in use by number, the descriptors in
use by number. Both lists have strictly rising numbers (`Spool.wf`); an unlisted block or descriptor is
free. -/
structure Spool where
  free : List Nat
  blocks : List (Nat × Block)
  pool : List (Nat × Page)
  deriving DecidableEq, Repr

/-- The spool after a start of the part and after FLUSH: every block free, block 0 on top; every
descriptor free (R26, R27, R39). -/
def Spool.fresh : Spool := { free := List.range Config.nBlocks, blocks := [], pool := [] }

/-! ## The paper path and the presses (spec/03, spec/05) -/

/-- State of a path list entry (R44). -/
inductive EntryState where
  | sending | sent | picked
  deriving DecidableEq, Repr

/-- A path list entry (R44); `job` is the job entry and the position ordinal, absent for a service sheet. -/
structure PathEntry where
  seq : Seq
  job : Option (Entry × Nat)
  sides : Nat
  media : Nat
  state : EntryState
  deriving DecidableEq, Repr

/-- The send state of a press (R45): the side being sent, the bytes of it already framed, and whether the
frame that ends the side has been given to the transmitter (R48). -/
inductive SendState where
  | idle
  | sending (side framed : Nat) (ended : Bool)
  deriving DecidableEq, Repr

/-- Frames from the part to a press (spec/05 section 5.1, spec/12.6). -/
inductive PFrame where
  | linked
  | sheet (seq : Seq) (media sides : Nat)
  | data (seq : Seq) (side : Nat) (bytes : List Byte)
  | abort (seq : Seq)
  | wake
  | sleep
  | calibrate (long : Bool) (count : Nat)
  | flushPath
  deriving DecidableEq, Repr

/-- Wake origins (R75). -/
inductive WakeOrigin where
  | demand | host
  deriving DecidableEq, Repr

/-- Halt causes (R91). -/
inductive HaltCause where
  | cover | wakeFail | calFail
  deriving DecidableEq, Repr

/-- The run record of a calibrating press (R111): kind, sheet count, pattern sheets started. -/
structure CalRun where
  long : Bool
  count : Nat
  started : Nat
  deriving DecidableEq, Repr

/-- The ten press states with the items that exist only in them (spec/05 section 5.5, R75, R91, R109,
R111). `busy` holds the media class for which MEDIA_WAIT stands, if it stands (R51). Timers are in ms. -/
inductive PressState where
  | down
  | asleep
  | wakeWait (origin : WakeOrigin)
  | waking (timer : Nat)
  | idle (sleepPending : Bool) (timer : Nat)
  | busy (mediaWait : Option Nat)
  | jammed
  | halted (cause : HaltCause)
  | calibrating (run : CalRun) (timer : Nat)
  | sleeping
  deriving DecidableEq, Repr

/-- A restart in progress (R90): whether the line is still held, the window timer in ms, whether the start
of the part began it. -/
structure Restart where
  signal : Bool
  elapsed : Nat
  atStart : Bool
  deriving DecidableEq, Repr

/-- The working state of one press and its link (R44, R45, R63, R80, R81, R86 to R91, R107). `cover` is the
recorded cover, `some true` for OPEN; `rx` is the receiver: `none` while it hunts for a start byte, else the bytes of
the frame after it; `heldPool` is the pool in force while the present binding lasts, where PRESS SET has written another
(R79): it is read only while a job is bound. -/
structure Press where
  state : PressState
  credits : Nat
  seq : Seq
  cover : Option Bool
  heartbeat : Nat
  restart : Option Restart
  resumeMark : Bool
  path : List PathEntry
  send : SendState
  txq : List PFrame
  line : Option PFrame
  rx : Option (List Byte)
  fair : AccountNo
  awakeSince : Option Time
  sleepStart : Option Time
  heldPool : Option (Option PoolNo)
  deriving DecidableEq, Repr

/-- A press with its link not up and nothing in progress (R102). -/
def Press.down : Press :=
  { state := .down, credits := 0, seq := 0, cover := none, heartbeat := 0, restart := none
    resumeMark := false, path := [], send := .idle, txq := [], line := none, rx := none, fair := 0
    awakeSince := none, sleepStart := none, heldPool := none }

/-- A press at the start of the part: DOWN, its restart in progress (R90, R102). -/
def Press.start : Press :=
  { Press.down with restart := some { signal := true, elapsed := 0, atStart := true } }

/-- Learned capabilities of a press (R85). -/
structure Caps where
  duplex : Bool
  colour : Bool
  depth : Nat
  trays : List Tray
  deriving DecidableEq, Repr

/-- The retained record of one press: pool (`none` is NONE), circuit, timing settings, capabilities,
calibration counter and due flags (R64, R85, R105, R109, R110, R111). -/
structure PressRec where
  pool : Option PoolNo
  circuit : CircuitNo
  idleTimeout : Nat
  minAwake : Nat
  shortInterval : Nat
  longThreshold : Nat
  caps : Option Caps
  sheetCount : Nat
  shortDue : Bool
  longDue : Bool
  deriving DecidableEq, Repr

/-- The default press record (R102, R111, R117). -/
def PressRec.default : PressRec :=
  { pool := some 0, circuit := 0, idleTimeout := 20, minAwake := 5, shortInterval := 5000
    longThreshold := 8, caps := none, sheetCount := 0, shortDue := false, longDue := false }

/-- The retained settings of a circuit (R103). -/
structure CircuitSettings where
  w : Nat
  tw : Nat
  ts : Nat
  deriving DecidableEq, Repr

/-- The default circuit settings (R103). -/
def CircuitSettings.default : CircuitSettings := { w := 2, tw := 60, ts := 8 }

/-- The working state of a circuit: start-time ring, newest first, and wake queue, head first (R104, R105). -/
structure Circuit where
  ring : List Time
  queue : List PressNo
  deriving DecidableEq, Repr

/-! ## Money (spec/07, spec/08) -/

/-- A price table (R118). -/
structure PriceTable where
  gen : BitVec 8
  base : Vector Nat 16
  cf : Vector Nat 4
  df : Nat
  t1 : Nat
  t2 : Nat
  tf0 : Nat
  tf1 : Nat
  tf2 : Nat
  deriving DecidableEq, Repr

/-- The default contents of a price table (R118), with a generation. -/
def PriceTable.default (gen : BitVec 8) : PriceTable :=
  { gen := gen, base := Vector.replicate 16 0, cf := Vector.replicate 4 256, df := 256
    t1 := 0, t2 := 0, tf0 := 256, tf1 := 256, tf2 := 256 }

/-- Account states (R133). -/
inductive AccountState where
  | unused | active | suspended
  deriving DecidableEq, Repr

/-- An account record (R133); the balance is in cents, the rest but the limit in sub-cents. -/
structure Account where
  state : AccountState
  balance : Int
  limit : Nat
  residue : Nat
  holdTotal : Nat
  lifeSheets : Nat
  lifeCharged : Nat
  deriving DecidableEq, Repr

/-- An account with every field 0 (R134). -/
def Account.zero (st : AccountState) : Account :=
  { state := st, balance := 0, limit := 0, residue := 0, holdTotal := 0, lifeSheets := 0, lifeCharged := 0 }

/-- A meter row (R145). -/
structure Meter where
  sheets : Nat
  mono : Nat
  colour : Nat
  service : Nat
  jams : Nat
  deriving DecidableEq, Repr

/-- A meter row of zeros (R134). -/
def Meter.zero : Meter := { sheets := 0, mono := 0, colour := 0, service := 0, jams := 0 }

/-! ## Alerts (spec/09) -/

/-- The 13 alert kinds in the order of R148. -/
inductive AlertKind where
  | jam | mediaOut | coverOpen | linkDown | jobStarved | creditWait | supplyLow
  | wakeFail | spoolFault | jobFlagged | calFail | protocolFault | overflow
  deriving DecidableEq, Repr

/-- Alert sources (R148). -/
inductive Source where
  | press (p : PressNo)
  | job (serial : Serial)
  | part
  deriving DecidableEq, Repr

/-- Alert states (R148). -/
inductive AlertState where
  | activeUnacked | activeAcked | clearedUnacked
  deriving DecidableEq, Repr

/-- An occupied alert entry (R148). -/
structure Alert where
  kind : AlertKind
  source : Source
  detail : Option Nat
  level : Nat
  state : AlertState
  occurrences : Nat
  raisedAt : Time
  changedAt : Time
  deriving DecidableEq, Repr

/-- The action an ALERT REPORT carries (R159). -/
inductive AlertAction where
  | raised | merged | reopened | escalated | acked | cleared | removed
  deriving DecidableEq, Repr

/-! ## The host link (spec/10) -/

/-- A pending report (R170, R172). An alert entry's report carries the action of the latest change and the
replacement mark (R159). -/
inductive Report where
  | start
  | job (e : Entry)
  | press (p : PressNo)
  | alert (n : AlertNo) (action : AlertAction) (replaced : Bool)
  deriving DecidableEq, Repr

/-- A received request in the intake: the frame's tag and kind and the request it spells (R165, R166). -/
structure Queued where
  tag : Byte
  kind : Byte
  req : Request
  deriving DecidableEq, Repr

/-- A message from the part to the host (R162): kind, tag, body. -/
structure HostMsg where
  kind : Byte
  tag : Byte
  body : List Byte
  deriving DecidableEq, Repr

/-- The report on the line (R169); `final` names the job entry and serial that the end of a final JOB
REPORT frees (R22). -/
structure TxReport where
  msg : HostMsg
  final : Option (Entry × Serial)
  deriving DecidableEq, Repr

/-- The receive framer (R163, R164): `bytes` is `none` while hunting, else the bytes after the start byte;
`atSpace` while the line is held at space after a break. -/
structure Framer where
  bytes : Option (List Byte)
  atSpace : Bool
  deriving DecidableEq, Repr

/-! ## Supply and retention (spec/11) -/

/-- Arbitration modes (R63). -/
inductive Mode where
  | cls | fair | aged
  deriving DecidableEq, Repr

/-- The schedule settings (R175). -/
structure Schedule where
  mode : Mode
  ageStep : Nat
  starve : Nat
  escalation : Nat
  buzzer : Nat
  threshold : Nat
  deriving DecidableEq, Repr

/-- The default schedule settings (R175). -/
def Schedule.default : Schedule :=
  { mode := .cls, ageStep := 10, starve := 30, escalation := 120, buzzer := 12, threshold := 3 }

/-- The sticky fault set (R180). -/
structure Sticky where
  spoolCheck : Bool
  pressProtocol : Bool
  deriving DecidableEq, Repr

/-- The retained domain (spec/00 section 3.2). `levels` are the settable levels in the order of ALERT
LEVELS (R149). -/
structure Retained where
  accounts : Vector Account 256
  meters : Vector (Vector Meter 16) 12
  current : PriceTable
  other : PriceTable
  filters : Vector Filter 8
  levels : Vector Nat 12
  presses : Vector PressRec 12
  circuits : Vector CircuitSettings 4
  schedule : Schedule
  sticky : Sticky
  deriving DecidableEq, Repr

/-- The default account table: account 0 ACTIVE, the others UNUSED, every field 0 (R134). -/
def defaultAccounts : Vector Account 256 :=
  (Vector.replicate 256 (Account.zero .unused)).set 0 (Account.zero .active)

/-- The default levels in the order of ALERT LEVELS: JAM, MEDIA_OUT, COVER_OPEN, WAKE_FAIL, LINK_DOWN,
SPOOL_FAULT, JOB_FLAGGED, JOB_STARVED, CREDIT_WAIT, SUPPLY_LOW, CAL_FAIL, PROTOCOL_FAULT (R149). -/
def defaultLevels : Vector Nat 12 := #v[10, 6, 4, 8, 9, 11, 3, 5, 2, 13, 7, 9]

/-- The retained domain after a retained loss (R175): every owner's defaults. -/
def Retained.default : Retained :=
  { accounts := defaultAccounts
    meters := Vector.replicate 12 (Vector.replicate 16 Meter.zero)
    current := PriceTable.default 1
    other := PriceTable.default 0
    filters := Vector.replicate 8 Filter.default
    levels := defaultLevels
    presses := Vector.replicate 12 PressRec.default
    circuits := Vector.replicate 4 CircuitSettings.default
    schedule := Schedule.default
    sticky := { spoolCheck := false, pressProtocol := false } }

/-- Reset causes (R176). -/
inductive ResetCause where
  | power | resetInput | restart
  deriving DecidableEq, Repr

/-- Whether the part runs (R175, R176): the main supply off; held in start by the reset input; starting
(START_OF_PART has not completed); running. A start under way carries the cause it will record. -/
inductive Phase where
  | off
  | held (cause : ResetCause)
  | starting (cause : ResetCause)
  | running
  deriving DecidableEq, Repr

/-- Work a step has raised and not yet done (the model's own, log entry 5): a decision point of a press
(R66), a decision point of a job (R67), an examination of a press's sheet conditions (R46, R51, R114). -/
inductive Task where
  | decidePress (p : PressNo)
  | decideJob (e : Entry)
  | examine (p : PressNo)
  deriving DecidableEq, Repr

/-- The state of the part. `pending` is the queue of waiting commands, first in, first out; `agenda` and
`demand` are the model's own and are empty between steps; `cellHolds` is whether the backup cell stands above the
retention voltage (R175; log entry 19). -/
structure State where
  phase : Phase
  resetPin : Bool
  retainedValid : Bool
  cellHolds : Bool
  ret : Retained
  sense : Nat
  low : Bool
  cause : ResetCause
  lost : Bool
  time : Time
  ms : Nat
  rate : Nat
  framer : Framer
  intake : List Queued
  slot : Option HostMsg
  restartPending : Bool
  txReport : Option TxReport
  reports : List Report
  jobs : Vector (Option Job) 64
  serialCounter : Serial
  commitCounter : Serial
  spool : Spool
  presses : Vector Press 12
  circuits : Vector Circuit 4
  alerts : Vector (Option Alert) 32
  buttonArmed : Bool
  agenda : List Task
  demand : Bool
  pending : List Instr
  deriving DecidableEq, Repr

/-- Faults that stop the block. It has none: a bad request is refused by a reply code (R167), a bad frame is
discarded (R80, R163), a protocol fault restarts a link (R56). No command raises a fault. -/
inductive Fault where
  deriving DecidableEq, Repr

/-- Refusals. `notModelled` is raised by `exec` for a command that has no meaning yet, and is safe; every
command of this model has its meaning, so no arm raises it. -/
inductive Refusal where
  | notModelled (mnemonic : String)
  deriving DecidableEq, Repr

/-- The state with no working state: nothing in any block, every press DOWN, no report pending (spec/11:
working state is rebuilt from nothing at every start of the part). -/
def State.blank (ret : Retained) : State :=
  { phase := .off, resetPin := false, retainedValid := true, cellHolds := true, ret := ret, sense := 3300
    low := false, cause := .power, lost := false, time := 0, ms := 0, rate := 0
    framer := { bytes := none, atSpace := false }, intake := [], slot := none, restartPending := false
    txReport := none, reports := [], jobs := Vector.replicate 64 none, serialCounter := 1
    commitCounter := 0, spool := Spool.fresh, presses := Vector.replicate 12 Press.down
    circuits := Vector.replicate 4 { ring := [], queue := [] }, alerts := Vector.replicate 32 none
    buttonArmed := true, agenda := [], demand := false, pending := [] }

/-- The machine right after reset: a supply start at which the retained domain was found lost (R2, R26,
R39, R44, R63, R102, R117, R120, R134, R161, R173, R175, R176). Log entry 13 names the values the manual
leaves open: the straps, the sense, the button. -/
def State.reset : State :=
  { State.blank Retained.default with
    phase := .running
    lost := true
    reports := [.start]
    presses := Vector.replicate 12 Press.start }

end Sys2Proof.Machine
end

