-- ==== Sys2Proof/Machine/Ops.lean ====
section
/-! DEFINITION. Named operations that every block uses: byte layouts, the CRC-16, sparse tables, the accessors
of jobs, presses, accounts and records, and the marking of pending reports. -/

namespace Sys2Proof.Machine

/-! ## Bytes (spec/12) -/

/-- The low `k` bytes of a number, least significant byte first (spec/00 section 6.3). -/
def le : Nat → Nat → List Byte
  | 0, _ => []
  | k + 1, n => BitVec.ofNat 8 n :: le k (n / 256)

/-- A signed quantity in `k` bytes, two's complement, least significant byte first (R181). -/
def leInt (k : Nat) (i : Int) : List Byte := le k (i % (256 ^ k : Nat)).toNat

/-- The number that bytes spell, least significant byte first. -/
def ofLe : List Byte → Nat
  | [] => 0
  | b :: bs => b.toNat + 256 * ofLe bs

/-- An optional field: a presence byte and the field's bytes, which are 0 when it is absent (R181). -/
def optLe (k : Nat) : Option Nat → List Byte
  | some n => 1#8 :: le k n
  | none => 0#8 :: le k 0

/-- A byte of flags, the first flag at bit 0; undefined bits are 0 (R181). -/
def flagBits : List Bool → Nat
  | [] => 0
  | b :: bs => b.toNat + 2 * flagBits bs

/-- A yes or no field: no is 0, yes is 1 (R181). -/
def yesNo (b : Bool) : List Byte := le 1 b.toNat

/-- A list preceded by its 1-byte item count (spec/12.4). -/
def counted (items : List (List Byte)) : List Byte := le 1 items.length ++ items.flatten

/-! ## The CRC-16 (R25) -/

/-- One bit of the CRC: shift left, and subtract the polynomial x^16+x^12+x^5+1 if the top bit left. -/
def crcBit (c : BitVec 16) : BitVec 16 :=
  if c.msb then (c <<< 1) ^^^ 0x1021#16 else c <<< 1

/-- One byte into the CRC, most significant bit first. -/
def crcByte (c : BitVec 16) (b : Byte) : BitVec 16 :=
  Nat.repeat crcBit 8 (c ^^^ (b.setWidth 16 <<< 8))

/-- The check of the spool and of both links (R25): initial value FFFFh, not reflected, no final value. -/
def crc16 (bytes : List Byte) : BitVec 16 := bytes.foldl crcByte 0xFFFF#16

/-! ## Numbers -/

/-- Addition of a saturating 32-bit counter (R145). -/
def satAdd32 (a b : Nat) : Nat := min (a + b) Config.max32

/-- Addition of a saturating 48-bit quantity (R133). -/
def satAdd48 (a b : Nat) : Nat := min (a + b) Config.max48

/-- A value clamped into a range (R167). -/
def clamp (lo hi n : Nat) : Nat := max lo (min hi n)

/-- Seconds from `since` to `now`, by part time (spec/00 section 6.5). -/
def elapsed (now since : Time) : Nat := (now - since).toNat

/-! ## Sparse tables: lists of (number, record) with strictly rising numbers -/

/-- Write one record of a sparse table, keeping the numbers rising. -/
def sput {α : Type} (k : Nat) (v : α) : List (Nat × α) → List (Nat × α)
  | [] => [(k, v)]
  | (k', v') :: m =>
    if k < k' then (k, v) :: (k', v') :: m
    else if k = k' then (k, v) :: m
    else (k', v') :: sput k v m

/-- Remove one record of a sparse table. -/
def sdel {α : Type} (k : Nat) (m : List (Nat × α)) : List (Nat × α) := m.filter fun x => x.1 != k

/-- Whether the numbers of a sparse table rise strictly and stay below a bound. -/
def ssorted {α : Type} (bound : Nat) (m : List (Nat × α)) : Bool :=
  decide (m.Pairwise fun x y => x.1 < y.1) && m.all fun x => x.1 < bound

/-- The lowest number from `n` on that a sparse table does not list. -/
def firstGap {α : Type} : Nat → List (Nat × α) → Nat
  | n, [] => n
  | n, (k, _) :: m => if k = n then firstGap (n + 1) m else n

/-! ## Accessors -/

/-- All press numbers in ascending order. -/
def allPresses : List PressNo := List.finRange 12

/-- All job entries in ascending order. -/
def allEntries : List Entry := List.finRange 64

/-- The job record of an entry, `none` when the entry is FREE. -/
def State.job (s : State) (e : Entry) : Option Job := s.jobs[e]

/-- Write a job entry; `none` frees it. -/
def State.setJob (e : Entry) (j : Option Job) (s : State) : State := { s with jobs := s.jobs.set e j }

/-- Change the record of a live entry. -/
def State.modJob (e : Entry) (f : Job → Job) (s : State) : State :=
  { s with jobs := s.jobs.set e ((s.job e).map f) }

/-- The working state of a press. -/
def State.press (s : State) (p : PressNo) : Press := s.presses[p]

/-- Change the working state of a press. -/
def State.modPress (p : PressNo) (f : Press → Press) (s : State) : State :=
  { s with presses := s.presses.set p (f (s.press p)) }

/-- The retained record of a press. -/
def State.pressRec (s : State) (p : PressNo) : PressRec := s.ret.presses[p]

/-- Change the retained record of a press. -/
def State.modRec (p : PressNo) (f : PressRec → PressRec) (s : State) : State :=
  { s with ret := { s.ret with presses := s.ret.presses.set p (f (s.pressRec p)) } }

/-- The working state of a circuit. -/
def State.circuit (s : State) (c : CircuitNo) : Circuit := s.circuits[c]

/-- Change the working state of a circuit. -/
def State.modCircuit (c : CircuitNo) (f : Circuit → Circuit) (s : State) : State :=
  { s with circuits := s.circuits.set c (f (s.circuit c)) }

/-- An account record. -/
def State.account (s : State) (a : AccountNo) : Account := s.ret.accounts[a]

/-- Change an account record. -/
def State.modAccount (a : AccountNo) (f : Account → Account) (s : State) : State :=
  { s with ret := { s.ret with accounts := s.ret.accounts.set a (f (s.account a)) } }

/-- The press a job is bound to: present exactly while PRINTING or DRAINING (R1). -/
def JobState.bound : JobState → Option PressNo
  | .printing p => some p
  | .draining p _ => some p
  | _ => none

/-- The job bound to a press, if any (R1). -/
def State.boundJob (s : State) (p : PressNo) : Option Entry :=
  allEntries.find? fun e => (s.job e).any fun j => j.state.bound == some p

/-- Append work to the step's agenda (log entry 5). -/
def State.push (t : Task) (s : State) : State := { s with agenda := s.agenda ++ [t] }

/-- Ask that wake demand be evaluated in this step (R75). -/
def State.wantDemand (s : State) : State := { s with demand := true }

/-! ## Pending reports (R170) -/

/-- Whether two reports have one subject (R170). -/
def Report.sameSubject : Report → Report → Bool
  | .start, .start => true
  | .job e, .job e' => e == e'
  | .press p, .press p' => p == p'
  | .alert n _ _, .alert n' _ _ => n == n'
  | _, _ => false

/-- Make a report pending: in place if one of its subject is pending, else at the tail (R170). -/
def State.mark (r : Report) (s : State) : State :=
  { s with reports :=
      if s.reports.any r.sameSubject then s.reports.map fun x => if r.sameSubject x then r else x
      else s.reports ++ [r] }

/-! ## Codes (R181) -/

/-- Reply codes in the order of R181. -/
inductive ReplyCode where
  | ok | unknown | length | field | noJob | noAccount | noPress | state | tableFull | spoolFull
  | sequence | target | insufficient | busy
  deriving DecidableEq, Repr

/-- The byte of a reply code (R181). -/
def ReplyCode.code : ReplyCode → Nat
  | .ok => 0 | .unknown => 1 | .length => 2 | .field => 3 | .noJob => 4 | .noAccount => 5
  | .noPress => 6 | .state => 7 | .tableFull => 8 | .spoolFull => 9 | .sequence => 10
  | .target => 11 | .insufficient => 12 | .busy => 13

/-- The code of a job state (R181). -/
def JobState.code : JobState → Nat
  | .opened => 1 | .creditWait => 2 | .held => 3 | .queued _ => 4 | .printing _ => 5
  | .draining _ _ => 6 | .starved => 7 | .fault => 8 | .finished _ => 9

/-- The code of an outcome (R181). -/
def JobOutcome.code : JobOutcome → Nat
  | .completed => 0 | .cancelled => 1 | .faulted => 2

/-- The code of a drain target (R181). -/
def DrainTarget.code : DrainTarget → Nat
  | .held => 0 | .starved => 1 | .fault => 2 | .cancelled => 3

/-- The code of a class (R181). -/
def JobClass.code : JobClass → Nat
  | .rush => 0 | .normal => 1 | .bulk => 2

/-- The class of a code; other codes are undefined (R181). -/
def JobClass.ofCode (n : Nat) : Option JobClass :=
  if n = 0 then some .rush else if n = 1 then some .normal else if n = 2 then some .bulk else none

/-- The byte of a target: a press, or 10h plus a pool (R181). -/
def Target.code : Target → Nat
  | .press p => p.val
  | .pool q => 16 + q.val

/-- The code of a press state (R181). -/
def PressState.code : PressState → Nat
  | .down => 0 | .asleep => 1 | .wakeWait _ => 2 | .waking _ => 3 | .idle _ _ => 4 | .busy _ => 5
  | .jammed => 6 | .halted _ => 7 | .calibrating _ _ => 8 | .sleeping => 9

/-- The code of a halt cause (R181). -/
def HaltCause.code : HaltCause → Nat
  | .cover => 0 | .wakeFail => 1 | .calFail => 2

/-- The code of an alert kind: the order of R148 (R181). -/
def AlertKind.code : AlertKind → Nat
  | .jam => 0 | .mediaOut => 1 | .coverOpen => 2 | .linkDown => 3 | .jobStarved => 4 | .creditWait => 5
  | .supplyLow => 6 | .wakeFail => 7 | .spoolFault => 8 | .jobFlagged => 9 | .calFail => 10
  | .protocolFault => 11 | .overflow => 12

/-- The code of an alert state (R181). -/
def AlertState.code : AlertState → Nat
  | .activeUnacked => 0 | .activeAcked => 1 | .clearedUnacked => 2

/-- The code of an alert action (R181). -/
def AlertAction.code : AlertAction → Nat
  | .raised => 0 | .merged => 1 | .reopened => 2 | .escalated => 3 | .acked => 4 | .cleared => 5 | .removed => 6

/-- The code of an account state (R181). -/
def AccountState.code : AccountState → Nat
  | .unused => 0 | .active => 1 | .suspended => 2

/-- The account state of a code (R181). -/
def AccountState.ofCode (n : Nat) : Option AccountState :=
  if n = 0 then some .unused else if n = 1 then some .active else if n = 2 then some .suspended else none

/-- The code of an arbitration mode (R181). -/
def Mode.code : Mode → Nat
  | .cls => 0 | .fair => 1 | .aged => 2

/-- The arbitration mode of a code (R181). -/
def Mode.ofCode (n : Nat) : Option Mode :=
  if n = 0 then some .cls else if n = 1 then some .fair else if n = 2 then some .aged else none

/-- The code of a colour condition (R181). -/
def ColourCond.code : ColourCond → Nat
  | .any => 0 | .colourOnly => 1 | .monoOnly => 2

/-- The colour condition of a code (R181). -/
def ColourCond.ofCode (n : Nat) : Option ColourCond :=
  if n = 0 then some .any else if n = 1 then some .colourOnly else if n = 2 then some .monoOnly else none

/-- The code of a page state, in the order of R27 (log entry 8). -/
def PageState.code : PageState → Nat
  | .filling => 0 | .complete => 1 | .damaged => 2 | .released => 3

/-- The code of a reset cause, bit 7 the RETAINED_LOST mark (R181). -/
def ResetCause.code (c : ResetCause) (lost : Bool) : Nat :=
  (match c with | .power => 0 | .resetInput => 1 | .restart => 2) + if lost then 128 else 0

/-- The source type and value bytes of an alert (spec/12.5); the value of PART is 0 (log entry 49). -/
def Source.bytes : Source → List Byte
  | .press p => le 1 0 ++ le 4 p.val
  | .job n => le 1 1 ++ le 4 n.toNat
  | .part => le 1 2 ++ le 4 0

end Sys2Proof.Machine
end

