-- ==== Sys2Proof/Decode.lean ====
section
/-! DEFINITION. Reading the messages of both links (spec/12): the request a host frame's kind and body spell, the press
frame a kind and body spell; the bytes of the messages to the part and of the frames it sends to a press; and
`decodeTableWord`, which answers none because no row of spec/opcode_table.json gives an encoding in bits. -/

namespace Sys2Proof

open Sys2Proof.Machine

/-- No row of spec/opcode_table.json gives bits, so no word spells a command. -/
def decodeTableWord (_nbits _w : Nat) : Option Instr := none

namespace Machine

/-- The byte at an offset of a body, 0 beyond its end. -/
def byteAt (b : List Byte) (i : Nat) : Byte := b.getD i 0

/-- The field of `k` bytes at an offset of a body, least significant byte first (spec/12). -/
def fieldAt (b : List Byte) (i k : Nat) : Nat := ofLe ((b.drop i).take k)

/-- The handle at the start of a body: entry, serial (R181). -/
def handleOf (b : List Byte) : Handle :=
  { entry := byteAt b 0, serial := BitVec.ofNat 32 (fieldAt b 1 4) }

/-- `n` list items of `k` bytes each from an offset on. -/
def itemsAt (b : List Byte) (i k n : Nat) : List Nat := (List.range n).map fun x => fieldAt b (i + k * x) k

/-- The runs of a JOB RUNS body (spec/12.4). -/
def runsAt (b : List Byte) : List RunSpec :=
  (List.range ((b.length - 7) / 5)).map fun x =>
    { pages := BitVec.ofNat 16 (fieldAt b (7 + 5 * x) 2), media := byteAt b (9 + 5 * x)
      duplex := byteAt b (10 + 5 * x), band := byteAt b (11 + 5 * x) }

/-- A request whose body must have one fixed length (R181). -/
def sized (b : List Byte) (n : Nat) (r : Request) : Request := if b.length = n then r else .badLength

/-- PRICE WRITE's body (R121, log entry 9): the group, the first index for BASE and COLOUR, then a counted list
of values of the group's widths. An undefined group code is left to the request's own first check. -/
def priceWriteOf (b : List Byte) : Request :=
  let g := byteAt b 0
  if b.isEmpty then .badLength
  else if g = 0 then
    let n := (byteAt b 2).toNat
    sized b (3 + 6 * n) (.priceWrite g (byteAt b 1) (itemsAt b 3 6 n))
  else if g = 1 then
    let n := (byteAt b 2).toNat
    sized b (3 + 2 * n) (.priceWrite g (byteAt b 1) (itemsAt b 3 2 n))
  else if g = 2 then
    let n := (byteAt b 1).toNat
    sized b (2 + 2 * n) (.priceWrite g 0 (itemsAt b 2 2 n))
  else if g = 3 then
    if byteAt b 1 = 5 then
      sized b 16 (.priceWrite g 0
        [fieldAt b 2 4, fieldAt b 6 4, fieldAt b 10 2, fieldAt b 12 2, fieldAt b 14 2])
    else .badLength
  else if g = 4 then (if byteAt b 1 = 0 then sized b 2 (.priceWrite g 0 []) else .badLength)
  else .priceWrite g 0 []

/-- The request that a host frame's kind and body spell (spec/12.2, 12.4, R166, R167, R181). FILTER SET carries its pool
byte with every action (log entry 52). -/
def requestOf (kind : Byte) (b : List Byte) : Request :=
  match kind.toNat with
  | 0x01 => sized b 4 (.jobOpen (byteAt b 0) (byteAt b 1) (byteAt b 2) (byteAt b 3))
  | 0x02 =>
    if 7 ≤ b.length && (b.length - 7) % 5 = 0 then
      .jobRuns (handleOf b) (BitVec.ofNat 16 (fieldAt b 5 2)) (runsAt b)
    else .badLength
  | 0x03 =>
    if 8 ≤ b.length then
      .jobData (handleOf b) (BitVec.ofNat 16 (fieldAt b 5 2)) (byteAt b 7) (b.drop 8)
    else .badLength
  | 0x04 => sized b 5 (.jobCommit (handleOf b))
  | 0x05 => sized b 5 (.jobHold (handleOf b))
  | 0x06 => sized b 5 (.jobRelease (handleOf b))
  | 0x07 => sized b 5 (.jobCancel (handleOf b))
  | 0x08 => sized b 5 (.jobStatus (handleOf b))
  | 0x10 => sized b 6 (.accountSet (byteAt b 0).toNat (byteAt b 1) (BitVec.ofNat 32 (fieldAt b 2 4)))
  | 0x11 => sized b 5 (.accountAdjust (byteAt b 0).toNat (BitVec.ofNat 32 (fieldAt b 1 4)))
  | 0x12 => sized b 1 (.accountRead (byteAt b 0).toNat)
  | 0x18 => priceWriteOf b
  | 0x19 => sized b 0 .priceCommit
  | 0x1A => sized b 1 (.priceRead (byteAt b 0))
  | 0x20 =>
    sized b 10 (.pressSet (byteAt b 0)
      { pool := byteAt b 1, circuit := byteAt b 2, idleTimeout := byteAt b 3, minAwake := byteAt b 4
        shortInterval := BitVec.ofNat 32 (fieldAt b 5 4), longThreshold := byteAt b 9 })
  | 0x21 => sized b 1 (.pressRead (byteAt b 0))
  | 0x22 => sized b 1 (.pressWake (byteAt b 0))
  | 0x23 => sized b 1 (.pressSleep (byteAt b 0))
  | 0x24 => sized b 2 (.pressCalibrate (byteAt b 0) (byteAt b 1))
  | 0x25 => sized b 1 (.pressResume (byteAt b 0))
  | 0x26 => sized b 1 (.pressRestart (byteAt b 0))
  | 0x28 => sized b 5 (.circuitSet (byteAt b 0) (byteAt b 1) (BitVec.ofNat 16 (fieldAt b 2 2)) (byteAt b 4))
  | 0x29 =>
    sized b 8 (.scheduleSet
      { mode := byteAt b 0, ageStep := byteAt b 1, starve := BitVec.ofNat 16 (fieldAt b 2 2)
        escalation := BitVec.ofNat 16 (fieldAt b 4 2), buzzer := byteAt b 6, threshold := byteAt b 7 })
  | 0x2A =>
    sized b 13 (.filterSet (byteAt b 0)
      { enabled := byteAt b 1, account := byteAt b 2, mask := byteAt b 3
        media := BitVec.ofNat 16 (fieldAt b 4 2), colour := byteAt b 6
        minSheets := BitVec.ofNat 32 (fieldAt b 7 4), action := byteAt b 11, pool := byteAt b 12 })
  | 0x2B => sized b 1 (.filterRead (byteAt b 0))
  | 0x30 => if b.length = 1 + (byteAt b 0).toNat && !b.isEmpty then .alertLevels (b.drop 1) else .badLength
  | 0x31 => sized b 0 .alertList
  | 0x32 => sized b 7 (.alertAck (byteAt b 0) (byteAt b 1) (byteAt b 2) (BitVec.ofNat 32 (fieldAt b 3 4)))
  | 0x38 => sized b 2 (.meterRead (byteAt b 0) (byteAt b 1))
  | 0x40 => sized b 1 (.status (byteAt b 0))
  | 0x41 => sized b 0 .flush
  | 0x42 => sized b 0 .restart
  | 0x43 => sized b 0 .retainedClear
  | _ => .unknown

/-- The trays of a HELLO body (spec/12.6), absent when a state code is undefined. -/
def traysAt (b : List Byte) : Nat → Nat → Option (List Tray)
  | _, 0 => some []
  | i, n + 1 =>
    if (byteAt b (i + 1)).toNat ≤ 1 then
      (traysAt b (i + 2) n).map fun ts => { media := (byteAt b i).toNat, loaded := byteAt b (i + 1) = 1 } :: ts
    else none

/-- A field that takes the codes 0 and 1 (R181). -/
def coded (b : Byte) (f : Bool → PressIn) : PressIn := if b = 0 then f false else if b = 1 then f true else .junk

/-- The HELLO that a body spells (spec/12.6). -/
def helloOf (b : List Byte) : PressIn :=
  let n := (byteAt b 3).toNat
  if 4 ≤ b.length && b.length = 5 + 2 * n then
    match traysAt b 4 n with
    | none => .junk
    | some ts =>
      coded (byteAt b 0) fun d => coded (byteAt b 1) fun c => coded (byteAt b (4 + 2 * n)) fun m =>
        .hello d c (byteAt b 2).toNat ts m
  else .junk

/-- The press frame that a kind and body spell (spec/12.2, 12.6); `junk` when the kind is unknown, the body's
length does not match it, or a code is undefined (R82, R181). -/
def pressIn (kind : Byte) (b : List Byte) : PressIn :=
  match kind.toNat with
  | 0x41 => helloOf b
  | 0x42 => if b.length = 1 then coded (byteAt b 0) .beat else .junk
  | 0x43 => if b.length = 1 then .credit (byteAt b 0) else .junk
  | 0x44 => if b.length = 2 then .picked (BitVec.ofNat 16 (fieldAt b 0 2)) else .junk
  | 0x45 => if b.length = 2 then .delivered (BitVec.ofNat 16 (fieldAt b 0 2)) else .junk
  | 0x46 => if b.length = 1 then .jam (byteAt b 0) else .junk
  | 0x47 => if b.length = 0 then .clear else .junk
  | 0x48 => if b.length = 3 then coded (byteAt b 2) (.tray (byteAt b 0) (byteAt b 1)) else .junk
  | 0x49 => if b.length = 1 then coded (byteAt b 0) .cover else .junk
  | 0x4A => if b.length = 0 then .ready else .junk
  | 0x4B => if b.length = 0 then .asleep else .junk
  | 0x4C => if b.length = 1 then coded (byteAt b 0) (fun fail => .caldone (!fail)) else .junk
  | _ => .junk

/-! ## The bytes of the messages to the part (spec/12.4, 12.6) -/

/-- The bytes of a handle (R181). -/
def handleBytes (h : Handle) : List Byte := h.entry :: le 4 h.serial.toNat

/-- The bytes of a run of JOB RUNS (spec/12.4). -/
def runBytes (r : RunSpec) : List Byte := le 2 r.pages.toNat ++ [r.media, r.duplex, r.band]

/-- The body of PRICE WRITE (R121, log entry 9). -/
def priceWriteBody (group first : Byte) (values : List Nat) : List Byte :=
  if group = 0 then [group, first] ++ counted (values.map (le 6))
  else if group = 1 then [group, first] ++ counted (values.map (le 2))
  else if group = 2 then group :: counted (values.map (le 2))
  else if group = 3 then group :: counted ((values.take 2).map (le 4) ++ (values.drop 2).map (le 2))
  else if group = 4 then [group, 0]
  else [group]

/-- The body of a request (spec/12.4); a request that no layout spells has none. -/
def requestBody (r : Request) : List Byte :=
  match r with
  | .jobOpen a t c n => [a, t, c, n]
  | .jobRuns h d rs => handleBytes h ++ le 2 d.toNat ++ (rs.map runBytes).flatten
  | .jobData h k f b => handleBytes h ++ le 2 k.toNat ++ [f] ++ b
  | .jobCommit h | .jobHold h | .jobRelease h | .jobCancel h | .jobStatus h => handleBytes h
  | .accountSet a st l => le 1 a ++ [st] ++ le 4 l.toNat
  | .accountAdjust a x => le 1 a ++ le 4 x.toNat
  | .accountRead a => le 1 a
  | .priceWrite g f v => priceWriteBody g f v
  | .priceRead r => [r]
  | .pressSet p f =>
    [p, f.pool, f.circuit, f.idleTimeout, f.minAwake] ++ le 4 f.shortInterval.toNat ++ [f.longThreshold]
  | .pressRead p | .pressWake p | .pressSleep p | .pressResume p | .pressRestart p => [p]
  | .pressCalibrate p k => [p, k]
  | .circuitSet c w tw ts => [c, w] ++ le 2 tw.toNat ++ [ts]
  | .scheduleSet f => [f.mode, f.ageStep] ++ le 2 f.starve.toNat ++ le 2 f.escalation.toNat ++ [f.buzzer, f.threshold]
  | .filterSet n f =>
    [n, f.enabled, f.account, f.mask] ++ le 2 f.media.toNat ++ [f.colour] ++ le 4 f.minSheets.toNat
      ++ [f.action, f.pool]
  | .filterRead n => [n]
  | .alertLevels v => counted (v.map fun b => [b])
  | .alertAck e k st src => [e, k, st] ++ le 4 src.toNat
  | .meterRead p c => [p, c]
  | .status c => [c]
  | .priceCommit | .alertList | .flush | .restart | .retainedClear | .unknown | .badLength => []

/-- The bytes of a tray of HELLO: media class, state (spec/12.6). -/
def trayBytes (t : Tray) : List Byte := le 1 t.media ++ yesNo t.loaded

/-- The kind and body of a frame from a press (spec/12.2, 12.6); junk is a frame of no known kind. -/
def pressMsg (f : PressIn) : Byte × List Byte :=
  match f with
  | .hello d c depth trays asleep =>
    (0x41, yesNo d ++ yesNo c ++ le 1 depth ++ counted (trays.map trayBytes) ++ yesNo asleep)
  | .beat o => (0x42, yesNo o)
  | .credit n => (0x43, [n])
  | .picked q => (0x44, le 2 q.toNat)
  | .delivered q => (0x45, le 2 q.toNat)
  | .jam l => (0x46, [l])
  | .clear => (0x47, [])
  | .tray i m l => (0x48, [i, m] ++ yesNo l)
  | .cover o => (0x49, yesNo o)
  | .ready => (0x4A, [])
  | .asleep => (0x4B, [])
  | .caldone pass => (0x4C, yesNo (!pass))
  | .junk => (0, [])

/-- The bytes of a frame on a press link (spec/12.1, R80). -/
def pressFrame (kind : Byte) (body : List Byte) : List Byte :=
  let covered := le 2 body.length ++ [kind] ++ body
  0x5A#8 :: covered ++ le 2 (crc16 covered).toNat

/-- The kind and body of a frame from the part to a press (spec/12.2, 12.6). -/
def PFrame.msg (f : PFrame) : Byte × List Byte :=
  match f with
  | .linked => (0x01, le 2 0)
  | .sheet q media sides => (0x02, le 2 q.toNat ++ le 1 media ++ le 1 sides)
  | .data q side bytes => (0x03, le 2 q.toNat ++ le 1 side ++ bytes)
  | .abort q => (0x04, le 2 q.toNat)
  | .wake => (0x05, [])
  | .sleep => (0x06, [])
  | .calibrate long count => (0x07, yesNo long ++ le 1 count)
  | .flushPath => (0x08, [])

/-- The bytes of a frame from the part to a press (spec/12.1, R80). -/
def PFrame.bytes (f : PFrame) : List Byte := pressFrame f.msg.1 f.msg.2

end Machine

end Sys2Proof
end

