-- ==== Sys2Proof/Machine/Alerts.lean ====
section
/-! DEFINITION. The Alert Controller (spec/09): raising, ending, acknowledging and escalating alert entries, the
lamps and the buzzer. -/

namespace Sys2Proof.Machine

/-- All alert entries, in ascending order. -/
def allAlerts : List AlertNo := List.finRange 32

/-- The ordinary alert entries 0 to 30, in ascending order (R148). -/
def ordinaryAlerts : List AlertNo := allAlerts.filter fun n => n.val < 31

/-- The overflow entry (R148). -/
def overflowEntry : AlertNo := 31

/-- Whether a kind is a condition kind (R148). -/
def AlertKind.isCondition : AlertKind → Bool
  | .jam | .mediaOut | .coverOpen | .linkDown | .jobStarved | .creditWait | .supplyLow => true
  | .wakeFail | .spoolFault | .jobFlagged | .calFail | .protocolFault | .overflow => false

/-- The place of a settable kind in the order of ALERT LEVELS (R149); OVERFLOW has none. -/
def AlertKind.place : AlertKind → Option (Fin 12)
  | .jam => some 0 | .mediaOut => some 1 | .coverOpen => some 2 | .wakeFail => some 3
  | .linkDown => some 4 | .spoolFault => some 5 | .jobFlagged => some 6 | .jobStarved => some 7
  | .creditWait => some 8 | .supplyLow => some 9 | .calFail => some 10 | .protocolFault => some 11
  | .overflow => none

/-- The level table's level of a kind; OVERFLOW is fixed at 14 (R149). -/
def State.level (s : State) (k : AlertKind) : Nat :=
  match k.place with
  | some i => s.ret.levels[i]
  | none => 14

/-- The alert at an entry number. -/
def State.alert (s : State) (n : AlertNo) : Option Alert := s.alerts[n]

/-- Write an alert entry and mark its report pending with an action (R159). -/
def State.setAlert (n : AlertNo) (a : Option Alert) (act : AlertAction) (replaced : Bool) (s : State) : State :=
  { s with alerts := s.alerts.set n a }.mark (.alert n act replaced)

/-- The entry of a key, if there is one (R148). -/
def State.findAlert (s : State) (k : AlertKind) (src : Source) : Option AlertNo :=
  allAlerts.find? fun n => (s.alert n).any fun a => a.kind == k && a.source == src

/-- The alert after a raise merges into it or reopens it: occurrences rises, saturating at 65,535; the detail
is replaced if the raise carries one; a CLEARED_UNACKED entry is active again (R150). -/
def Alert.again (a : Alert) (detail : Option Nat) (now : Time) : Alert :=
  { a with
    occurrences := min (a.occurrences + 1) 65535
    detail := detail <|> a.detail
    changedAt := now
    state := if a.state = .clearedUnacked then .activeUnacked else a.state }

/-- The action of a raise into an existing entry (R150). -/
def Alert.againAction (a : Alert) : AlertAction :=
  if a.state = .clearedUnacked then .reopened else .merged

/-- A new alert (R150). -/
def Alert.fresh (k : AlertKind) (src : Source) (detail : Option Nat) (level : Nat) (now : Time) : Alert :=
  { kind := k, source := src, detail := detail, level := level, state := .activeUnacked
    occurrences := 1, raisedAt := now, changedAt := now }

/-- Whether entry `n` is to be replaced before entry `m`: lower level, then earlier changed at, then lower
number, which the order of the search gives (R151). -/
def replaceBefore (a b : Alert) (now : Time) : Bool :=
  a.level < b.level || (a.level == b.level && elapsed now b.changedAt < elapsed now a.changedAt)

/-- The ordinary CLEARED_UNACKED entry that a raise into a full table replaces (R151). -/
def State.replaceable (s : State) : Option AlertNo :=
  ordinaryAlerts.foldl (init := none) fun best n =>
    match s.alert n with
    | some a =>
      if a.state = .clearedUnacked then
        match best.bind fun m => (s.alert m).map fun b => (m, b) with
        | some (m, b) => if replaceBefore a b s.time then some n else some m
        | none => some n
      else best
    | none => best

/-- Count a raise into entry 31 as a raise of OVERFLOW (R151). -/
def State.overflowRaise (s : State) : State :=
  match s.alert overflowEntry with
  | some a => s.setAlert overflowEntry (some (a.again none s.time)) a.againAction false
  | none => s.setAlert overflowEntry (some (Alert.fresh .overflow .part none 14 s.time)) .raised false

/-- Raise an alert (R150, R151). -/
def State.raise (k : AlertKind) (src : Source) (detail : Option Nat) (s : State) : State :=
  match s.findAlert k src with
  | some n =>
    match s.alert n with
    | some a => s.setAlert n (some (a.again detail s.time)) a.againAction false
    | none => s
  | none =>
    if s.level k = 0 then s
    else
      let a := Alert.fresh k src detail (s.level k) s.time
      match ordinaryAlerts.find? fun n => (s.alert n).isNone with
      | some n => s.setAlert n (some a) .raised false
      | none =>
        match s.replaceable with
        | some n => s.setAlert n (some a) .raised true
        | none => s.overflowRaise

/-- The end of a condition (R152). -/
def State.endCondition (k : AlertKind) (src : Source) (s : State) : State :=
  match s.findAlert k src with
  | none => s
  | some n =>
    match s.alert n with
    | none => s
    | some a =>
      match a.state with
      | .activeUnacked =>
        s.setAlert n (some { a with state := .clearedUnacked, changedAt := s.time }) .cleared false
      | .activeAcked => s.setAlert n none .removed false
      | .clearedUnacked => s

/-- Whether an alert is unacknowledged (R155). -/
def Alert.unacked (a : Alert) : Bool := a.state != .activeAcked

/-- Acknowledge the alert at an entry (R153). -/
def State.ackAlert (n : AlertNo) (s : State) : State :=
  match s.alert n with
  | none => s
  | some a =>
    match a.state with
    | .activeUnacked =>
      if a.kind.isCondition then
        s.setAlert n (some { a with state := .activeAcked, changedAt := s.time }) .acked false
      else s.setAlert n none .removed false
    | .clearedUnacked => s.setAlert n none .removed false
    | .activeAcked => s

/-- The unacked entry the panel button acknowledges: highest level, then earliest changed at, then lowest
number (R155). -/
def State.buttonChoice (s : State) : Option AlertNo :=
  allAlerts.foldl (init := none) fun best n =>
    match s.alert n with
    | some a =>
      if a.unacked then
        match best.bind fun m => (s.alert m).map fun b => (m, b) with
        | some (m, b) =>
          if b.level < a.level || (b.level == a.level && elapsed s.time b.changedAt < elapsed s.time a.changedAt)
          then some n else some m
        | none => some n
      else best
    | none => best

/-- Whether an entry's escalation is due: ACTIVE_UNACKED, below level 15, one interval since changed at
(R156). -/
def State.escalationDue (s : State) (n : AlertNo) : Bool :=
  s.ret.schedule.escalation != 0 && (s.alert n).any fun a =>
    a.state == .activeUnacked && a.level < 15 && s.ret.schedule.escalation ≤ elapsed s.time a.changedAt

/-- Escalate an entry that is due (R156). -/
def State.escalate (n : AlertNo) (s : State) : State :=
  if s.escalationDue n then
    match s.alert n with
    | some a => s.setAlert n (some { a with level := a.level + 1, changedAt := s.time }) .escalated false
    | none => s
  else s

/-- Escalate every entry that is due: a change of the interval applies at once (R156). The entries are taken in ascending
number (log entry 43). -/
def State.escalateAll (s : State) : State := allAlerts.foldl (fun s n => s.escalate n) s

/-- The lamp of a level: bands 1-3, 4-7, 8-11, 12-15 (R157). -/
def lampOf (level : Nat) : Nat := level / 4

/-- Whether a lamp is lit (R157). -/
def State.lamp (s : State) (k : Nat) : Bool :=
  allAlerts.any fun n => (s.alert n).any fun a => a.unacked && 0 < a.level && lampOf a.level == k

/-- Whether the buzzer sounds (R157). -/
def State.buzzer (s : State) : Bool :=
  allAlerts.any fun n => (s.alert n).any fun a =>
    a.state == .activeUnacked && s.ret.schedule.buzzer ≤ a.level

/-- The panel byte: lamps 0 to 3 and the buzzer (R181). -/
def State.panelByte (s : State) : Nat :=
  flagBits [s.lamp 0, s.lamp 1, s.lamp 2, s.lamp 3, s.buzzer]

/-- Remove the alert entries whose source is a job serial, as FLUSH does (R158), in ascending number (log entry 43). -/
def State.removeJobAlerts (s : State) : State :=
  allAlerts.foldl (init := s) fun s n =>
    match s.alert n with
    | some a =>
      match a.source with
      | .job _ => s.setAlert n none .removed false
      | _ => s
    | none => s

/-- The 24 bytes of an occupied entry as ALERT REPORT offsets 4 to 27 lay them out (spec/12.4, 12.5). -/
def alertBytes (n : AlertNo) (a : Alert) (act : AlertAction) (replaced : Bool) : List Byte :=
  le 1 n.val ++ le 1 act.code ++ le 1 (flagBits [replaced, true]) ++ le 1 a.kind.code ++ a.source.bytes
    ++ optLe 2 a.detail ++ le 1 a.level ++ le 1 a.state.code ++ le 2 a.occurrences
    ++ le 4 a.raisedAt.toNat ++ le 4 a.changedAt.toNat

/-- ACK_BUTTON_PRESS: a debounced press, taken when the button has been released since the last one,
acknowledges one entry (R155). -/
def State.buttonPress (s : State) : State :=
  if s.buttonArmed then
    let s := { s with buttonArmed := false }
    match s.buttonChoice with
    | some n => s.ackAlert n
    | none => s
  else s

end Sys2Proof.Machine
end

