-- ==== Sys2Proof/Machine/Charge.lean ====
section
/-! DEFINITION. Sheet positions and their types (spec/03 R41, R42) and the Charge Engine's arithmetic (spec/07):
side price, nominal price, tier, sheet charge, estimate, and the jobs quoted under a table. -/

namespace Sys2Proof.Machine

/-! ## Sheets of a run list (R5, R41, R42) -/

/-- The sheets of one run: a duplex run takes two pages a sheet, the last may carry one (R5). -/
def Run.sheets (r : Run) : Nat := if r.duplex then (r.pages + 1) / 2 else r.pages

/-- Sheets per copy (R5). -/
def sheetsOf (runs : List Run) : Nat := (runs.map Run.sheets).sum

/-- The page count of a run list (spec/01 section 1.1). -/
def pagesOf (runs : List Run) : Nat := (runs.map (·.pages)).sum

/-- What a sheet index carries (R42): its type (media class, band, sides) and its pages. -/
structure Sheet where
  media : Nat
  band : Nat
  side1 : Nat
  side2 : Option Nat
  deriving DecidableEq, Repr

/-- The sides of a sheet, 1 or 2 (R42). -/
def Sheet.sides (sh : Sheet) : Nat := if sh.side2.isSome then 2 else 1

/-- The pages a sheet carries, side 1's first (R42). -/
def Sheet.pages (sh : Sheet) : List Nat := sh.side1 :: sh.side2.toList

/-- The sheet at index `j` within a run whose first page is `f` (R42). -/
def Run.sheet (r : Run) (f j : Nat) : Sheet :=
  if r.duplex then
    { media := r.media, band := r.band, side1 := f + 2 * j
      side2 := if 2 * j + 1 < r.pages then some (f + 2 * j + 1) else none }
  else { media := r.media, band := r.band, side1 := f + j, side2 := none }

/-- The sheet at sheet index `i` of a run list whose first page is `f` (R42). -/
def sheetAt : List Run → Nat → Nat → Option Sheet
  | [], _, _ => none
  | r :: rs, f, i => if i < r.sheets then some (r.sheet f i) else sheetAt rs (f + r.pages) (i - r.sheets)

/-- Sheets per copy of a job; 0 while its run list is absent. -/
def Job.perCopy (j : Job) : Nat := sheetsOf (j.runs.getD [])

/-- Total sheets of a job: copies times sheets per copy (R5). -/
def Job.total (j : Job) : Nat := j.copies * j.perCopy

/-- The page count of a job; it counts as 0 while the run list is absent (R1). -/
def Job.pageCount (j : Job) : Nat := pagesOf (j.runs.getD [])

/-- The sheet index of a position ordinal (R41). -/
def Job.sheetIndex (j : Job) (n : Nat) : Nat := (n - 1) % j.perCopy

/-- The copy, 1 to copies, of a position ordinal (R41). -/
def Job.copyOf (j : Job) (n : Nat) : Nat := (n - 1) / j.perCopy + 1

/-- The sheet at a position ordinal (R41, R42). -/
def Job.sheetOf (j : Job) (n : Nat) : Option Sheet := sheetAt (j.runs.getD []) 0 (j.sheetIndex n)

/-- The ordinal after `n`, or END after the last position (R43). -/
def Job.nextPosition (j : Job) (n : Nat) : Option Nat := if j.total ≤ n then none else some (n + 1)

/-- Move a committed job's cursor (R43). -/
def Job.setCursor (n : Option Nat) (j : Job) : Job :=
  match j.commit with
  | some c => { j with commit := some { c with cursor := n } }
  | none => j

/-- Whether a position is the last that carries its pages: its sheet in the last copy (R36). -/
def Job.lastCarrier (j : Job) (n : Nat) : Bool := j.copyOf n == j.copies

/-! ## Prices (R126 to R131) -/

/-- The rounded quotient by 256: half rounds up (spec/07 section 7.3). -/
def round256 (x : Nat) : Nat := (x + 128) / 256

/-- The base price of a media class. -/
def PriceTable.basePrice (t : PriceTable) (m : Nat) : Nat := t.base[m]?.getD 0

/-- The colour factor of a band. -/
def PriceTable.colourFactor (t : PriceTable) (b : Nat) : Nat := t.cf[b]?.getD 0

/-- The side price (R126). -/
def PriceTable.side (t : PriceTable) (m b : Nat) : Nat := round256 (t.basePrice m * t.colourFactor b)

/-- The nominal sheet price (R127). -/
def PriceTable.nominal (t : PriceTable) (m b sides : Nat) : Nat :=
  if sides = 2 then t.side m b + round256 (t.side m b * t.df) else t.side m b

/-- The tier of a position ordinal (R128). -/
def PriceTable.tier (t : PriceTable) (n : Nat) : Nat :=
  if n ≤ t.t1 then 0 else if n ≤ t.t2 then 1 else 2

/-- The factor of a tier (R129). -/
def PriceTable.tierFactor (t : PriceTable) (k : Nat) : Nat :=
  if k = 0 then t.tf0 else if k = 1 then t.tf1 else t.tf2

/-- The sheet charge of a type in a tier (R129). -/
def PriceTable.tierCharge (t : PriceTable) (m b sides k : Nat) : Nat :=
  round256 (t.nominal m b sides * t.tierFactor k)

/-- The sheet charge of a type at a position ordinal (R129). -/
def PriceTable.charge (t : PriceTable) (m b sides n : Nat) : Nat := t.tierCharge m b sides (t.tier n)

/-- The charge of a sheet at an ordinal. -/
def PriceTable.sheetCharge (t : PriceTable) (sh : Sheet) (n : Nat) : Nat :=
  t.charge sh.media sh.band sh.sides n

/-- How many of the ordinals i+1, S+i+1, ..., (C-1)S+i+1 of a sheet index are at most `bound` (R131). -/
def countUpTo (perCopy copies i bound : Nat) : Nat :=
  if bound < i + 1 then 0 else min copies ((bound - (i + 1)) / perCopy + 1)

/-- The groups of one sheet index: the sum over the tiers of its count of positions times the charge (R131). -/
def PriceTable.indexEstimate (t : PriceTable) (perCopy copies i : Nat) (sh : Sheet) : Nat :=
  let n0 := countUpTo perCopy copies i t.t1
  let n1 := countUpTo perCopy copies i (max t.t1 t.t2)
  n0 * t.tierCharge sh.media sh.band sh.sides 0
    + (n1 - n0) * t.tierCharge sh.media sh.band sh.sides 1
    + (copies - n1) * t.tierCharge sh.media sh.band sh.sides 2

/-- The estimate of a run list in a number of copies, formed by groups (R131). -/
def PriceTable.estimate (t : PriceTable) (runs : List Run) (copies : Nat) : Nat :=
  ((List.range (sheetsOf runs)).map fun i =>
    ((sheetAt runs 0 i).map fun sh => t.indexEstimate (sheetsOf runs) copies i sh).getD 0).sum

/-! ## Jobs quoted under a table (R119) -/

/-- Whether a job is quoted under a generation: committed with that price generation (R119). -/
def Job.quotedUnder (j : Job) (gen : BitVec 8) : Bool := j.commit.any fun c => c.gen == gen

/-- The count of live jobs quoted under a generation (R119). -/
def State.quoted (s : State) (gen : BitVec 8) : Nat :=
  (allEntries.filter fun e => (s.job e).any fun j => j.quotedUnder gen).length

/-- The table that prices a job's deliveries: the one whose generation is the job's (R119). -/
def State.tableOf (s : State) (gen : BitVec 8) : PriceTable :=
  if s.ret.current.gen = gen then s.ret.current else s.ret.other

/-- The number of FREE job entries (R171). -/
def State.freeEntries (s : State) : Nat := (allEntries.filter fun e => (s.job e).isNone).length

end Sys2Proof.Machine
end

