-- ==== Sys2Proof/Machine/Accounts.lean ====
section
/-! DEFINITION. The Account Table (spec/08): available credit, admission, sheet charges, the press meters. -/

namespace Sys2Proof.Machine

/-- The house account (R133). -/
def house : AccountNo := 0

/-- The available credit of an account in sub-cents, signed (R133). -/
def Account.available (a : Account) : Int :=
  (a.balance + a.limit) * 1000 - a.residue - a.holdTotal

/-- The credit test of a waiting job, without the test that no older job waits (R135, R136): available credit
for an account, the capacity of the hold total for the house account. -/
def State.creditFits (s : State) (a : AccountNo) (estimate : Nat) : Bool :=
  if a = house then (s.account a).holdTotal + estimate ≤ Config.max48
  else decide ((estimate : Int) ≤ (s.account a).available)

/-- Whether a job waits for credit on an account. -/
def Job.waitsOn (j : Job) (a : AccountNo) : Bool := j.state == .creditWait && j.account == a

/-- Whether an account has a job in CREDIT_WAIT (R135). -/
def State.hasWaiting (s : State) (a : AccountNo) : Bool :=
  allEntries.any fun e => (s.job e).any fun j => j.waitsOn a

/-- The admission test at commit (R135). -/
def State.admits (s : State) (a : AccountNo) (estimate : Nat) : Bool :=
  !s.hasWaiting a && s.creditFits a estimate

/-- How far a commit sequence lies behind the commit counter: the age order of R8. -/
def State.age (s : State) (j : Job) : Nat :=
  match j.commit with
  | some c => (s.commitCounter - c.seq).toNat
  | none => 0

/-- Of a list of entries, the one of the greatest key, the first of equals. -/
def pickMax (key : Entry → Nat) (l : List Entry) : Option Entry :=
  l.foldl (init := none) fun best e =>
    match best with
    | none => some e
    | some b => if key b < key e then some e else some b

/-- The age of the job at an entry, 0 for a FREE one. -/
def State.ageAt (s : State) (e : Entry) : Nat := ((s.job e).map s.age).getD 0

/-- The entries of an account's waiting jobs. -/
def State.waiting (s : State) (a : AccountNo) : List Entry :=
  allEntries.filter fun e => (s.job e).any fun j => j.waitsOn a

/-- The oldest waiting job of an account (R136). -/
def State.oldestWaiting (s : State) (a : AccountNo) : Option Entry := pickMax s.ageAt (s.waiting a)

/-- Whether a hold flag keeps a job from QUEUED: the filter's or the host's (R8, R12). -/
def Job.keptHeld (j : Job) : Bool := j.hostHold || j.commit.any fun c => c.filter.hold

/-- Put a job's estimate on hold (R135): the hold total rises and hold remaining is the estimate. -/
def State.reserve (e : Entry) (j : Job) (estimate : Nat) (s : State) : State :=
  (s.modAccount j.account fun a => { a with holdTotal := a.holdTotal + estimate }).setJob e
    (some { j with hold := some estimate })

/-- Take an admitted job to HELD or QUEUED, with its report pending and its eligibility offered to DSA (R8,
R12, R15, R22). -/
def State.enterAdmitted (e : Entry) (s : State) : State :=
  match s.job e with
  | none => s
  | some j =>
    if j.keptHeld then (s.setJob e (some { j with state := .held })).mark (.job e)
    else
      (((s.setJob e (some { j with state := .queued s.time })).mark (.job e)).push (.decideJob e)).wantDemand

/-- Admission of a waiting job (R12). -/
def State.admitJob (e : Entry) (s : State) : State :=
  match s.job e with
  | none => s
  | some j =>
    ((s.reserve e j ((j.commit.map (·.estimate)).getD 0)).enterAdmitted e).endCondition .creditWait (.job j.serial)

/-- The balance after a charge's cents: the house balance stops at its lower bound (R138, R139). -/
def chargedBalance (a : AccountNo) (balance : Int) (cents : Nat) : Int :=
  if a = house then max (balance - cents) (-Config.maxBalance) else balance - cents

/-- The account after a sheet charge of `c` sub-cents (R138 steps 2 to 4, R139). -/
def Account.charge (no : AccountNo) (c : Nat) (a : Account) : Account :=
  { a with
    holdTotal := a.holdTotal - c
    balance := chargedBalance no a.balance ((a.residue + c) / 1000)
    residue := (a.residue + c) % 1000
    lifeSheets := satAdd32 a.lifeSheets 1
    lifeCharged := satAdd48 a.lifeCharged c }

/-- The job after a sheet charge (R138 step 1). -/
def Job.charge (c : Nat) (j : Job) : Job :=
  { j with
    commit := j.commit.map fun x => { x with charged := x.charged + c }
    hold := j.hold.map fun h => h - c }

/-- Apply a sheet charge to a job and its account (R138). -/
def State.applyCharge (e : Entry) (c : Nat) (s : State) : State :=
  match s.job e with
  | none => s
  | some j => (s.setJob e (some (j.charge c))).modAccount j.account (Account.charge j.account c)

/-! ## Meters (R145) -/

/-- A meter row. -/
def State.meter (s : State) (p : PressNo) (m : Nat) : Meter := (s.ret.meters[p])[m]?.getD Meter.zero

/-- Change the meter row of a press and media class (R145). -/
def State.modMeter (p : PressNo) (m : Nat) (f : Meter → Meter) (s : State) : State :=
  { s with ret := { s.ret with
      meters := s.ret.meters.set p ((s.ret.meters[p]).setIfInBounds m (f (s.meter p m))) } }

/-- Count a delivered job sheet (R145). -/
def Meter.countSheet (band sides : Nat) (x : Meter) : Meter :=
  { x with
    sheets := satAdd32 x.sheets 1
    mono := if band = 0 then satAdd32 x.mono sides else x.mono
    colour := if band = 0 then x.colour else satAdd32 x.colour sides }

/-- Count a delivered service sheet (R145). -/
def Meter.countService (x : Meter) : Meter := { x with service := satAdd32 x.service 1 }

/-- Count a jam (R145). -/
def Meter.countJam (x : Meter) : Meter := { x with jams := satAdd32 x.jams 1 }

/-- Count a delivered job sheet toward the short interval, setting the SHORT flag when the counter reaches
it (R112). -/
def PressRec.testShort (r : PressRec) : PressRec :=
  if r.shortInterval != 0 && r.shortInterval ≤ r.sheetCount then { r with shortDue := true } else r

/-- One more job sheet delivered on the press (R111, R112). -/
def PressRec.countSheet (r : PressRec) : PressRec :=
  ({ r with sheetCount := satAdd32 r.sheetCount 1 } : PressRec).testShort

/-! ## Record layouts (R133, R142 to R144) -/

/-- An account record's bytes in the order of R133, the residue in 6 bytes (log entry 8). -/
def Account.bytes (a : Account) : List Byte :=
  le 1 a.state.code ++ leInt 4 a.balance ++ le 4 a.limit ++ le 6 a.residue ++ le 6 a.holdTotal
    ++ le 4 a.lifeSheets ++ le 6 a.lifeCharged

/-- A meter row's bytes in the order of R145. -/
def Meter.bytes (x : Meter) : List Byte :=
  le 4 x.sheets ++ le 4 x.mono ++ le 4 x.colour ++ le 4 x.service ++ le 4 x.jams

end Sys2Proof.Machine
end

