-- ==== Sys2Proof/Machine/Spool.lean ====
section
/-! DEFINITION. The Spool Memory Controller (spec/02): blocks, chains, the free list, the page pool, intake of a
segment, reading with check words, release and freeing of pages. -/

namespace Sys2Proof.Machine

/-- Whether every block number that a list or an option names is one of the 16,384 (R24). -/
def blockOk (b : Nat) : Bool := b < Config.nBlocks

/-- The canonical form of the spool: block and descriptor numbers strictly rising and in range, and every block
number that the free list, a chain link or a descriptor names in range (R24, R26, R27). -/
def Spool.wf (sp : Spool) : Bool :=
  ssorted Config.nBlocks sp.blocks && ssorted Config.nDescriptors sp.pool && sp.free.all blockOk
    && (sp.blocks.all fun x => x.2.link.all blockOk)
    && sp.pool.all fun x => x.2.first.all blockOk && x.2.last.all blockOk

/-- A block in use, by number. -/
def Spool.block (sp : Spool) (b : Nat) : Option Block := sp.blocks.lookup b

/-- Write a block in use. -/
def Spool.setBlock (sp : Spool) (b : Nat) (blk : Block) : Spool := { sp with blocks := sput b blk sp.blocks }

/-- Write a page descriptor. -/
def Spool.setPage (sp : Spool) (d : Nat) (pg : Page) : Spool := { sp with pool := sput d pg sp.pool }

/-- The free block count (R26). -/
def Spool.freeBlocks (sp : Spool) : Nat := sp.free.length

/-- The free descriptor count (R27). -/
def Spool.freeDescriptors (sp : Spool) : Nat := Config.nDescriptors - sp.pool.length

/-- The descriptor of a page of a job, with its number (R27). -/
def Spool.page (sp : Spool) (e : Entry) (k : Nat) : Option (Nat × Page) :=
  sp.pool.find? fun x => x.2.job == e && x.2.number == k

/-- The FILLING page of a job, with its descriptor number; a job has at most one (R27). -/
def Spool.filling (sp : Spool) (e : Entry) : Option (Nat × Page) :=
  sp.pool.find? fun x => x.2.job == e && x.2.state == .filling

/-- The chain of block numbers from a block on (R24). -/
def chainFrom (blocks : List (Nat × Block)) : Nat → Option Nat → List Nat
  | 0, _ => []
  | _, none => []
  | fuel + 1, some b => b :: chainFrom blocks fuel ((blocks.lookup b).bind (·.link))

/-- The chain of a page; a page has at most 8,192 blocks (R24, R27). -/
def Spool.chain (sp : Spool) (pg : Page) : List Nat := chainFrom sp.blocks 8192 pg.first

/-! ## Intake (R28 to R32) -/

/-- Close a block: write its check word (R25). -/
def Block.close (b : Block) : Block := { b with check := some (crc16 b.data) }

/-- A block that has reached 512 used bytes is closed (R25). -/
def Block.closeIfFull (b : Block) : Block := if b.data.length = Config.blockBytes then b.close else b

/-- The page's open last block, if there is one (R30 step 1). -/
def Spool.openLast (sp : Spool) (pg : Page) : Option (Nat × Block) :=
  match pg.last with
  | none => none
  | some b =>
    match sp.block b with
    | some blk => if blk.check.isNone then some (b, blk) else none
    | none => none

/-- The room in the page's last block (R30 step 1). -/
def Spool.room (sp : Spool) (pg : Page) : Nat :=
  match sp.openLast pg with
  | some (_, blk) => Config.blockBytes - blk.data.length
  | none => 0

/-- The new blocks that `n` bytes need into a room of `r` bytes (R30). -/
def blocksNeeded (n r : Nat) : Nat := if r < n then (n - r + 511) / Config.blockBytes else 0

/-- Link a block after the current last block (R30 step 2). -/
def Spool.linkAfter (sp : Spool) (last : Option Nat) (b : Nat) : Spool :=
  match last with
  | none => sp
  | some l =>
    match sp.block l with
    | some blk => sp.setBlock l { blk with link := some b }
    | none => sp

/-- Store bytes into a page: the open last block first, then new blocks from the top of the free list, each
linked after the last one; a block that reaches 512 bytes is closed (R30). The first argument bounds the
blocks touched. -/
def storeBytes : Nat → List Byte → Spool × Page → Spool × Page
  | 0, _, x => x
  | fuel + 1, bytes, (sp, pg) =>
    if bytes.isEmpty then (sp, pg)
    else
      match sp.openLast pg with
      | some (b, blk) =>
        let part := bytes.take (Config.blockBytes - blk.data.length)
        storeBytes fuel (bytes.drop (Config.blockBytes - blk.data.length))
          (sp.setBlock b ({ blk with data := blk.data ++ part } : Block).closeIfFull,
            { pg with byteLen := pg.byteLen + part.length })
      | none =>
        match sp.free with
        | [] => (sp, pg)
        | b :: rest =>
          let part := bytes.take Config.blockBytes
          let sp := ({ sp with free := rest }.linkAfter pg.last b).setBlock b
            ({ data := part, link := none, check := none } : Block).closeIfFull
          storeBytes fuel (bytes.drop Config.blockBytes)
            (sp, { pg with byteLen := pg.byteLen + part.length, first := pg.first <|> some b, last := some b })

/-- Close the page's last block if it is open (R32). -/
def Spool.closeLast (sp : Spool) (pg : Page) : Spool :=
  match sp.openLast pg with
  | some (b, blk) => sp.setBlock b blk.close
  | none => sp

/-- A BEGIN segment's descriptor: the lowest-numbered free one, FILLING and empty (R27, R29). -/
def Spool.openPage (sp : Spool) (e : Entry) (k : Nat) : Nat × Page :=
  (firstGap 0 sp.pool, { job := e, number := k, state := .filling, byteLen := 0, first := none, last := none })

/-- Store a segment of a page and, at END, close it and make it COMPLETE (R29, R30, R32). -/
def Spool.storeSegment (sp : Spool) (d : Nat) (pg : Page) (data : List Byte) (isEnd : Bool) : Spool :=
  let (sp, pg) := storeBytes data.length data (sp, pg)
  if isEnd then (sp.closeLast pg).setPage d { pg with state := .complete } else sp.setPage d pg

/-! ## Freeing (R26, R37, R38) -/

/-- Return blocks to the top of the free list in the order given, first block first (R26). -/
def Spool.returnBlocks (sp : Spool) (bs : List Nat) : Spool :=
  bs.foldl (fun sp b => { sp with free := b :: sp.free, blocks := sdel b sp.blocks }) sp

/-- Release one page: its blocks are returned, its first and last block become absent (R37). -/
def Spool.releasePage (sp : Spool) (e : Entry) (k : Nat) : Spool :=
  match sp.page e k with
  | some (d, pg) =>
    if pg.state = .complete then
      (sp.returnBlocks (sp.chain pg)).setPage d { pg with state := .released, first := none, last := none }
    else sp
  | none => sp

/-- Return the blocks of one page of a finished job, none if it is RELEASED, and free its descriptor (R38). -/
def Spool.freePage (sp : Spool) (e : Entry) (k : Nat) : Spool :=
  match sp.page e k with
  | some (d, pg) =>
    let sp := if pg.state = .released then sp else sp.returnBlocks (sp.chain pg)
    { sp with pool := sdel d sp.pool }
  | none => sp

/-- The number of pages in a job's page list (R27). -/
def Spool.pageCount (sp : Spool) (e : Entry) : Nat := (sp.pool.filter fun x => x.2.job == e).length

/-- Free every page of a job, in page order (R38). -/
def Spool.freeJob (sp : Spool) (e : Entry) : Spool :=
  (List.range (sp.pageCount e)).foldl (fun sp k => sp.freePage e k) sp

/-! ## Reading (R34, R35) -/

/-- What a read of the next block of a page hands to SSQ: bytes with a mark that no block follows, or a check
failure. -/
inductive ReadResult where
  | bytes (data : List Byte) (last : Bool)
  | failed
  deriving DecidableEq, Repr

/-- Read the block of a page that holds the bytes from offset `framed` on, after testing its check word. A
page of no bytes hands none (R34, R35). -/
def Spool.readBlock (sp : Spool) (pg : Page) (framed : Nat) : ReadResult :=
  let chain := sp.chain pg
  match chain[framed / Config.blockBytes]? with
  | none => .bytes [] true
  | some b =>
    match sp.block b with
    | none => .bytes [] true
    | some blk =>
      if blk.check = some (crc16 blk.data) then
        .bytes blk.data (chain.length ≤ framed / Config.blockBytes + 1)
      else .failed

/-- Mark a page DAMAGED; its blocks stay in its chain (R35 step 1). -/
def Spool.damage (sp : Spool) (d : Nat) (pg : Page) : Spool := sp.setPage d { pg with state := .damaged }

end Sys2Proof.Machine
end

