-- ==== Sys2Proof/Machine/PressState.lean ====
section
/-! DEFINITION. Press state changes (spec/05 section 5.5) and the job state changes that go with them (spec/01): media
wait, entering states, entering QUEUED, the way toward FAULT. -/

namespace Sys2Proof.Machine

/-! ## The sheet at the cursor -/

/-- The cursor's ordinal and sheet, absent at END and before commit (R43). -/
def Job.cursorSheet (j : Job) : Option (Nat × Sheet) :=
  match j.commit with
  | none => none
  | some c =>
    match c.cursor with
    | none => none
    | some n => (j.sheetOf n).map fun sh => (n, sh)

/-- Whether a page of a job has a state. -/
def State.pageIs (s : State) (e : Entry) (st : PageState) (k : Nat) : Bool :=
  (s.spool.page e k).any fun x => x.2.state == st

/-- Whether every page of a sheet is COMPLETE (R46). -/
def State.sheetReady (s : State) (e : Entry) (sh : Sheet) : Bool := sh.pages.all (s.pageIs e .complete)

/-- Whether a page of a sheet is DAMAGED (R46, R18). -/
def State.sheetDamaged (s : State) (e : Entry) (sh : Sheet) : Bool := sh.pages.any (s.pageIs e .damaged)

/-- Whether every page of the sheet at the job's cursor is COMPLETE (R15, R17). -/
def State.cursorReady (s : State) (e : Entry) : Bool :=
  (s.job e).any fun j => j.cursorSheet.any fun x => s.sheetReady e x.2

/-- Whether a job is QUEUED. -/
def JobState.isQueued : JobState → Bool
  | .queued _ => true
  | _ => false

/-- Whether a job is eligible for dispatch (R15). -/
def State.eligible (s : State) (e : Entry) : Bool :=
  (s.job e).any fun j =>
    j.state.isQueued && (if j.copies = 1 then s.cursorReady e else j.received == j.pageCount)

/-! ## Press states -/

/-- Write a press's state with its report pending and demand to be evaluated (R101, R75). -/
def State.putState (p : PressNo) (st : PressState) (s : State) : State :=
  ((s.modPress p fun x => { x with state := st }).mark (.press p)).wantDemand

/-- Stop the starve timer of the job bound to a press (R50). -/
def State.stopStarve (p : PressNo) (s : State) : State :=
  match s.boundJob p with
  | some e => s.modJob e fun j => { j with starve := none }
  | none => s

/-- End media wait on a press: MEDIA_WAIT is removed and MEDIA_OUT ends (R51), in this order (log entry 42). -/
def State.endMediaWait (p : PressNo) (s : State) : State :=
  match (s.press p).state with
  | .busy (some _) =>
    ((s.modPress p fun x => { x with state := .busy none }).mark (.press p)).endCondition .mediaOut (.press p)
  | _ => s

/-- What leaving a state does: leaving BUSY ends media wait and stops the starve timer (R50, R51, R91). The
other items of a state exist only in it and go with it. -/
def State.leave (p : PressNo) (s : State) : State :=
  match (s.press p).state with
  | .busy _ => (s.endMediaWait p).stopStarve p
  | _ => s

/-- Enter a state other than IDLE, BUSY and CALIBRATING. -/
def State.enter (p : PressNo) (st : PressState) (s : State) : State := (s.leave p).putState p st

/-- Enter IDLE, or HALTED with cause COVER if the recorded cover is OPEN (R91); the idle timer starts from 0
(R109) and the entry is a decision point (R66). -/
def State.enterIdle (p : PressNo) (s : State) : State :=
  if (s.press p).cover = some true then s.enter p (.halted .cover)
  else (s.enter p (.idle false 0)).push (.decidePress p)

/-- Enter BUSY, or HALTED with cause COVER if the recorded cover is OPEN (R91); the sheet conditions are
examined (R46). -/
def State.enterBusy (p : PressNo) (s : State) : State :=
  if (s.press p).cover = some true then s.enter p (.halted .cover)
  else (s.enter p (.busy none)).push (.examine p)

/-- Release a press whose job has left it: BUSY goes to IDLE; a JAMMED or HALTED press waits for its recovery
(R73, R94, R95). -/
def State.releasePress (p : PressNo) (s : State) : State :=
  match (s.press p).state with
  | .busy _ => s.enterIdle p
  | _ => s

/-! ## Job states -/

/-- Write a job's state with its report pending and demand to be evaluated (R22, R75). -/
def State.moveJob (e : Entry) (st : JobState) (s : State) : State :=
  ((s.modJob e fun j => { j with state := st, starve := none }).mark (.job e)).wantDemand

/-- Enter QUEUED: queued since is now, and the job is offered to DSA if it is eligible (R15, R67). -/
def State.enterQueued (e : Entry) (s : State) : State :=
  (s.moveJob e (.queued s.time)).push (.decideJob e)

/-- Leave STARVED for QUEUED when every page of the sheet at the cursor is COMPLETE; JOB_STARVED clears (R17). -/
def State.leaveStarved (e : Entry) (s : State) : State :=
  match s.job e with
  | none => s
  | some j =>
    if j.state = .starved && s.cursorReady e then
      (s.enterQueued e).endCondition .jobStarved (.job j.serial)
    else s

/-- Replace the drain target of a DRAINING job (R18, R20). -/
def State.setTarget (p : PressNo) (e : Entry) (t : DrainTarget) (s : State) : State :=
  s.modJob e fun j => { j with state := .draining p t }

/-- Take a job toward FAULT (R18), but for the end of its drain: a PRINTING job drains with target FAULT, media wait
ending before its move (log entry 42); a target HELD or STARVED is replaced; CANCELLED or FAULT is kept. A new drain
target is no new state, so it makes no report pending (R22). -/
def State.aimAtFault (e : Entry) (s : State) : State :=
  match s.job e with
  | none => s
  | some j =>
    match j.state with
    | .printing p => (s.endMediaWait p).moveJob e (.draining p .fault)
    | .draining p .held => s.setTarget p e .fault
    | .draining p .starved => s.setTarget p e .fault
    | _ => s

/-- End a drain toward FAULT when the press's path list is empty (R19): the job is in FAULT, and the press is released
after it (log entry 47). -/
def State.endFaultDrain (p : PressNo) (e : Entry) (s : State) : State :=
  match s.job e with
  | none => s
  | some j =>
    if j.state = .draining p .fault && (s.press p).path.isEmpty then (s.moveJob e .fault).releasePress p else s

/-- Take a job toward FAULT (R18); a drain whose target is then FAULT ends on an empty path list (R19). One that keeps
its target CANCELLED is ended by the transmitter (`State.transmit`). -/
def State.towardFault (e : Entry) (s : State) : State :=
  match (s.job e).bind fun j => j.state.bound with
  | some p => (s.aimAtFault e).endFaultDrain p e
  | none => s

/-- The page of a sheet that is DAMAGED, the first of them. -/
def State.damagedPage (s : State) (e : Entry) (sh : Sheet) : Option Nat :=
  sh.pages.find? (s.pageIs e .damaged)

/-- The first DAMAGED page of the sheet at the cursor of a bound job (R18, R46). -/
def State.damageAtCursor (s : State) (e : Entry) : Option Nat :=
  (s.job e).bind fun j =>
    if j.state.bound.isSome then j.cursorSheet.bind fun x => s.damagedPage e x.2 else none

/-- SPOOL_FAULT is raised for a job with a page as detail (R18, R35). -/
def State.raiseSpoolFault (e : Entry) (k : Nat) (s : State) : State :=
  match s.job e with
  | some j => s.raise .spoolFault (.job j.serial) (some k)
  | none => s

/-- The cursor coming onto a page already DAMAGED (R18, R46): the job goes toward FAULT and SPOOL_FAULT is raised
with the page as detail, whatever the drain target, after the end of a drain that ends as it begins (log entry 42). -/
def State.faultAtCursor (e : Entry) (s : State) : State :=
  match s.damageAtCursor e with
  | some k => (s.towardFault e).raiseSpoolFault e k
  | none => s

/-- The cursor rewound onto a page already DAMAGED by a path loss (R18, R57): as the cursor coming onto it, but the
drain is left to the event that lost the path, which ends it (R58 to R60; log entry 22). -/
def State.faultRewound (e : Entry) (s : State) : State :=
  match s.damageAtCursor e with
  | some k => (s.aimAtFault e).raiseSpoolFault e k
  | none => s

end Sys2Proof.Machine
end

