-- ==== Sys2Proof/Machine/Transmit.lean ====
section
/-! DEFINITION. The press links' transmitters and the Sheet Sequencer's sending (spec/03 R43 to R52, R57, R61; spec/05
R81, R86, R87): frames, credits, framing of sides, start of a sheet, check failure, path loss, calibration runs. -/

namespace Sys2Proof.Machine

/-! ## Frames and the transmitter (R81, R86) -/

/-- Whether a frame takes a credit: SHEET and DATA do (R86). -/
def PFrame.needsCredit : PFrame → Bool
  | .sheet _ _ _ => true
  | .data _ _ _ => true
  | _ => false

/-- The place in the queue of the frame the transmitter takes next: the first one, unless it waits for
credit, when the first frame that takes none goes ahead (R81). -/
def nextFrameAt (credits : Nat) (q : List PFrame) : Option Nat :=
  q.findIdx? fun f => !f.needsCredit || 0 < credits

/-- Whether SHEET or DATA frames of the sheet being sent are not yet sent (R48). -/
def Press.unsent (x : Press) : Bool := x.txq.any PFrame.needsCredit

/-- Drop every SHEET and DATA frame not yet sent; control frames are kept (R81). -/
def Press.dropSheetFrames (x : Press) : Press := { x with txq := x.txq.filter fun f => !f.needsCredit }

/-! ## Framing of a side (R48) -/

/-- Cut bytes into the bodies of DATA frames: 256 bytes each; when the bytes end a side, a last frame of fewer
than 256 bytes follows, which may be empty. The first argument bounds the frames. -/
def cutFrames : Nat → List Byte → Bool → List (List Byte)
  | 0, _, _ => []
  | n + 1, bs, last =>
    if bs.length < 256 then (if last || !bs.isEmpty then [bs] else [])
    else bs.take 256 :: cutFrames n (bs.drop 256) last

/-- The DATA frames of a stretch of one side (R48). -/
def dataFrames (seq : Seq) (side : Nat) (bs : List Byte) (last : Bool) : List PFrame :=
  (cutFrames (bs.length / 256 + 1) bs last).map (PFrame.data seq side)

/-- The bytes of one side of a calibration pattern sheet from an offset on, up to a block's worth (R114). -/
def patternChunk (long : Bool) (sheet side offset : Nat) : List Byte :=
  (List.range (min Config.blockBytes (Config.patternBytes - offset))).map fun i =>
    Config.patternByte long sheet side (offset + i)

/-- The page a path entry carries on a side (R42). -/
def Job.pageOnSide (j : Job) (n side : Nat) : Option Nat :=
  (j.sheetOf n).bind fun sh => if side = 1 then some sh.side1 else sh.side2

/-- The kind and number of the pattern sheet being sent on a calibrating press (R114). -/
def Press.pattern (x : Press) : Bool × Nat :=
  match x.state with
  | .calibrating run _ => (run.long, run.started)
  | _ => (false, 1)

/-- What SSQ is handed next for a side of a path entry: a block of the page (R34), or pattern bytes (R61,
R114); with the failing page's descriptor and number on a check failure (R35). -/
inductive Fetch where
  | chunk (data : List Byte) (last : Bool)
  | failed (e : Entry) (descriptor number : Nat) (page : Page)
  deriving DecidableEq, Repr

/-- The next stretch of a side, from the bytes already framed (R34, R48, R114). -/
def State.fetch (s : State) (p : PressNo) (ent : PathEntry) (side framed : Nat) : Fetch :=
  match ent.job with
  | none =>
    let pat := (s.press p).pattern
    .chunk (patternChunk pat.1 pat.2 side framed) (Config.patternBytes ≤ framed + Config.blockBytes)
  | some (e, n) =>
    match (s.job e).bind fun j => j.pageOnSide n side with
    | none => .chunk [] true
    | some k =>
      match s.spool.page e k with
      | none => .chunk [] true
      | some (d, pg) =>
        match s.spool.readBlock pg framed with
        | .bytes data last => .chunk data last
        | .failed => .failed e d k pg

/-! ## Sending a sheet (R47 to R49) -/

/-- A check failure ends a sheet (R35, R49): the page is DAMAGED, SPOOL_CHECK is set, ABORT SHEET is given,
the SENDING entry is removed without advancing the cursor, the job goes toward FAULT and SPOOL_FAULT is raised (their
reports' order: log entry 42). -/
def State.checkFailure (p : PressNo) (ent : PathEntry) (e : Entry) (d k : Nat) (pg : Page) (s : State) : State :=
  let s := { s with
    spool := s.spool.damage d pg
    ret := { s.ret with sticky := { s.ret.sticky with spoolCheck := true } } }
  let s := s.modPress p fun x =>
    { x with
      txq := x.dropSheetFrames.txq ++ [.abort ent.seq], path := x.path.dropLast, send := .idle }
  (s.towardFault e).raiseSpoolFault e k

/-- Give the frames of the next stretch of a side to the transmitter's queue (R48). -/
def State.feedSide (p : PressNo) (ent : PathEntry) (side framed : Nat) (s : State) : State :=
  match s.fetch p ent side framed with
  | .chunk data last =>
    s.modPress p fun x =>
      { x with txq := x.txq ++ dataFrames ent.seq side data last, send := .sending side (framed + data.length) last }
  | .failed e d k pg => s.checkFailure p ent e d k pg

/-- A sheet becomes SENT: its entry, the last of the list, is SENT, the send state is IDLE, the cursor
advances, and the sheet conditions are examined (R43, R48, R46). -/
def State.sheetSent (p : PressNo) (ent : PathEntry) (s : State) : State :=
  let s := s.modPress p fun x =>
    { x with path := x.path.dropLast ++ [{ ent with state := .sent }], send := .idle }
  let s := match ent.job with
    | none => s
    | some (e, n) =>
      (s.modJob e fun j => j.setCursor (j.nextPosition n)).faultAtCursor e
  s.push (.examine p)

/-- Go on with the sheet being sent once every frame given for it has been sent: the next block of the side,
the second side, or the end of the sheet (R48). -/
def State.feed (p : PressNo) (s : State) : State :=
  match (s.press p).send with
  | .idle => s
  | .sending side framed ended =>
    if (s.press p).unsent then s
    else
      match (s.press p).path.getLast? with
      | none => s
      | some ent =>
        if !ended then s.feedSide p ent side framed
        else if side = 1 && ent.sides = 2 then s.feedSide p ent 2 0
        else s.sheetSent p ent

/-- The transmitter takes the next frame due when the line is free (R81). A SHEET or DATA frame takes one
credit as it is sent (R86); a frame counts as sent when it begins (log entry 7). -/
def State.pump (p : PressNo) (s : State) : State :=
  if (s.press p).line.isSome then s
  else
    match nextFrameAt (s.press p).credits (s.press p).txq with
    | none => s
    | some i =>
      match (s.press p).txq[i]? with
      | none => s
      | some f =>
        let s := s.modPress p fun x =>
          { x with
            line := some f, txq := x.txq.eraseIdx i
            credits := if f.needsCredit then x.credits - 1 else x.credits }
        if f.needsCredit then s.feed p else s

/-- Give a control frame to the transmitter (R81). -/
def State.give (p : PressNo) (f : PFrame) (s : State) : State :=
  (s.modPress p fun x => { x with txq := x.txq ++ [f] }).pump p

/-- Start a sheet (R47): take a sequence, append a SENDING entry, give SHEET, and ask for side 1. On a free line
SHEET goes at once, before the page is asked for. -/
def State.startSheet (p : PressNo) (job : Option (Entry × Nat)) (media sides : Nat) (s : State) : State :=
  let ent : PathEntry := { seq := (s.press p).seq, job := job, sides := sides, media := media, state := .sending }
  let s := s.modPress p fun x =>
    { x with
      seq := x.seq + 1, path := x.path ++ [ent], txq := x.txq ++ [.sheet ent.seq media sides]
      send := .sending 1 0 false }
  if (s.press p).line.isSome then s.feedSide p ent 1 0 else s.pump p

/-! ## When a sheet starts (R46, R50, R51, R114) -/

/-- The path depth of a press (R44); 0 when nothing is learned. -/
def State.depth (s : State) (p : PressNo) : Nat := ((s.pressRec p).caps.map (·.depth)).getD 0

/-- Whether a tray of the press is LOADED with a media class (R51). -/
def State.loaded (s : State) (p : PressNo) (m : Nat) : Bool :=
  (s.pressRec p).caps.any fun c => c.trays.any fun t => t.loaded && t.media == m

/-- The press's and the supply's conditions for a sheet (R46, R52, R114). -/
def State.pressReady (s : State) (p : PressNo) : Bool :=
  (s.press p).path.length < s.depth p && (s.press p).send == .idle && 0 < (s.press p).credits && !s.low

/-- Media wait of a BUSY press whose job prints (R51): it is entered, held, raised again for another class, or
ended. -/
def State.updateMediaWait (p : PressNo) (need : Option Nat) (s : State) : State :=
  match (s.press p).state with
  | .busy now =>
    match need with
    | none => s.endMediaWait p
    | some m =>
      if s.loaded p m then s.endMediaWait p
      else if now = some m then s
      else
        let s := s.modPress p fun x => { x with state := .busy (some m) }
        (if now.isNone then s.mark (.press p) else s).raise .mediaOut (.press p) (some m)
  | _ => s

/-- The starve timer of a PRINTING job on a BUSY press (R50): it starts from zero when a page of the sheet at
the cursor is not COMPLETE and stops when that ends. -/
def State.updateStarve (e : Entry) (waits : Bool) (s : State) : State :=
  s.modJob e fun j =>
    { j with starve :=
        if waits then j.starve <|> some { elapsed := 0, limit := s.ret.schedule.starve * 1000 } else none }

/-- Examine the sheet conditions of a BUSY press whose bound job is PRINTING (R46, R50, R51). -/
def State.examineJob (p : PressNo) (e : Entry) (j : Job) (s : State) : State :=
  match j.cursorSheet with
  | none => (s.updateMediaWait p none).updateStarve e false
  | some (n, sh) =>
    if s.sheetDamaged e sh then s.faultAtCursor e
    else
      let s := (s.updateMediaWait p (some sh.media)).updateStarve e (!s.sheetReady e sh)
      if s.sheetReady e sh && s.loaded p sh.media && s.pressReady p then
        s.startSheet p (some (e, n)) sh.media sh.sides
      else s

/-- The sides of a pattern sheet: the second sheet of a LONG run has two on a duplex-capable press (R114). -/
def patternSides (long duplex : Bool) (sheet : Nat) : Nat := if long && duplex && sheet = 2 then 2 else 1

/-- The media class of a pattern sheet: the lowest-indexed LOADED tray's (R114). -/
def State.patternMedia (s : State) (p : PressNo) : Option Nat :=
  (s.pressRec p).caps.bind fun c => (c.trays.find? (·.loaded)).map (·.media)

/-- Examine the conditions for the next pattern sheet of a calibrating press (R114). -/
def State.examinePattern (p : PressNo) (run : CalRun) (timer : Nat) (s : State) : State :=
  match s.patternMedia p with
  | none => s
  | some m =>
    if run.started < run.count && s.pressReady p then
      let duplex := (s.pressRec p).caps.any (·.duplex)
      (s.modPress p fun x => { x with state := .calibrating { run with started := run.started + 1 } timer }).startSheet
        p none m (patternSides run.long duplex (run.started + 1))
    else s

/-- Examine the sheet conditions of a press (R46, R114). -/
def State.examine (p : PressNo) (s : State) : State :=
  match (s.press p).state with
  | .busy _ =>
    match s.boundJob p with
    | none => s
    | some e =>
      match s.job e with
      | none => s
      | some j =>
        match j.state with
        | .printing _ => s.examineJob p e j
        | _ => s
  | .calibrating run timer => s.examinePattern p run timer
  | _ => s

/-! ## Path loss (R57, R61) -/

/-- A path loss (R57, R61): sending stops, the list is emptied, a job's cursor is rewound to the oldest lost
position and its reprints are counted; a cursor rewound onto a page already DAMAGED takes the job toward FAULT (R18).
The starve timer stops as the press leaves BUSY. -/
def State.losePath (p : PressNo) (s : State) : State :=
  let path := (s.press p).path
  let s := s.modPress p fun x => { x with txq := x.dropSheetFrames.txq, path := [], send := .idle }
  match path with
  | [] => s
  | head :: _ =>
    match head.job with
    | none => s
    | some (e, n) =>
      ((s.modJob e fun j =>
        { j.setCursor (some n) with reprinted := satAdd32 j.reprinted path.length }).mark (.job e)).faultRewound e

/-- Count a jam under the class of the oldest lost entry (R58, R59, R95, R96). -/
def State.countJam (p : PressNo) (m : Nat) (s : State) : State := s.modMeter p m Meter.countJam

/-! ## Calibration runs (R98, R114) -/

/-- The run that begins on entry into CALIBRATING: LONG if the LONG flag is set, else SHORT (R114). -/
def PressRec.newRun (r : PressRec) : CalRun :=
  { long := r.longDue, count := if r.longDue then 3 else 1, started := 0 }

/-- Enter CALIBRATING, or HALTED with cause COVER if the recorded cover is OPEN (R91, R98, R114): the resume
mark is cleared, the timer starts from 0, the run record is made, CALIBRATE is given. -/
def State.enterCalibrating (p : PressNo) (s : State) : State :=
  if (s.press p).cover = some true then s.enter p (.halted .cover)
  else
    let run := (s.pressRec p).newRun
    let s := (s.enter p (.calibrating run 0)).modPress p fun x => { x with resumeMark := false }
    (s.give p (.calibrate run.long run.count)).push (.examine p)

/-- Recover a press that leaves JAMMED or a cover halt (R91): BUSY if a job is bound, else CALIBRATING if the
resume mark is set, else IDLE. -/
def State.recover (p : PressNo) (s : State) : State :=
  if (s.boundJob p).isSome then s.enterBusy p
  else if (s.press p).resumeMark then s.enterCalibrating p
  else s.enterIdle p

/-- Send a press to sleep: SLEEP is given and the press enters SLEEPING (R93). -/
def State.sendSleep (p : PressNo) (s : State) : State := (s.enter p .sleeping).give p .sleep

end Sys2Proof.Machine
end

