-- ==== Sys2Proof/Machine/Wake.lean ====
section
/-! DEFINITION. The Warm-up Controller's wake queues and sleep (spec/06 R104 to R110): the window and spacing tests, the
grant check, joining and leaving a queue, the idle timer and the sleep point. -/

namespace Sys2Proof.Machine

/-- The settings of a circuit (R103). -/
def State.settings (s : State) (c : CircuitNo) : CircuitSettings := s.ret.circuits[c]

/-- The window test (R104). -/
def State.windowPasses (s : State) (c : CircuitNo) : Bool :=
  (s.settings c).tw == 0 ||
    ((s.circuit c).ring.filter fun t => elapsed s.time t < (s.settings c).tw).length < (s.settings c).w

/-- The spacing test (R104). -/
def State.spacingPasses (s : State) (c : CircuitNo) : Bool :=
  match (s.circuit c).ring with
  | [] => true
  | newest :: _ => (s.settings c).ts == 0 || (s.settings c).ts ≤ elapsed s.time newest

/-- Grant a wake to the head of a queue (R106): it leaves the queue, the ring and the awake-since time take
the present part time, WAKE is given and the press enters WAKING. -/
def State.grant (c : CircuitNo) (p : PressNo) (rest : List PressNo) (s : State) : State :=
  let s := s.modCircuit c fun x => { ring := (s.time :: x.ring).take 4, queue := rest }
  let s := s.modPress p fun x => { x with awakeSince := some s.time }
  (s.enter p (.waking 0)).give p .wake

/-- The grant check of a circuit, made again for each new head (R106). The first argument bounds the heads. -/
def State.grantLoop (c : CircuitNo) : Nat → State → State
  | 0, s => s
  | n + 1, s =>
    match (s.circuit c).queue with
    | [] => s
    | p :: rest =>
      if s.windowPasses c && s.spacingPasses c then State.grantLoop c n (s.grant c p rest) else s

/-- The grant check (R106); a queue holds at most 12 presses (R105). -/
def State.grantCheck (c : CircuitNo) (s : State) : State := s.grantLoop c 12

/-- Join the tail of a circuit's queue; joining an empty queue makes the grant check (R105, R106). -/
def State.joinQueue (c : CircuitNo) (p : PressNo) (s : State) : State :=
  let empty := (s.circuit c).queue.isEmpty
  let s := s.modCircuit c fun x => { x with queue := x.queue ++ [p] }
  if empty then s.grantCheck c else s

/-- Leave a circuit's queue without a grant; if the head leaves, the grant check is made (R105, R106). -/
def State.leaveQueue (c : CircuitNo) (p : PressNo) (s : State) : State :=
  let head := (s.circuit c).queue.head? = some p
  let s := s.modCircuit c fun x => { x with queue := x.queue.filter (· != p) }
  if head then s.grantCheck c else s

/-- Leave whichever queue a press stands in; it stands in at most one (R105). -/
def State.leaveQueues (p : PressNo) (s : State) : State :=
  (List.finRange 4).foldl (fun s c => if (s.circuit c).queue.contains p then s.leaveQueue c p else s) s

/-- A wake request for an ASLEEP press (R92, R105): it enters WAKE_WAIT and joins its circuit's queue. -/
def State.requestWake (p : PressNo) (origin : WakeOrigin) (s : State) : State :=
  (s.enter p (.wakeWait origin)).joinQueue (s.pressRec p).circuit p

/-- Withdraw a press from its wake queue: it returns to ASLEEP (R78, R92, R108). The sleep start is kept
(R107). -/
def State.withdraw (p : PressNo) (s : State) : State := (s.enter p .asleep).leaveQueues p

/-! ## Sleep (R109, R110) -/

/-- Whether a press's sleep point is at or before the present part time (R110). An absent awake-since time
counts as reached (log entry 30). -/
def State.sleepPointPassed (s : State) (p : PressNo) : Bool :=
  match (s.press p).awakeSince with
  | none => true
  | some t => (s.pressRec p).minAwake * 60 ≤ elapsed s.time t

/-- Send an IDLE press with SLEEP_PENDING to sleep if its sleep point is reached (R110). -/
def State.trySleep (p : PressNo) (s : State) : State :=
  match (s.press p).state with
  | .idle true _ => if s.sleepPointPassed p then s.sendSleep p else s
  | _ => s

/-- Set SLEEP_PENDING on an IDLE press and decide the sleep (R108, R109, R110). -/
def State.setSleepPending (p : PressNo) (s : State) : State :=
  match (s.press p).state with
  | .idle false _ =>
    ((s.modPress p fun x => { x with state := .idle true 0 }).mark (.press p)).trySleep p
  | _ => s.trySleep p

/-- Clear SLEEP_PENDING on an IDLE press and start its idle timer from 0 (R108, R109). -/
def State.keepAwake (p : PressNo) (s : State) : State :=
  match (s.press p).state with
  | .idle pending _ =>
    let s := s.modPress p fun x => { x with state := .idle false 0 }
    if pending then s.mark (.press p) else s
  | _ => s

/-- Whether a running idle timer has reached the press's timeout; a timeout of 0 never expires (R109). -/
def State.idleExpired (s : State) (p : PressNo) : Bool :=
  match (s.press p).state with
  | .idle false t => (s.pressRec p).idleTimeout != 0 && (s.pressRec p).idleTimeout * 60000 ≤ t
  | _ => false

/-- Expire the idle timer if it has reached the timeout (R109). -/
def State.expireIdle (p : PressNo) (s : State) : State := if s.idleExpired p then s.setSleepPending p else s

/-- Enter ASLEEP on the press's own report; the present part time starts its sleep (R93, R107). -/
def State.enterAsleep (p : PressNo) (s : State) : State :=
  (s.enter p .asleep).modPress p fun x => { x with sleepStart := some s.time }

/-- Whether the sleep that ends with READY was long enough to make a LONG run due (R113). -/
def State.longSleep (s : State) (p : PressNo) : Bool :=
  match (s.press p).sleepStart with
  | none => false
  | some t => (s.pressRec p).longThreshold != 0 && (s.pressRec p).longThreshold * 3600 ≤ elapsed s.time t

end Sys2Proof.Machine
end

