-- ==== Sys2Proof/Machine/Arbiter.lean ====
section
/-! DEFINITION. The Dispatch Arbiter (spec/04): fit, candidates, the arbitration modes, binding, calibration before
binding, wake demand, and the settling of a step's decision points. -/

namespace Sys2Proof.Machine

/-! ## Fit and candidates (R6, R65) -/

/-- Whether capabilities fit a run list (R6). -/
def Caps.fits (c : Caps) (runs : List Run) : Bool :=
  (runs.all fun r => c.trays.any fun t => t.media == r.media)
    && (!(runs.any (·.duplex)) || c.duplex) && (!(runs.any fun r => 0 < r.band) || c.colour)

/-- Whether a press fits a job: a press with no learned capabilities fits none (R6). -/
def State.fits (s : State) (p : PressNo) (j : Job) : Bool :=
  (s.pressRec p).caps.any fun c => c.fits (j.runs.getD [])

/-- The pool of a press: its entry of the pool table (R64), but for a press with a job bound whose pool PRESS SET has
changed: there the new pool applies once the binding has ended (R79; log entry 48). -/
def State.poolInForce (s : State) (p : PressNo) : Option PoolNo :=
  match (s.press p).heldPool with
  | none => (s.pressRec p).pool
  | some q => if (s.boundJob p).isSome then q else (s.pressRec p).pool

/-- Whether a press is of a target: the named press, or a member of the named pool (R6, R64). -/
def State.isOf (s : State) (t : Target) (p : PressNo) : Bool :=
  match t with
  | .press q => p == q
  | .pool q => s.poolInForce p == some q

/-- Whether a press is IDLE (R65). -/
def PressState.isIdle : PressState → Bool
  | .idle _ _ => true
  | _ => false

/-- Whether a job is eligible and offered to the presses: the decision it is to take as it becomes eligible (R67) no
longer waits in this step (log entry 5). -/
def State.offered (s : State) (e : Entry) : Bool := s.eligible e && !s.agenda.contains (.decideJob e)

/-- Whether an eligible job is a candidate of a press (R65). -/
def State.isCandidate (s : State) (p : PressNo) (e : Entry) : Bool :=
  s.offered e && (s.job e).any fun j => s.isOf j.target p && s.fits p j

/-- The candidates of a press, in entry order (R65). -/
def State.candidates (s : State) (p : PressNo) : List Entry := allEntries.filter (s.isCandidate p)

/-- The idle fitting presses of a job, in ascending order (R65). A press whose own decision in this step is still to
be taken is not among them: it takes its best candidate when its turn comes (R72). -/
def State.idleFitting (s : State) (j : Job) : List PressNo :=
  allPresses.filter fun p =>
    (s.press p).state.isIdle && s.isOf j.target p && s.fits p j && !s.agenda.contains (.decidePress p)

/-- Whether a press has a calibration due flag (R74). -/
def PressRec.due (r : PressRec) : Bool := r.shortDue || r.longDue

/-! ## Arbitration modes (R68 to R70) -/

/-- The rank of a class, RUSH highest (spec/04 section 4.4). -/
def JobClass.rank : JobClass → Nat
  | .rush => 2 | .normal => 1 | .bulk => 0

/-- The class a job is ranked by: in AGED mode its class raised by one for each whole age step since queued
since, never above RUSH (R70). -/
def State.classRank (s : State) (j : Job) : Nat :=
  match s.ret.schedule.mode, j.state with
  | .aged, .queued since =>
    min 2 (j.cls.rank + elapsed s.time since / (60 * s.ret.schedule.ageStep))
  | _, _ => j.cls.rank

/-- How soon an account comes after a FAIR pointer, counting upward with wrap: 255 for the next account, 0 for
the pointer's own (R69). -/
def fairRank (pointer account : AccountNo) : Nat := 255 - (account.val + 255 - pointer.val) % 256

/-- The rank of a candidate on a press: class first; in FAIR mode the account's turn; then age (R68 to R70). -/
def State.rankKey (s : State) (p : PressNo) (e : Entry) : Nat :=
  match s.job e with
  | none => 0
  | some j =>
    let turn := if s.ret.schedule.mode = .fair then fairRank (s.press p).fair j.account else 0
    (s.classRank j * 256 + turn) * 2 ^ 32 + s.age j

/-- The candidate the arbitration mode ranks first (R66). -/
def State.bestCandidate (s : State) (p : PressNo) : Option Entry := pickMax (s.rankKey p) (s.candidates p)

/-! ## Binding and calibration (R71, R74) -/

/-- Bind a job to a press (R71). The pool table's entry is the pool in force (R64, R79). -/
def State.bind (p : PressNo) (e : Entry) (s : State) : State :=
  match s.job e with
  | none => s
  | some j =>
    let s := (s.moveJob e (.printing p)).enterBusy p
    s.modPress p fun x =>
      { x with heldPool := none, fair := if s.ret.schedule.mode = .fair then j.account else x.fair }

/-- The decision point of a press (R66, R74). -/
def State.decidePress (p : PressNo) (s : State) : State :=
  if (s.press p).state.isIdle then
    match s.bestCandidate p with
    | none => s
    | some e => if (s.pressRec p).due then s.enterCalibrating p else s.bind p e
  else s

/-- The decision point of a job (R67, R74). -/
def State.decideJob (e : Entry) (s : State) : State :=
  match s.job e with
  | none => s
  | some j =>
    if s.eligible e then
      match (s.idleFitting j).find? fun p => !(s.pressRec p).due with
      | some p => s.bind p e
      | none =>
        match (s.idleFitting j).head? with
        | some p => s.enterCalibrating p
        | none => s.wantDemand
    else s

/-! ## Wake demand (R75 to R78, R109) -/

/-- Whether an eligible job names a press as its target and the press fits it (R76). -/
def State.pressDemand (s : State) (p : PressNo) : Bool :=
  allEntries.any fun e => s.offered e && (s.job e).any fun j => j.target == .press p && s.fits p j

/-- The eligible jobs whose target is a pool (R77). -/
def State.poolJobs (s : State) (q : PoolNo) : List Entry :=
  allEntries.filter fun e => s.offered e && (s.job e).any fun j => j.target == .pool q

/-- Whether a press is of a pool and fits at least one of the pool's eligible jobs (R77). -/
def State.poolFitting (s : State) (q : PoolNo) (p : PressNo) : Bool :=
  s.poolInForce p == some q && (s.poolJobs q).any fun e => (s.job e).any fun j => s.fits p j

/-- Whether a state counts as awake for pool demand (R77). -/
def PressState.awake : PressState → Bool
  | .wakeWait _ | .waking _ | .idle _ _ | .busy _ | .jammed | .halted _ | .calibrating _ _ => true
  | .down | .asleep | .sleeping => false

/-- The fitting presses of a pool (R77). -/
def State.poolPresses (s : State) (q : PoolNo) : List PressNo := allPresses.filter (s.poolFitting q)

/-- The awake count of a pool (R77). -/
def State.poolAwake (s : State) (q : PoolNo) : Nat :=
  ((s.poolPresses q).filter fun p => (s.press p).state.awake).length

/-- The wanted figure of a pool (R77). -/
def State.poolWanted (s : State) (q : PoolNo) : Nat := min (s.poolJobs q).length (s.poolPresses q).length

/-- Press demand: wake requests for ASLEEP presses that an eligible job names (R76). -/
def State.wakeForPress (p : PressNo) (s : State) : State :=
  if (s.press p).state = .asleep && s.pressDemand p then s.requestWake p .demand else s

/-- Pool demand: while awake is less than wanted, the lowest-numbered ASLEEP fitting press is asked for (R77).
The first argument bounds the requests. -/
def State.wakeForPool (q : PoolNo) : Nat → State → State
  | 0, s => s
  | n + 1, s =>
    if s.poolAwake q < s.poolWanted q then
      match (s.poolPresses q).find? fun p => (s.press p).state == .asleep with
      | some p => State.wakeForPool q n (s.requestWake p .demand)
      | none => s
    else s

/-- Whether a press waits with origin DEMAND and no press demand holds it (R78). -/
def State.withdrawable (s : State) (p : PressNo) : Bool :=
  (s.press p).state == .wakeWait .demand && !s.pressDemand p

/-- Withdrawal of an excess of a pool, highest-numbered press first (R78 step 2): the first argument is the excess. -/
def State.trimPool (q : PoolNo) : Nat → State → State
  | 0, s => s
  | n + 1, s =>
    match (allPresses.filter fun p => s.poolInForce p == some q).reverse.find? s.withdrawable with
    | some p => State.trimPool q n (s.withdraw p)
    | none => s

/-- Withdrawal of a press of pool NONE, or of one that fits no job of its pool (R78 steps 1 and 3). -/
def State.trimPress (p : PressNo) (s : State) : State :=
  let fitsPool := match s.poolInForce p with
    | none => false
    | some q => s.poolFitting q p
  if s.withdrawable p && !fitsPool then s.withdraw p else s

/-- An IDLE press with SLEEP_PENDING that fits an eligible job of its own or of its pool is kept awake (R109). -/
def State.keepWanted (p : PressNo) (s : State) : State :=
  match (s.press p).state with
  | .idle true _ => if (s.candidates p).isEmpty then s else s.keepAwake p
  | _ => s

/-- Evaluate wake demand (R75): press demand, pool demand, withdrawals, and the presses kept awake, in this order,
presses and pools ascending (log entry 41). -/
def State.evalDemand (s : State) : State :=
  let s := allPresses.foldl (fun s p => s.wakeForPress p) s
  let s := (List.finRange 4).foldl (fun s q => s.wakeForPool q 12) s
  let s := allPresses.foldl (fun s p => if (s.poolInForce p).isNone then s.trimPress p else s) s
  let s := (List.finRange 4).foldl (fun s q => s.trimPool q (s.poolAwake q - s.poolWanted q)) s
  let s := allPresses.foldl (fun s p => s.trimPress p) s
  allPresses.foldl (fun s p => s.keepWanted p) s

/-! ## Settling a step -/

/-- Do one piece of a step's agenda. -/
def State.perform (t : Task) (s : State) : State :=
  match t with
  | .decidePress p => s.decidePress p
  | .decideJob e => s.decideJob e
  | .examine p => s.examine p

/-- Put the work raised behind the first `n` pieces of the agenda before them: what a decision raises is taken
before the next decision, so that each binding is made whole (R72). -/
def State.newFirst (n : Nat) (s : State) : State := { s with agenda := s.agenda.drop n ++ s.agenda.take n }

/-- Whether a piece of work is a decision of DSA. -/
def Task.isDecision : Task → Bool
  | .decidePress _ => true
  | .decideJob _ => true
  | .examine _ => false

/-- Whether wake demand is to be evaluated now: a change asks for it, and what comes next is a decision or nothing
(R75). -/
def State.demandNext (s : State) : Bool := s.demand && s.agenda.head?.all Task.isDecision

/-- Take the decision points and examinations a step has raised, in the order raised; wake demand is evaluated after
each change that asks for it, before the next decision is taken (R75; log entry 5). The first argument bounds the
work. -/
def State.settleLoop : Nat → State → State
  | 0, s => s
  | n + 1, s =>
    if s.demandNext then State.settleLoop n ({ s with demand := false } : State).evalDemand
    else
      match s.agenda with
      | t :: rest => State.settleLoop n ((({ s with agenda := rest } : State).perform t).newFirst rest.length)
      | [] => s

/-- Settle a step. No step raises as many as 2,048 pieces of work (log entry 6). -/
def State.settle (s : State) : State := s.settleLoop 2048

end Sys2Proof.Machine
end

