-- ==== Sys2Proof/Machine/JobEnd.lean ====
section
/-! DEFINITION. The end of jobs and of bindings: the re-check of an account with the decisions it raises (spec/08 R136,
R140; spec/04 R67), entering FINISHED, drain targets, the end of a drain, unbinding (spec/01 R16 to R21). -/

namespace Sys2Proof.Machine

/-! ## The re-check (R136, R140) -/

/-- The re-check of an account: its waiting jobs are admitted oldest first until one does not fit (R136), each job's
decision taken, with all that it raises, as the job becomes eligible and before the next job is examined (R67). The
first argument bounds the jobs examined. -/
def State.recheckLoop (a : AccountNo) : Nat → State → State
  | 0, s => s
  | n + 1, s =>
    match s.oldestWaiting a with
    | none => s
    | some e =>
      if s.creditFits a ((((s.job e).bind (·.commit)).map (·.estimate)).getD 0) then
        State.recheckLoop a n (s.admitJob e).settle
      else s

/-- The re-check of an account (R136); at most 64 jobs wait. -/
def State.recheck (a : AccountNo) (s : State) : State := s.recheckLoop a 64

/-- Release a hold remaining at job end; more than 0 starts the re-check (R140). -/
def State.releaseHold (a : AccountNo) (amount : Nat) (s : State) : State :=
  let s := s.modAccount a fun x => { x with holdTotal := x.holdTotal - amount }
  if 0 < amount then s.recheck a else s

/-! ## FINISHED, drain targets, unbinding -/

/-- Enter FINISHED (R21): the outcome is fixed and the bound press cleared, the hold is released, the pages
are freed, the report is pending. The re-check that the release starts is whole before the pages are freed. -/
def State.finishJob (e : Entry) (outcome : JobOutcome) (s : State) : State :=
  match s.job e with
  | none => s
  | some j =>
    let s := s.setJob e (some { j with state := .finished outcome, hold := none, starve := none })
    let s := match j.hold with
      | some h => s.releaseHold j.account h
      | none => s
    let s := { s with spool := s.spool.freeJob e }
    (s.mark (.job e)).wantDemand

/-- Take a drain target: the job is unbound and enters the target's state (R19). Entering STARVED raises
JOB_STARVED, and the job goes on to QUEUED if its pages are already COMPLETE (R17). -/
def State.takeTarget (e : Entry) (t : DrainTarget) (s : State) : State :=
  match s.job e with
  | none => s
  | some j =>
    match t with
    | .held => s.moveJob e .held
    | .starved => ((s.moveJob e .starved).raise .jobStarved (.job j.serial) none).leaveStarved e
    | .fault => s.moveJob e .fault
    | .cancelled => s.finishJob e .cancelled

/-- End a drain when the press's path list is empty: the job takes its drain target and the press is released
(R19), the job first (log entry 47). -/
def State.endDrainIfEmpty (p : PressNo) (e : Entry) (s : State) : State :=
  match s.job e with
  | none => s
  | some j =>
    match j.state with
    | .draining q t =>
      if q = p && (s.press p).path.isEmpty then (s.takeTarget e t).releasePress p else s
    | _ => s

/-- Begin a drain of a PRINTING job: media wait ends, the starve timer stops, and a drain begun on an empty
path list ends as it begins (R13, R17, R18, R19, R20, R50, R51). Media wait ends before the job's move (log entry 42). -/
def State.startDrain (p : PressNo) (e : Entry) (t : DrainTarget) (s : State) : State :=
  ((s.endMediaWait p).moveJob e (.draining p t)).endDrainIfEmpty p e

/-- Unbind the job of a press whose link is lost: PRINTING goes to QUEUED, DRAINING takes its drain target
(R16, R60). -/
def State.unbindLost (p : PressNo) (s : State) : State :=
  match s.boundJob p with
  | none => s
  | some e =>
    match s.job e with
    | none => s
    | some j =>
      match j.state with
      | .draining _ t => s.takeTarget e t
      | _ => s.enterQueued e

/-- Take the drain target of the DRAINING job of a press whose path is emptied (R19, R58, R59). -/
def State.endLostDrain (p : PressNo) (s : State) : State :=
  match s.boundJob p with
  | some e => s.endDrainIfEmpty p e
  | none => s

/-- The transmitter takes the next frame due, and the drain ends if that empties the path list: a check failure removes
the last sheet of a job whose drain target is CANCELLED (R19, R35, R49). -/
def State.transmit (p : PressNo) (s : State) : State :=
  let t := s.pump p
  if (s.press p).path.isEmpty then t else t.endLostDrain p

end Sys2Proof.Machine
end

