-- ==== Sys2Proof/Machine/Link.lean ====
section
/-! DEFINITION. The Press Link Controllers (spec/05): link up, link down, restart, protocol fault, and what each press
frame does. -/

namespace Sys2Proof.Machine

/-! ## Link down and restart (R89, R90) -/

/-- A link down (R89): sending stops and the receiver hunts (R80); the path is lost and a bound job unbound, which takes
its own decision; the press is DOWN and out of its wake queue; COVER_OPEN and JAM end; wake demand is evaluated. With
`raise`, LINK_DOWN is raised first, as step 5 says. The press's report is pending from its change to DOWN, ahead of the
alerts' (log entry 42). -/
def State.linkDown (p : PressNo) (raise : Bool) (s : State) : State :=
  let s := s.modPress p fun x => { x with txq := [], credits := 0, rx := none }
  let s := ((s.losePath p).unbindLost p).settle
  let s := (s.enter p .down).modPress p fun x => { x with resumeMark := false, cover := none, heartbeat := 0 }
  let s := s.leaveQueues p
  let s := if raise then s.raise .linkDown (.press p) none else s
  ((s.endCondition .coverOpen (.press p)).endCondition .jam (.press p)).settle

/-- A restart of a press link (R90): link down without LINK_DOWN unless already DOWN, then the restart signal
and the restart window begin. -/
def State.restartLink (p : PressNo) (s : State) : State :=
  let s := if (s.press p).state = .down then s else s.linkDown p false
  (s.modPress p fun x =>
    { x with seq := 0, rx := none, restart := some { signal := true, elapsed := 0, atStart := false } }).mark (.press p)

/-- A protocol fault (R56): PROTOCOL_FAULT is raised, PRESS_PROTOCOL is set, the link is restarted. -/
def State.protocolFault (p : PressNo) (s : State) : State :=
  let s := s.raise .protocolFault (.press p) none
  ({ s with ret := { s.ret with sticky := { s.ret.sticky with pressProtocol := true } } } : State).restartLink p

/-- Whether a HELLO's fields are in their ranges (R82): path depth 1 to 8, 1 to 6 trays, media classes 0 to 15. -/
def helloInRange (depth : Nat) (trays : List Tray) : Bool :=
  1 ≤ depth && depth ≤ 8 && 1 ≤ trays.length && trays.length ≤ 6 && trays.all fun t => t.media ≤ 15

/-- A HELLO on a DOWN press brings the link up (R83). The press's report is pending from its change of state (log entry
42). -/
def State.linkUp (p : PressNo) (c : Caps) (asleep : Bool) (s : State) : State :=
  let s := s.modRec p fun r => { r with caps := some c }
  let s := s.modPress p fun x =>
    { x with credits := 0, seq := 0, cover := some false, heartbeat := 0, restart := none }
  let s := s.give p .linked
  let s := if asleep then s.enterAsleep p
    else (s.modPress p fun x => { x with awakeSince := some s.time }).enterIdle p
  s.endCondition .linkDown (.press p)

/-- HELLO (R83, R84): on a press that is not DOWN it counts as a link down, whole, followed by a link up. -/
def State.onHello (p : PressNo) (c : Caps) (asleep : Bool) (s : State) : State :=
  if helloInRange c.depth c.trays then
    (if (s.press p).state = .down then s else s.linkDown p true).linkUp p c asleep
  else s

/-! ## Covers (R96, R97) -/

/-- A path loss by the cover: one jam is counted under the oldest lost entry's class; none on an empty list
(R59, R96). -/
def State.coverLoss (p : PressNo) (s : State) : State :=
  match (s.press p).path with
  | [] => s.losePath p
  | head :: _ => (s.losePath p).countJam p head.media

/-- The recorded cover becomes OPEN (R96). -/
def State.coverOpens (p : PressNo) (s : State) : State :=
  let s := (s.modPress p fun x => { x with cover := some true }).raise .coverOpen (.press p) none
  let s := s.mark (.press p)
  match (s.press p).state with
  | .idle _ _ => s.enter p (.halted .cover)
  | .busy _ => ((s.coverLoss p).enter p (.halted .cover)).endLostDrain p
  | .calibrating _ _ =>
    ((s.modPress p fun x => { x with resumeMark := true }).coverLoss p).enter p (.halted .cover)
  | .halted .wakeFail => s.enter p (.halted .cover)
  | .halted .calFail => s.enter p (.halted .cover)
  | _ => s

/-- The recorded cover becomes CLOSED (R97). -/
def State.coverCloses (p : PressNo) (s : State) : State :=
  let s := (s.modPress p fun x => { x with cover := some false }).endCondition .coverOpen (.press p)
  let s := s.mark (.press p)
  match (s.press p).state with
  | .halted .cover => s.recover p
  | _ => s

/-- A cover report: one that agrees with the recorded cover changes nothing (R96, R97). -/
def State.onCover (p : PressNo) (isOpen : Bool) (s : State) : State :=
  if (s.press p).cover = some isOpen then s
  else if isOpen then s.coverOpens p else s.coverCloses p

/-! ## Sheets (R53 to R55, R61) -/

/-- Mark the SENT entry of a sequence PICKED. -/
def pickEntry (q : Seq) (path : List PathEntry) : List PathEntry :=
  path.map fun x => if x.seq = q then { x with state := .picked } else x

/-- PICKED (R53). -/
def State.onPicked (p : PressNo) (q : Seq) (s : State) : State :=
  match (s.press p).path.find? fun x => x.seq == q with
  | some x =>
    if x.state = .sent then s.modPress p fun x => { x with path := pickEntry q x.path } else s.protocolFault p
  | none => s.protocolFault p

/-- The charge of a delivered position of a job, under the table of its price generation (R129). -/
def State.chargeOf (s : State) (j : Job) (n : Nat) : Nat :=
  match j.commit, j.sheetOf n with
  | some c, some sh => (s.tableOf c.gen).sheetCharge sh n
  | _, _ => 0

/-- Release the pages of a position if it is their last (R36, R37), side 1's before side 2's (log entry 44). -/
def State.releasePages (e : Entry) (j : Job) (n : Nat) (s : State) : State :=
  if j.lastCarrier n then
    match j.sheetOf n with
    | some sh => { s with spool := sh.pages.foldl (fun sp k => sp.releasePage e k) s.spool }
    | none => s
  else s

/-- After a delivery (R55): a finished job leaves the press IDLE, a drain on an empty list ends, else the
sheet conditions are examined. -/
def State.afterDelivery (p : PressNo) (e : Entry) (s : State) : State :=
  match s.job e with
  | none => s
  | some j =>
    if j.delivered = j.total then (s.finishJob e .completed).releasePress p
    else (s.endDrainIfEmpty p e).push (.examine p)

/-- The delivery of a job sheet (R54): charge, meters, release, progress, in this order, after the head entry
has been removed. -/
def State.deliverJob (p : PressNo) (ent : PathEntry) (e : Entry) (n : Nat) (s : State) : State :=
  match s.job e with
  | none => s
  | some j =>
    let band := ((j.sheetOf n).map (·.band)).getD 0
    let s := s.applyCharge e (s.chargeOf j n)
    let s := (s.modMeter p ent.media (Meter.countSheet band ent.sides)).modRec p PressRec.countSheet
    let s := s.releasePages e j n
    let s := (s.modJob e fun j => { j with delivered := j.delivered + 1 }).mark (.job e)
    s.afterDelivery p e

/-- DELIVERED (R54, R61): it must name the head entry, and that entry must be PICKED. -/
def State.onDelivered (p : PressNo) (q : Seq) (s : State) : State :=
  match (s.press p).path with
  | [] => s.protocolFault p
  | head :: rest =>
    if head.seq = q && head.state = .picked then
      let s := s.modPress p fun x => { x with path := rest }
      match head.job with
      | some (e, n) => s.deliverJob p head e n
      | none => (s.modMeter p head.media Meter.countService).push (.examine p)
    else s.protocolFault p

/-! ## Jams (R58, R95) -/

/-- The media class a jam counts under: the oldest lost entry's, or class 0 (R58, R95). -/
def Press.jamClass (x : Press) : Nat := (x.path.head?.map (·.media)).getD 0

/-- JAM (R58, R95): the path is lost, and the job's report pending, before the press enters JAMMED (log entry 42). -/
def State.onJam (p : PressNo) (location : Nat) (s : State) : State :=
  let m := (s.press p).jamClass
  match (s.press p).state with
  | .busy _ =>
    let s := ((s.losePath p).enter p .jammed).countJam p m
    (s.raise .jam (.press p) (some location)).endLostDrain p
  | .calibrating _ _ =>
    let s := s.modPress p fun x => { x with resumeMark := true }
    (((s.losePath p).enter p .jammed).countJam p m).raise .jam (.press p) (some location)
  | .jammed => (s.countJam p 0).raise .jam (.press p) (some location)
  | _ => s

/-- CLEAR (R95): the JAM condition ends; the press recovers, or halts if its cover is OPEN (R91). The condition's end,
and its ALERT REPORT, come before the press's change of state and its PRESS REPORT (log entry 42). -/
def State.onClear (p : PressNo) (s : State) : State :=
  match (s.press p).state with
  | .jammed =>
    let s := s.endCondition .jam (.press p)
    if (s.press p).cover = some true then s.enter p (.halted .cover) else s.recover p
  | _ => s

/-! ## Trays, wake, sleep, calibration (R85, R92, R93, R98) -/

/-- TRAY (R85): one tray of the capabilities held is replaced; the press's report is pending, wake demand is evaluated
and the sheet conditions are examined. A TRAY that repeats the values held counts as a change (log entry 40). -/
def State.onTray (p : PressNo) (index : Nat) (t : Tray) (s : State) : State :=
  match (s.pressRec p).caps with
  | none => s
  | some c =>
    if index < c.trays.length && t.media ≤ 15 then
      let s := s.modRec p fun r => { r with caps := some { c with trays := c.trays.set index t } }
      let s := ((s.mark (.press p)).evalDemand).push (.examine p)
      if (s.press p).state.isIdle then s.push (.decidePress p) else s
    else s

/-- READY (R92, R113): the LONG due flag is set after a long sleep, before the press enters IDLE. -/
def State.onReady (p : PressNo) (s : State) : State :=
  match (s.press p).state with
  | .waking _ =>
    (if s.longSleep p then s.modRec p fun r => { r with longDue := true } else s).enterIdle p
  | _ => s

/-- ASLEEP (R93). -/
def State.onAsleep (p : PressNo) (s : State) : State :=
  match (s.press p).state with
  | .sleeping => s.enterAsleep p
  | .idle _ _ => s.enterAsleep p
  | _ => s

/-- The end of a run by PASS (R115): a LONG run clears both flags, a SHORT run the SHORT flag; the sheet counter
is 0. -/
def PressRec.pass (long : Bool) (r : PressRec) : PressRec :=
  { r with sheetCount := 0, shortDue := false, longDue := if long then false else r.longDue }

/-- A failed run (R98, R115): the service sheets left are removed, the press is HALTED with cause CAL_FAIL, and
CAL_FAIL is raised. -/
def State.failRun (p : PressNo) (s : State) : State :=
  ((s.losePath p).enter p (.halted .calFail)).raise .calFail (.press p) none

/-- CALDONE (R98, R115). -/
def State.onCaldone (p : PressNo) (pass : Bool) (s : State) : State :=
  match (s.press p).state with
  | .calibrating run _ =>
    if pass then ((s.losePath p).modRec p (PressRec.pass run.long)).enterIdle p else s.failRun p
  | _ => s

/-- CREDIT (R86): the count is held at 255; a waiting frame is sent, and the sheet conditions are examined. -/
def State.onCredit (p : PressNo) (n : Nat) (s : State) : State :=
  ((s.modPress p fun x => { x with credits := min (x.credits + n) 255 }).transmit p).push (.examine p)

/-! ## Taking a frame (R82) -/

/-- Every received frame of a linked press sets the heartbeat timer back to 0 (R88). -/
def State.heard (p : PressNo) (s : State) : State := s.modPress p fun x => { x with heartbeat := 0 }

/-- What a frame does on a linked press (R82). -/
def State.frameAct (p : PressNo) (f : PressIn) (s : State) : State :=
  match f with
  | .hello d c depth trays asleep =>
    s.onHello p { duplex := d, colour := c, depth := depth, trays := trays } asleep
  | .beat isOpen => s.onCover p isOpen
  | .credit n => s.onCredit p n.toNat
  | .picked q => s.onPicked p q
  | .delivered q => s.onDelivered p q
  | .jam location => if location.toNat ≤ 15 then s.onJam p location.toNat else s
  | .clear => s.onClear p
  | .tray index media loaded => s.onTray p index.toNat { media := media.toNat, loaded := loaded }
  | .cover isOpen => s.onCover p isOpen
  | .ready => s.onReady p
  | .asleep => s.onAsleep p
  | .caldone pass => s.onCaldone p pass
  | .junk => s

/-- Whether the restart signal holds the press's line, so that received frames are discarded (R90). -/
def Press.held (x : Press) : Bool := x.restart.any (·.signal)

/-- Take a received frame by the press's state (R82): none while the restart signal holds the line (R90); on a
DOWN press only HELLO; else the frame is heard and acted on. -/
def State.takeFrame (p : PressNo) (f : PressIn) (s : State) : State :=
  if (s.press p).held then s
  else if (s.press p).state = .down then
    match f with
    | .hello _ _ _ _ _ => (s.frameAct p f).settle
    | _ => s
  else ((s.heard p).frameAct p f).settle

/-- The receiver of a press's link takes one byte (R80): a start byte begins a frame; a length over 300 discards it as
soon as the length is known (log entry 4); a frame whose bytes have all arrived is received if its check matches, and
the receiver hunts again. -/
def State.feedPress (p : PressNo) (b : Byte) (s : State) : State :=
  match (s.press p).rx with
  | none => if b = 0x5A then s.modPress p fun x => { x with rx := some [] } else s
  | some bs =>
    let f := bs ++ [b]
    let hunting := s.modPress p fun x => { x with rx := none }
    let len := fieldAt f 0 2
    if f.length = 2 && Config.maxPressBody < len then hunting
    else if f.length = 5 + len then
      if fieldAt f (3 + len) 2 = (crc16 (f.take (3 + len))).toNat then
        hunting.takeFrame p (pressIn (byteAt f 2) ((f.drop 3).take len))
      else hunting
    else s.modPress p fun x => { x with rx := some f }

/-- The receiver of a press's link takes bytes in their order. -/
def State.feedPressBytes (p : PressNo) (bytes : List Byte) (s : State) : State :=
  bytes.foldl (fun s b => s.feedPress p b) s

/-- Discard a frame in progress on a press's link (R80). -/
def State.dropPressFrame (p : PressNo) (s : State) : State := s.modPress p fun x => { x with rx := none }

/-- The part is running: every link, the panel and the timers act only then (R176). -/
def whenRunning (f : State → State) (s : State) : Host.Outcome State Fault Refusal :=
  .next (if s.phase = .running then f s else s)

/-! ## The commands -/

/-- HELLO (R83, R84). -/
def execHello (p : PressNo) (duplex colour : Bool) (depth : Nat) (trays : List Tray) (asleep : Bool) (s : State) :
    Host.Outcome State Fault Refusal :=
  whenRunning (State.takeFrame p (.hello duplex colour depth trays asleep)) s

/-- BEAT (R88, R96): heard, and taken as a COVER frame when its cover differs from the recorded one. -/
def execBeat (p : PressNo) (coverOpen : Bool) (s : State) : Host.Outcome State Fault Refusal :=
  whenRunning (State.takeFrame p (.beat coverOpen)) s

/-- CREDIT (R86). -/
def execCredit (p : PressNo) (n : Byte) (s : State) : Host.Outcome State Fault Refusal :=
  whenRunning (State.takeFrame p (.credit n)) s

/-- PICKED (R53). -/
def execPicked (p : PressNo) (seq : Seq) (s : State) : Host.Outcome State Fault Refusal :=
  whenRunning (State.takeFrame p (.picked seq)) s

/-- DELIVERED (R54). -/
def execDelivered (p : PressNo) (seq : Seq) (s : State) : Host.Outcome State Fault Refusal :=
  whenRunning (State.takeFrame p (.delivered seq)) s

/-- JAM (R95). -/
def execJam (p : PressNo) (location : Byte) (s : State) : Host.Outcome State Fault Refusal :=
  whenRunning (State.takeFrame p (.jam location)) s

/-- CLEAR (R95). -/
def execClear (p : PressNo) (s : State) : Host.Outcome State Fault Refusal :=
  whenRunning (State.takeFrame p .clear) s

/-- TRAY (R85). -/
def execTray (p : PressNo) (index media : Byte) (loaded : Bool) (s : State) : Host.Outcome State Fault Refusal :=
  whenRunning (State.takeFrame p (.tray index media loaded)) s

/-- COVER (R96, R97). -/
def execCover (p : PressNo) (coverOpen : Bool) (s : State) : Host.Outcome State Fault Refusal :=
  whenRunning (State.takeFrame p (.cover coverOpen)) s

/-- READY (R92). -/
def execReady (p : PressNo) (s : State) : Host.Outcome State Fault Refusal :=
  whenRunning (State.takeFrame p .ready) s

/-- ASLEEP (R93). -/
def execAsleep (p : PressNo) (s : State) : Host.Outcome State Fault Refusal :=
  whenRunning (State.takeFrame p .asleep) s

/-- CALDONE (R98). -/
def execCaldone (p : PressNo) (pass : Bool) (s : State) : Host.Outcome State Fault Refusal :=
  whenRunning (State.takeFrame p (.caldone pass)) s

/-- PRESS_FRAME_DISCARDED (R80): bytes on a press's link, fed to its receiver, which discards the frames it must and
takes the others; a byte that then arrives with a framing error discards the frame in progress. -/
def execPressFrameDiscarded (p : PressNo) (bytes : List Byte) (framingError : Bool) (s : State) :
    Host.Outcome State Fault Refusal :=
  whenRunning (fun s =>
    if framingError then (s.feedPressBytes p bytes).dropPressFrame p else s.feedPressBytes p bytes) s

/-- UNACTED_PRESS_FRAME (R82): a received frame by its kind and body. One of unknown kind, of another body
length, with a field out of range or with no action in the present state counts as heard and does nothing
else. -/
def execUnactedPressFrame (p : PressNo) (kind : Byte) (body : List Byte) (s : State) :
    Host.Outcome State Fault Refusal :=
  whenRunning (State.takeFrame p (pressIn kind body)) s

/-- PRESS_FRAME_TRANSMITTED (R81): the frame on the line is finished, and the transmitter takes the next frame
due. -/
def State.frameDone (p : PressNo) (s : State) : State :=
  if (s.press p).line.isNone then s
  else ((s.modPress p fun x => { x with line := none }).transmit p).settle

/-- PRESS_FRAME_TRANSMITTED (R81). -/
def execPressFrameTransmitted (p : PressNo) (s : State) : Host.Outcome State Fault Refusal :=
  whenRunning (State.frameDone p) s

end Sys2Proof.Machine
end

