-- ==== Sys2Proof/Machine/Supply.lean ====
section
/-! DEFINITION. Supply and Retention (spec/11): the supply monitor, the loss of the supply, the starts of the part, and
the commands of the supply, the reset input and the backup cell. -/

namespace Sys2Proof.Machine

/-! ## The supply monitor (R174) -/

/-- The falling threshold of a selection, in millivolts (R174). -/
def fallingMv (sel : Nat) : Nat := 2920 + 40 * sel

/-- The rising threshold of a selection, 0.07 V above the falling one (R174). -/
def risingMv (sel : Nat) : Nat := fallingMv sel + 70

/-- Entry into LOW: SUPPLY_LOW is raised with source PART (R174). -/
def State.enterLow (s : State) : State := ({ s with low := true } : State).raise .supplyLow .part none

/-- Entry into NORMAL: the SUPPLY_LOW condition ends, and the sheet conditions of every press are examined
(R174), in ascending number (log entry 53). -/
def State.enterNormal (s : State) : State :=
  allPresses.foldl (fun s p => s.push (.examine p))
    (({ s with low := false } : State).endCondition .supplyLow .part)

/-- Hold the sense against the thresholds of the selection (R174). -/
def State.evalSupply (s : State) : State :=
  if s.low then (if risingMv s.ret.schedule.threshold < s.sense then s.enterNormal else s)
  else if s.sense < fallingMv s.ret.schedule.threshold then s.enterLow
  else s

/-- Take a new sense; the part compares it while it runs (R174, R176). -/
def State.takeSense (mv : Nat) (s : State) : State :=
  let s := { s with sense := mv }
  if s.phase = .running then s.evalSupply.settle else s

/-! ## Starts (R175, R176) -/

/-- The end of all working state (spec/11): what remains is the retained domain with its validity mark, the
inputs as they stand, the figures held until the next start, and the queue of waiting commands. -/
def State.dropWorking (ph : Phase) (s : State) : State :=
  { State.blank s.ret with
    phase := ph, resetPin := s.resetPin, retainedValid := s.retainedValid, cellHolds := s.cellHolds
    sense := s.sense, cause := s.cause, lost := s.lost, rate := s.rate, buttonArmed := s.buttonArmed, pending := s.pending }

/-- The link rate code of the two straps, `true` for tied (R162, spec/00 section 5). -/
def rateOf (strap1 strap0 : Bool) : Nat := 2 * strap1.toNat + strap0.toNat

/-- Set every hold total to 0 (R134). -/
def Retained.zeroHolds (r : Retained) : Retained :=
  { r with accounts := r.accounts.map fun a => { a with holdTotal := 0 } }

/-- The retained domain after its validity is examined at a start: kept apart from the hold totals, or loaded with
its defaults (R175, R134). -/
def State.examineRetained (s : State) : Retained := if s.retainedValid then s.ret.zeroHolds else Retained.default

/-- A start of the part, with the straps and the sense it reads (R162, R175, R176): every block at its start
values, every link restarted (R90), the STARTUP REPORT alone in the queue, and SUPPLY_LOW raised if the supply is
LOW. -/
def State.startPart (c : ResetCause) (strap1 strap0 : Bool) (mv : Nat) (s : State) : State :=
  let r := s.examineRetained
  let t := { State.blank r with
    phase := .running, resetPin := s.resetPin, cellHolds := s.cellHolds, sense := mv, cause := c, lost := !s.retainedValid
    rate := rateOf strap1 strap0, reports := [.start], presses := Vector.replicate 12 Press.start
    buttonArmed := s.buttonArmed, pending := s.pending }
  if risingMv r.schedule.threshold < mv then t else t.enterLow

/-! ## The commands -/

/-- SUPPLY_FALL (R174): the sense falls to a value. -/
def execSupplyFall (mv : Nat) (s : State) : Host.Outcome State Fault Refusal :=
  .next (if mv < s.sense then s.takeSense mv else s)

/-- SUPPLY_RISE (R174): the sense rises to a value. -/
def execSupplyRise (mv : Nat) (s : State) : Host.Outcome State Fault Refusal :=
  .next (if s.sense < mv then s.takeSense mv else s)

/-- MAIN_SUPPLY_LOSS (R175): working state ends; the retained domain keeps its whole updates, and its validity mark
while the backup cell holds it. -/
def execMainSupplyLoss (s : State) : Host.Outcome State Fault Refusal :=
  .next (({ s with retainedValid := s.retainedValid && s.cellHolds } : State).dropWorking .off)

/-- SUPPLY_START (R176): the main supply rises from off; the part starts with cause POWER, held while the reset
input is asserted. -/
def execSupplyStart (s : State) : Host.Outcome State Fault Refusal :=
  .next (if s.phase = .off then
    { s with phase := if s.resetPin then .held .power else .starting .power } else s)

/-- RESET_INPUT_ASSERT (R176): with the supply up, the part is held in start with cause RESET INPUT. -/
def execResetInputAssert (s : State) : Host.Outcome State Fault Refusal :=
  .next (
    match s.phase with
    | .running => ({ s with resetPin := true } : State).dropWorking (.held .resetInput)
    | .starting _ => { s with resetPin := true, phase := .held .resetInput }
    | _ => { s with resetPin := true })

/-- RESET_INPUT_RELEASE (R176): a part held in start starts with the cause it holds. -/
def execResetInputRelease (s : State) : Host.Outcome State Fault Refusal :=
  .next (
    match s.phase with
    | .held c => { s with resetPin := false, phase := .starting c }
    | _ => { s with resetPin := false })

/-- START_OF_PART (R176): a start under way is made, with the straps and the sense it reads. -/
def execStartOfPart (strap1 strap0 : Bool) (mv : Nat) (s : State) : Host.Outcome State Fault Refusal :=
  .next (
    match s.phase with
    | .starting c => s.startPart c strap1 strap0 mv
    | _ => s)

/-- BACKUP_CELL_LOSS (R175): the cell falls below the retention voltage, and stays there (log entry 19). While the main
supply is off the validity mark is lost; while it is up the supply holds the domain. -/
def execBackupCellLoss (s : State) : Host.Outcome State Fault Refusal :=
  .next { s with cellHolds := false, retainedValid := s.retainedValid && s.phase != .off }

end Sys2Proof.Machine
end

