-- ==== Sys2Proof/Machine/Replies.lean ====
section
/-! DEFINITION. The form of a request's answer (R166 to R168): a reply code and the bytes that follow it; refusals, which
change nothing; and how a request names a job, an account or a press. -/

namespace Sys2Proof.Machine

/-- A reply: its code and the bytes after the code (R168). -/
structure Reply where
  code : ReplyCode
  figures : List Byte
  deriving DecidableEq, Repr

/-- The body of a reply: the reply code's byte, then its figures (spec/12.4). -/
def Reply.bytes (r : Reply) : List Byte := le 1 r.code.code ++ r.figures

/-- An OK reply. -/
def okWith (figures : List Byte) : Reply := { code := .ok, figures := figures }

/-- A refusal: the code alone, and nothing changes (R167). -/
def refuse (c : ReplyCode) (s : State) : Reply × State := ({ code := c, figures := [] }, s)

/-- A refusal that carries figures (R168); nothing changes. -/
def refuseWith (c : ReplyCode) (figures : List Byte) (s : State) : Reply × State :=
  ({ code := c, figures := figures }, s)

/-- The job that a handle names: the entry is in range and live, and the serial is its job's (R1). -/
def State.named (s : State) (h : Handle) : Option (Entry × Job) :=
  if hlt : h.entry.toNat < 64 then
    match s.job ⟨h.entry.toNat, hlt⟩ with
    | some j => if j.serial = h.serial then some (⟨h.entry.toNat, hlt⟩, j) else none
    | none => none
  else none

/-- Act on the job a handle names, or refuse NO JOB (R1). -/
def withJob (h : Handle) (s : State) (f : Entry → Job → Reply × State) : Reply × State :=
  match s.named h with
  | some (e, j) => f e j
  | none => refuse .noJob s

/-- Act on a press, or refuse NO PRESS for a number beyond P11 (R167). -/
def withPress (p : Byte) (s : State) (f : PressNo → Reply × State) : Reply × State :=
  if h : p.toNat < 12 then f ⟨p.toNat, h⟩ else refuse .noPress s

/-- Act on an account, or refuse NO ACCOUNT for a number beyond 255 (R167). -/
def withAccount (a : Nat) (s : State) (f : AccountNo → Reply × State) : Reply × State :=
  if h : a < 256 then f ⟨a, h⟩ else refuse .noAccount s

/-- Whether a restart of a press is in progress (R90). -/
def State.restarting (s : State) (p : PressNo) : Bool := (s.press p).restart.isSome

/-- The code of the state of the job at an entry, FREE for none (R181). -/
def State.stateCode (s : State) (e : Entry) : Nat := ((s.job e).map fun j => j.state.code).getD 0

end Sys2Proof.Machine
end

