-- ==== Sys2Proof/Machine/AccountRequests.lean ====
section
/-! DEFINITION. The requests of the Account Table and the Charge Engine's tables (spec/07, spec/08): ACCOUNT SET, ADJUST
and READ, METER READ, PRICE WRITE, COMMIT and READ. -/

namespace Sys2Proof.Machine

/-! ## Accounts (R142 to R144) -/

/-- The largest credit limit in cents (R133). -/
abbrev maxLimit : Nat := 10000000

/-- The number of jobs of an account that meet a test. -/
def State.countJobs (s : State) (a : AccountNo) (p : Job → Bool) : Nat :=
  (allEntries.filter fun e => (s.job e).any fun j => j.account == a && p j).length

/-- The re-check of an account, with the number of jobs it admits (R136, R142, R143). -/
def State.recheckCount (a : AccountNo) (s : State) : Nat × State :=
  let t := s.recheck a
  ((s.waiting a).length - (t.waiting a).length, t)

/-- The refusal of an ACCOUNT SET after the account is known, if it is refused (R142 checks 3 to 5). -/
def State.accountSetRefusal (s : State) (a : AccountNo) (st : AccountState) (limit : Nat) : Option ReplyCode :=
  if a = house && st != .active then some .state
  else if st = .unused && (s.countJobs a (fun _ => true) != 0 || (s.account a).balance != 0) then some .state
  else if a != house && st != .unused && ({ s.account a with limit := limit } : Account).available < 0 then
    some .insufficient
  else none

/-- The record after a taken ACCOUNT SET (R142). -/
def Account.set (st : AccountState) (limit : Nat) (a : Account) : Account :=
  match st with
  | .unused =>
    { a with state := .unused, limit := 0, residue := 0, lifeSheets := 0, lifeCharged := 0 }
  | _ =>
    if a.state = .unused then { Account.zero st with limit := limit } else { a with state := st, limit := limit }

/-- ACCOUNT SET (R142). -/
def reqAccountSet (account : Nat) (state : Byte) (limit : BitVec 32) (s : State) : Reply × State :=
  withAccount account s fun a =>
    match AccountState.ofCode state.toNat with
    | none => refuse .field s
    | some st =>
      let lim := min limit.toNat maxLimit
      match s.accountSetRefusal a st lim with
      | some c => refuse c s
      | none =>
        let rose := (s.account a).limit < lim && st != .unused
        let s := s.modAccount a (Account.set st lim)
        let (n, s) := if rose then s.recheckCount a else (0, s)
        let t := s.settle
        (okWith ((t.account a).bytes ++ leInt 8 (t.account a).available ++ le 1 n), t)

/-- ACCOUNT ADJUST (R143). The residue takes 6 bytes in the reply (log entry 8). -/
def reqAccountAdjust (account : Nat) (amount : BitVec 32) (s : State) : Reply × State :=
  withAccount account s fun a =>
    let x := s.account a
    let x' := { x with balance := x.balance + amount.toInt }
    if x.state = .unused then refuse .state s
    else if x'.balance < -Config.maxBalance || Config.maxBalance < x'.balance then refuse .field s
    else if a != house && amount.toInt < 0 && x'.available < 0 then
      refuseWith .insufficient (leInt 8 x.available) s
    else
      let s := s.modAccount a fun _ => x'
      let (n, s) := if 0 < amount.toInt then s.recheckCount a else (0, s)
      let t := s.settle
      let y := t.account a
      (okWith (leInt 4 y.balance ++ le 6 y.residue ++ le 6 y.holdTotal ++ leInt 8 y.available ++ le 1 n), t)

/-- How far an account's credit falls short of an estimate: the estimate minus the available credit, or for the
house account the amount by which the hold total plus the estimate exceeds its capacity (R144); 0 where nothing exceeds
(log entry 45). -/
def State.shortfall (s : State) (a : AccountNo) (estimate : Nat) : Nat :=
  if a = house then (s.account a).holdTotal + estimate - Config.max48
  else ((estimate : Int) - (s.account a).available).toNat

/-- ACCOUNT READ (R144): it changes nothing. -/
def reqAccountRead (account : Nat) (s : State) : Reply × State :=
  withAccount account s fun a =>
    let w := s.oldestWaiting a
    let est := w.bind fun e => (s.job e).bind fun j => j.commit.map (·.estimate)
    (okWith ((s.account a).bytes ++ leInt 8 (s.account a).available
      ++ le 1 (s.countJobs a fun _ => true) ++ le 1 (s.countJobs a fun j => j.hold.isSome)
      ++ le 1 (s.waiting a).length
      ++ optLe 1 (w.map (·.val)) ++ optLe 4 (w.bind fun e => (s.job e).map (·.serial.toNat))
      ++ optLe 6 est ++ optLe 6 (est.map (s.shortfall a))), s)

/-! ## METER READ (R146) -/

/-- METER READ (R146): the 16 rows as they stand; with the clear flag they are then set to 0. -/
def reqMeterRead (press clear : Byte) (s : State) : Reply × State :=
  withPress press s fun p =>
    if 1 < clear.toNat then refuse .field s
    else if s.restarting p then refuse .busy s
    else
      let rows := ((s.ret.meters[p]).toList.map Meter.bytes).flatten
      let cleared := { s with ret := { s.ret with
        meters := s.ret.meters.set p (Vector.replicate 16 Meter.zero) } }
      (okWith rows, if clear = 1 then cleared else s)

/-! ## Prices (R121 to R124) -/

/-- The contents of a price table in the order of R118 (log entry 8). -/
def PriceTable.bytes (t : PriceTable) : List Byte :=
  (t.base.toList.map (le 6)).flatten ++ (t.cf.toList.map (le 2)).flatten ++ le 2 t.df
    ++ le 4 t.t1 ++ le 4 t.t2 ++ le 2 t.tf0 ++ le 2 t.tf1 ++ le 2 t.tf2

/-- Write values into a vector from an index on. -/
def writeFrom {n : Nat} (v : Vector Nat n) : Nat → List Nat → Vector Nat n
  | _, [] => v
  | i, x :: xs => writeFrom (v.setIfInBounds i x) (i + 1) xs

/-- A base price as stored (R122). -/
def clampBase (x : Nat) : Nat := min x 999999

/-- A colour factor as stored (R122). -/
def clampColour (x : Nat) : Nat := min x 1023

/-- A duplex or tier factor as stored (R122). -/
def clampFactor (x : Nat) : Nat := min x 256

/-- A threshold as stored (R122). -/
def clampThreshold (x : Nat) : Nat := min x Config.maxSheets

/-- The refusal of a PRICE WRITE, if it is refused (R121). -/
def State.priceWriteRefusal (s : State) (group first count : Nat) : Option ReplyCode :=
  if 4 < group then some .field
  else if (group = 0 && (count = 0 || 16 < count)) || (group = 1 && (count = 0 || 4 < count))
      || (group = 2 && count != 1) || (group = 3 && count != 5) || (group = 4 && count != 0) then some .length
  else if (group = 0 && 16 < first + count) || (group = 1 && 4 < first + count) then some .field
  else if s.quoted s.ret.other.gen != 0 then some .state
  else none

/-- The table after a group of values is written into it (R121, R122); `cur` is CURRENT, which COPY copies. -/
def PriceTable.write (group first : Nat) (values : List Nat) (cur t : PriceTable) : PriceTable :=
  if group = 0 then { t with base := writeFrom t.base first (values.map clampBase) }
  else if group = 1 then { t with cf := writeFrom t.cf first (values.map clampColour) }
  else if group = 2 then { t with df := clampFactor (values.headD 0) }
  else if group = 3 then
    { t with
      t1 := clampThreshold (values.getD 0 0), t2 := clampThreshold (values.getD 1 0)
      tf0 := clampFactor (values.getD 2 0), tf1 := clampFactor (values.getD 3 0)
      tf2 := clampFactor (values.getD 4 0) }
  else { cur with gen := t.gen }

/-- PRICE WRITE (R121, R122). -/
def reqPriceWrite (group first : Byte) (values : List Nat) (s : State) : Reply × State :=
  match s.priceWriteRefusal group.toNat first.toNat values.length with
  | some c => refuse c s
  | none =>
    let t := PriceTable.write group.toNat first.toNat values s.ret.current s.ret.other
    (okWith (le 1 t.gen.toNat ++ t.bytes), { s with ret := { s.ret with other := t } })

/-- The table as it enters service: the tier clamp, then the generation after CURRENT's (R123 steps 1, 2). -/
def PriceTable.enterService (cur t : PriceTable) : PriceTable :=
  { t with t2 := max t.t1 t.t2, gen := cur.gen + 1 }

/-- PRICE COMMIT (R123). -/
def reqPriceCommit (s : State) : Reply × State :=
  if s.quoted s.ret.other.gen != 0 then refuse .state s
  else
    let s := { s with ret := { s.ret with
      current := PriceTable.enterService s.ret.current s.ret.other, other := s.ret.current } }
    (okWith (le 1 s.ret.current.gen.toNat ++ s.ret.current.bytes ++ le 1 s.ret.other.gen.toNat
      ++ le 1 (s.quoted s.ret.current.gen) ++ le 1 (s.quoted s.ret.other.gen)), s)

/-- PRICE READ (R124): it changes nothing. -/
def reqPriceRead (role : Byte) (s : State) : Reply × State :=
  let answer (t o : PriceTable) : Reply :=
    okWith (le 1 role.toNat ++ le 1 t.gen.toNat ++ t.bytes ++ le 1 (s.quoted t.gen) ++ le 1 o.gen.toNat)
  if role = 0 then (answer s.ret.current s.ret.other, s)
  else if role = 1 then (answer s.ret.other s.ret.current, s)
  else refuse .field s

end Sys2Proof.Machine
end

