-- ==== Sys2Proof/Machine/JobRequests.lean ====
section
/-! DEFINITION. The requests of the Job Table and the spool's intake (spec/01, spec/02): JOB OPEN, RUNS, DATA, COMMIT,
HOLD, RELEASE, CANCEL and STATUS. -/

namespace Sys2Proof.Machine

/-! ## JOB OPEN (R3, R4) -/

/-- The serial after a serial: counting up and passing over 0 (R4). -/
def nextSerial (n : Serial) : Serial := if n + 1 = 0 then 1 else n + 1

/-- Whether a serial belongs to a live job. -/
def State.liveSerial (s : State) (n : Serial) : Bool :=
  allEntries.any fun e => (s.job e).any fun j => j.serial == n

/-- The first serial from `n` on that belongs to no live job, in at most the given number of tries (R4). -/
def State.freeSerial (s : State) : Nat → Serial → Serial
  | 0, n => n
  | k + 1, n => if s.liveSerial n then s.freeSerial k (nextSerial n) else n

/-- The target that a byte names: a press, a pool, or the refusal it earns (R3, R181). -/
def targetOf (b : Byte) : Except ReplyCode Target :=
  if h : b.toNat < 12 then .ok (.press ⟨b.toNat, h⟩)
  else if b.toNat < 16 then .error .noPress
  else if h : b.toNat - 16 < 4 then .ok (.pool ⟨b.toNat - 16, h⟩)
  else .error .field

/-- The lowest-numbered FREE entry (R3). -/
def State.lowestFree (s : State) : Option Entry := allEntries.find? fun e => (s.job e).isNone

/-- The record of a job just opened (R3). -/
def Job.opened (serial : Serial) (account : AccountNo) (target : Target) (cls : JobClass) (copies : Nat) : Job :=
  { serial := serial, account := account, target := target, cls := cls, copies := copies, runs := none
    received := 0, commit := none, hold := none, hostHold := false, delivered := 0, reprinted := 0
    state := .opened, starve := none }

/-- Open a job at a FREE entry: it takes the next serial of no live job, and the counter goes on after it (R3, R4). -/
def State.openJob (e : Entry) (account : AccountNo) (t : Target) (cls : JobClass) (copies : Nat) (s : State) : State :=
  let n := s.freeSerial 64 s.serialCounter
  ({ s with serialCounter := nextSerial n } : State).setJob e (some (Job.opened n account t cls copies))

/-- JOB OPEN (R3, R4). -/
def reqJobOpen (account target cls copies : Byte) (s : State) : Reply × State :=
  match targetOf target with
  | .error c => refuse c s
  | .ok t =>
    match JobClass.ofCode cls.toNat with
    | none => refuse .field s
    | some k =>
      match s.lowestFree with
      | none => refuse .tableFull s
      | some e =>
        let c := clamp 1 255 copies.toNat
        let n := s.freeSerial 64 s.serialCounter
        (okWith (le 1 e.val ++ le 4 n.toNat ++ le 1 account.toNat ++ le 1 t.code ++ le 1 k.code ++ le 1 c),
          s.openJob e account.toFin t k c)

/-! ## JOB RUNS (R5) -/

/-- Whether a run's fields are in their ranges and its duplex byte is a defined code (R5). -/
def RunSpec.inRange (r : RunSpec) : Bool :=
  1 ≤ r.pages.toNat && r.pages.toNat ≤ 8192 && r.media.toNat ≤ 15 && r.band.toNat ≤ 3 && r.duplex.toNat ≤ 1

/-- The stored run of a run as sent. -/
def RunSpec.run (r : RunSpec) : Run :=
  { pages := r.pages.toNat, media := r.media.toNat, duplex := r.duplex == 1, band := r.band.toNat }

/-- Whether a job has any data: pages received, or a page FILLING (R5). -/
def State.hasData (s : State) (e : Entry) (j : Job) : Bool := 0 < j.received || (s.spool.filling e).isSome

/-- JOB RUNS (R5). -/
def reqJobRuns (h : Handle) (declared : BitVec 16) (runs : List RunSpec) (s : State) : Reply × State :=
  if runs.isEmpty || 16 < runs.length || (runs.map fun r => r.pages.toNat).sum != declared.toNat then
    refuse .length s
  else
    withJob h s fun e j =>
      if !(runs.all RunSpec.inRange) || 8192 < declared.toNat then refuse .field s
      else if j.state != .opened || s.hasData e j then refuse .state s
      else
        let j' := { j with runs := some (runs.map RunSpec.run) }
        (okWith (le 2 j'.pageCount ++ le 2 j'.perCopy ++ le 4 j'.total), s.setJob e (some j'))

/-! ## JOB DATA (R28 to R33) -/

/-- The BEGIN flag of a segment (R181). -/
def isBegin (flags : Byte) : Bool := flags.getLsbD 0

/-- The END flag of a segment (R181). -/
def isEnd (flags : Byte) : Bool := flags.getLsbD 1

/-- Whether a job's state takes data (R28 check 3). -/
def JobState.takesData : JobState → Bool
  | .opened | .creditWait | .held | .queued _ | .printing _ | .draining _ _ | .starved => true
  | .fault | .finished _ => false

/-- The page that a segment goes into, with its descriptor number: a new one for BEGIN, else the FILLING one;
absent when the segment is out of page order (R28 check 4). -/
def State.segmentPage (s : State) (e : Entry) (j : Job) (page : Nat) (begins : Bool) : Option (Nat × Page) :=
  if begins then
    if j.runs.isSome && (s.spool.filling e).isNone && j.received < j.pageCount && page = j.received then
      some (s.spool.openPage e page)
    else none
  else
    match s.spool.filling e with
    | some (d, pg) => if pg.number = page then some (d, pg) else none
    | none => none

/-- The new blocks a segment needs (R30, R31). -/
def State.segmentBlocks (s : State) (pg : Page) (n : Nat) : Nat := blocksNeeded n (s.spool.room pg)

/-- Hand on the completion of a page of a job (R32): eligibility, leaving STARVED, a waiting sheet. `was` says
whether the job was eligible before the page was COMPLETE. -/
def State.pageCompleted (e : Entry) (was : Bool) (s : State) : State :=
  let s := if s.eligible e && !was then (s.push (.decideJob e)).wantDemand else s
  let s := s.leaveStarved e
  match (s.job e).bind fun j => j.state.bound with
  | some p => s.push (.examine p)
  | none => s

/-- Take a segment that has passed its checks (R29, R30, R32). -/
def State.takeSegment (e : Entry) (d : Nat) (pg : Page) (data : List Byte) (ends : Bool) (s : State) : State :=
  let was := s.eligible e
  let s := { s with spool := s.spool.storeSegment d pg data ends }
  if ends then ((s.modJob e fun j => { j with received := j.received + 1 }).pageCompleted e was).settle else s

/-- JOB DATA (R28 to R33). The blocks needed in a SPOOL FULL reply (R31) take 2 bytes (log entry 8). -/
def reqJobData (h : Handle) (page : BitVec 16) (flags : Byte) (data : List Byte) (s : State) : Reply × State :=
  if Config.maxSegment < data.length then refuse .length s
  else
    withJob h s fun e j =>
      if 3 < flags.toNat then refuse .field s
      else if !j.state.takesData then refuse .state s
      else
        match s.segmentPage e j page.toNat (isBegin flags) with
        | none => refuseWith .sequence (le 2 j.received ++ yesNo (s.spool.filling e).isSome) s
        | some (d, pg) =>
          if Config.maxPageBytes < pg.byteLen + data.length then refuse .length s
          else if (isBegin flags && s.spool.freeDescriptors = 0)
              || s.spool.freeBlocks < s.segmentBlocks pg data.length then
            refuseWith .spoolFull (le 2 s.spool.freeBlocks ++ le 2 s.spool.freeDescriptors
              ++ le 2 (s.segmentBlocks pg data.length)) s
          else
            let t := s.takeSegment e d pg data (isEnd flags)
            (okWith (le 2 page.toNat ++ le 1 (if isEnd flags then PageState.complete else .filling).code
              ++ le 4 (pg.byteLen + data.length) ++ le 2 (if isEnd flags then j.received + 1 else j.received)
              ++ le 2 t.spool.freeBlocks ++ le 2 t.spool.freeDescriptors), t)

/-! ## JOB COMMIT (R7 to R11) -/

/-- The presses of a target (R6). -/
def State.pressesOf (s : State) (t : Target) : List PressNo := allPresses.filter (s.isOf t)

/-- Whether the target has a press that can be asked: a press with learned capabilities, or a pool with a press
(R7). -/
def State.targetPresent (s : State) (t : Target) : Bool :=
  match t with
  | .press p => (s.pressRec p).caps.isSome
  | .pool _ => !(s.pressesOf t).isEmpty

/-- Whether at least one press of a target fits a job (R7, R11). -/
def State.targetFits (s : State) (t : Target) (j : Job) : Bool := (s.pressesOf t).any fun p => s.fits p j

/-- The refusal of a JOB COMMIT, if it is refused (R7). -/
def State.commitRefusal (s : State) (j : Job) : Option ReplyCode :=
  if j.state != .opened then some .state
  else if j.runs.isNone then some .state
  else if !s.targetPresent j.target then some .target
  else if !s.targetFits j.target j then some .target
  else if j.account != house && (s.account j.account).state != .active then some .state
  else none

/-- The colour test of a filter (R10). -/
def ColourCond.holds (c : ColourCond) (runs : List Run) : Bool :=
  match c with
  | .any => true
  | .colourOnly => runs.any fun r => 0 < r.band
  | .monoOnly => runs.all fun r => r.band == 0

/-- Whether an enabled filter matches a job: all four tests hold (R10). -/
def Filter.matches (f : Filter) (j : Job) : Bool :=
  let runs := j.runs.getD []
  f.enabled && (BitVec.ofFin j.account &&& f.mask) == (f.account &&& f.mask)
    && (f.media == 0 || runs.any fun r => f.media.getLsbD r.media)
    && f.colour.holds runs && f.minSheets ≤ j.total

/-- The matching filters of a job, in number order (R10). -/
def State.matching (s : State) (j : Job) : List Filter := s.ret.filters.toList.filter fun f => f.matches j

/-- The pool of a REDIRECT action. -/
def FilterAction.pool? : FilterAction → Option PoolNo
  | .redirect q => some q
  | _ => none

/-- The filter outcome of a job (R11). -/
def State.filterOutcome (s : State) (j : Job) : FilterOutcome :=
  let fs := s.matching j
  let redirect := fs.findSome? fun f => f.action.pool?
  let fits := redirect.any fun q => s.targetFits (.pool q) j
  { hold := fs.any fun f => f.action == .hold
    flagged := (fs.any fun f => f.action == .flag) || (redirect.isSome && !fits)
    redirected := if fits then redirect else none }

/-- Commit steps 1 to 3 (R8): the commit sequence, the filter outcome with its target and alert, and the quote. A
REDIRECT that applies makes the job's report pending (R22), to the pool the job has as its target too (log entry 46). -/
def State.quoteJob (e : Entry) (j : Job) (s : State) : State :=
  let s := { s with commitCounter := s.commitCounter + 1 }
  let out := s.filterOutcome j
  let c : Commit :=
    { seq := s.commitCounter, gen := s.ret.current.gen
      estimate := s.ret.current.estimate (j.runs.getD []) j.copies
      charged := 0, filter := out, cursor := some 1 }
  let s := s.setJob e (some { j with commit := some c, target := (out.redirected.map Target.pool).getD j.target })
  let s := if out.redirected.isSome then s.mark (.job e) else s
  if out.flagged then s.raise .jobFlagged (.job j.serial) none else s

/-- Commit step 4 (R8, R135): the estimate goes on hold and the job to HELD or QUEUED, or the job waits for
credit. -/
def State.offerCredit (e : Entry) (s : State) : State :=
  match s.job e with
  | none => s
  | some j =>
    let est := (j.commit.map (·.estimate)).getD 0
    if s.admits j.account est then (s.reserve e j est).enterAdmitted e
    else ((s.setJob e (some { j with state := .creditWait })).mark (.job e)).raise .creditWait (.job j.serial) none

/-- The filter outcome's bytes: flags (hold, flagged), then the redirected-to pool (log entry 8). -/
def FilterOutcome.bytes (f : FilterOutcome) : List Byte :=
  le 1 (flagBits [f.hold, f.flagged]) ++ optLe 1 (f.redirected.map (·.val))

/-- JOB COMMIT (R7, R8). The state in its reply is the one at the end of the step (log entry 10). -/
def reqJobCommit (h : Handle) (s : State) : Reply × State :=
  withJob h s fun e j =>
    match s.commitRefusal j with
    | some c => refuse c s
    | none =>
      let q := s.quoteJob e j
      let t := (q.offerCredit e).settle
      match (q.job e).bind (·.commit) with
      | none => (okWith [], t)
      | some c =>
        (okWith (le 1 (t.stateCode e) ++ le 4 c.seq.toNat ++ le 1 c.gen.toNat ++ le 6 c.estimate ++ c.filter.bytes), t)

/-! ## JOB HOLD, JOB RELEASE, JOB CANCEL (R13, R14, R20) -/

/-- Set or clear the host hold flag of a job. -/
def State.setHostHold (e : Entry) (b : Bool) (s : State) : State := s.modJob e fun j => { j with hostHold := b }

/-- Clear both hold flags of a job (R14). -/
def Job.unheld (j : Job) : Job :=
  { j with
    hostHold := false
    commit := j.commit.map fun c => { c with filter := { c.filter with hold := false } } }

/-- JOB HOLD (R13). -/
def reqJobHold (h : Handle) (s : State) : Reply × State :=
  withJob h s fun e j =>
    match j.state with
    | .queued _ => (okWith [], ((s.setHostHold e true).moveJob e .held).settle)
    | .starved =>
      (okWith [], (((s.setHostHold e true).moveJob e .held).endCondition .jobStarved (.job j.serial)).settle)
    | .printing p => (okWith [], ((s.setHostHold e true).startDrain p e .held).settle)
    | .creditWait => (okWith [], s.setHostHold e true)
    | _ => refuse .state s

/-- JOB RELEASE (R14). -/
def reqJobRelease (h : Handle) (s : State) : Reply × State :=
  withJob h s fun e j =>
    match j.state with
    | .held => (okWith [], ((s.modJob e Job.unheld).enterQueued e).settle)
    | .creditWait => (okWith [], s.modJob e Job.unheld)
    | _ => refuse .state s

/-- The state after a JOB CANCEL that is taken, absent when it is refused (R20). -/
def State.cancelJob (e : Entry) (j : Job) (s : State) : Option State :=
  match j.state with
  | .opened | .creditWait | .held | .queued _ | .starved => some (s.finishJob e .cancelled).settle
  | .fault => some (s.finishJob e .faulted).settle
  | .printing p => some (s.startDrain p e .cancelled).settle
  | .draining p _ => some (s.setTarget p e .cancelled)
  | .finished _ => none

/-- JOB CANCEL (R20): the reply carries the state the job holds after the request. -/
def reqJobCancel (h : Handle) (s : State) : Reply × State :=
  withJob h s fun e j =>
    match s.cancelJob e j with
    | none => refuse .state s
    | some t => (okWith (le 1 (t.stateCode e)), t)

/-! ## JOB STATUS (R23) -/

/-- The bytes of a run, as JOB RUNS lays it out (spec/12.4). -/
def Run.bytes (r : Run) : List Byte := le 2 r.pages ++ le 1 r.media ++ yesNo r.duplex ++ le 1 r.band

/-- The copy and index of a cursor: copy 0 means END (spec/12.5). -/
def Job.cursorBytes (j : Job) (cursor : Option Nat) : List Byte :=
  match cursor with
  | some n => le 1 (j.copyOf n) ++ le 2 (j.sheetIndex n)
  | none => le 1 0 ++ le 2 0

/-- The drain target of a job that drains. -/
def JobState.target? : JobState → Option DrainTarget
  | .draining _ t => some t
  | _ => none

/-- Queued since, present while QUEUED. -/
def JobState.since? : JobState → Option Time
  | .queued t => some t
  | _ => none

/-- The outcome, present in FINISHED. -/
def JobState.outcome? : JobState → Option JobOutcome
  | .finished o => some o
  | _ => none

/-- The fields present after JOB COMMIT, as JOB STATUS carries them (R23). -/
def Job.commitBytes (j : Job) : List Byte :=
  optLe 4 (j.commit.map (·.seq.toNat)) ++ optLe 1 (j.commit.map (·.gen.toNat))
    ++ optLe 6 (j.commit.map (·.estimate)) ++ optLe 6 (j.commit.map (·.charged)) ++ optLe 6 j.hold
    ++ (match j.commit with
        | some c => le 1 1 ++ c.filter.bytes
        | none => le 1 0 ++ le 1 0 ++ optLe 1 none)

/-- The record of a job as JOB STATUS carries it, in the order of R23 after the state (log entry 8). -/
def State.statusBytes (s : State) (e : Entry) (j : Job) : List Byte :=
  le 1 j.state.code ++ le 4 j.serial.toNat ++ le 1 j.account.val ++ le 1 j.target.code ++ le 1 j.cls.code
    ++ le 1 j.copies ++ yesNo j.runs.isSome ++ counted ((j.runs.getD []).map Run.bytes)
    ++ optLe 2 (j.runs.map pagesOf) ++ optLe 2 (j.runs.map sheetsOf) ++ optLe 4 (j.runs.map fun _ => j.total)
    ++ le 2 j.received ++ yesNo (s.spool.filling e).isSome
    ++ j.commitBytes ++ yesNo j.hostHold ++ le 4 j.delivered ++ le 4 j.reprinted
    ++ (match j.commit with
        | some c => le 1 1 ++ j.cursorBytes c.cursor
        | none => le 1 0 ++ j.cursorBytes none)
    ++ optLe 1 (j.state.bound.map (·.val)) ++ optLe 4 (j.state.since?.map (·.toNat))
    ++ optLe 1 (j.state.target?.map (·.code)) ++ optLe 1 (j.state.outcome?.map (·.code))

/-- JOB STATUS (R23): it changes nothing. -/
def reqJobStatus (h : Handle) (s : State) : Reply × State :=
  withJob h s fun e j => (okWith (s.statusBytes e j), s)

end Sys2Proof.Machine
end

