-- ==== Sys2Proof/Machine/PressRequests.lean ====
section
/-! DEFINITION. The requests about presses and circuits (spec/04 R64, R79, spec/05, spec/06): PRESS SET, READ, WAKE, SLEEP,
CALIBRATE, RESUME and RESTART, and CIRCUIT SET. -/

namespace Sys2Proof.Machine

/-! ## PRESS SET (R64, R79, R105, R109 to R112) -/

/-- The pool that a byte names: FFh is NONE; 4 to FEh name none (R181). -/
def poolOf (b : Byte) : Option (Option PoolNo) :=
  if b = 0xFF then some none else if h : b.toNat < 4 then some (some ⟨b.toNat, h⟩) else none

/-- The circuit that a byte names (R105). -/
def circuitOf (b : Byte) : Option CircuitNo := if h : b.toNat < 4 then some ⟨b.toNat, h⟩ else none

/-- A short interval as stored (R111). -/
def clampShort (n : Nat) : Nat := if n = 0 then 0 else clamp 250 50000 n

/-- The settings of a press record after PRESS SET, each clamped (R109 to R111), with the short interval tested
(R112). -/
def PressRec.set (pool : Option PoolNo) (circuit : CircuitNo) (f : PressSpec) (r : PressRec) : PressRec :=
  ({ r with
    pool := pool, circuit := circuit
    idleTimeout := min f.idleTimeout.toNat 240, minAwake := min f.minAwake.toNat 60
    shortInterval := clampShort f.shortInterval.toNat
    longThreshold := min f.longThreshold.toNat 24 } : PressRec).testShort

/-- The byte of a pool entry: FFh for NONE (R181). -/
def poolByte (q : Option PoolNo) : Nat := (q.map (·.val)).getD 255

/-- The six settings of a press record (R101). -/
def PressRec.settingBytes (r : PressRec) : List Byte :=
  le 1 (poolByte r.pool) ++ le 1 r.circuit.val ++ le 1 r.idleTimeout ++ le 1 r.minAwake
    ++ le 4 r.shortInterval ++ le 1 r.longThreshold

/-- Whether a state refuses a change of pool or circuit (R79). -/
def PressState.inUse : PressState → Bool
  | .busy _ | .jammed | .calibrating _ _ => true
  | _ => false

/-- Move a press in WAKE_WAIT from one circuit's queue to the tail of another's, its origin kept (R79, R105). -/
def State.moveQueue (p : PressNo) (old new : CircuitNo) (s : State) : State :=
  if old = new then s
  else
    match (s.press p).state with
    | .wakeWait _ => (s.leaveQueue old p).joinQueue new p
    | _ => s

/-- The effects of a change of a press's pool (R66, R75, R79). -/
def State.poolChanged (p : PressNo) (s : State) : State :=
  let s := s.wantDemand
  if (s.press p).state.isIdle then s.push (.decidePress p) else s

/-- Keep the present pool of a press in force while a job is bound to it (R79). -/
def State.holdPool (p : PressNo) (s : State) : State :=
  if (s.boundJob p).isSome then s.modPress p fun x => { x with heldPool := some (s.poolInForce p) } else s

/-- Write the settings of a press and do what they do at once (R79, R109, R110): the queue move, the idle timer and the
sleep point, the change of pool, in this order (log entry 39). While a job is bound (the press is then HALTED) the pool
it is bound in stays in force (R79; log entry 48). -/
def State.setPress (p : PressNo) (pool : Option PoolNo) (c : CircuitNo) (f : PressSpec) (s : State) : State :=
  let was := s.pressRec p
  let s := if was.pool = pool then s else s.holdPool p
  let s := (s.modRec p (PressRec.set pool c f)).moveQueue p was.circuit c
  let s := (s.expireIdle p).trySleep p
  if was.pool = pool then s else s.poolChanged p

/-- PRESS SET (R64, R79). The reply repeats the press number before the stored settings (R111; log entry 8). -/
def reqPressSet (press : Byte) (f : PressSpec) (s : State) : Reply × State :=
  withPress press s fun p =>
    match poolOf f.pool, circuitOf f.circuit with
    | some pool, some c =>
      if s.restarting p then refuse .busy s
      else if ((s.pressRec p).pool != pool || (s.pressRec p).circuit != c) && (s.press p).state.inUse then
        refuse .state s
      else
        let t := (s.setPress p pool c f).settle
        (okWith (le 1 p.val ++ (t.pressRec p).settingBytes), t)
    | _, _ => refuse .field s

/-! ## PRESS READ (R101) -/

/-- The MEDIA_WAIT flag of a press state. -/
def PressState.mediaWait : PressState → Bool
  | .busy (some _) => true
  | _ => false

/-- The SLEEP_PENDING flag of a press state. -/
def PressState.sleepPending : PressState → Bool
  | .idle b _ => b
  | _ => false

/-- The halt cause, present in HALTED. -/
def PressState.cause? : PressState → Option HaltCause
  | .halted c => some c
  | _ => none

/-- The contents of a press's report, PRESS REPORT offsets 4 to 16 (spec/12.5). -/
def State.pressContents (s : State) (p : PressNo) : List Byte :=
  let x := s.press p
  le 1 p.val ++ le 1 x.state.code
    ++ le 1 (flagBits [x.state.mediaWait, x.state.sleepPending, x.restart.isSome])
    ++ optLe 1 (x.state.cause?.map (·.code)) ++ optLe 1 (x.cover.map (·.toNat))
    ++ optLe 4 (((s.boundJob p).bind s.job).map (·.serial.toNat)) ++ le 1 x.path.length

/-- The bytes of a tray: media class, state (R181). -/
def Tray.bytes (t : Tray) : List Byte := le 1 t.media ++ yesNo t.loaded

/-- Learned capabilities or their absence (R101; log entry 8). -/
def capsBytes (c : Option Caps) : List Byte :=
  match c with
  | some c => le 1 1 ++ yesNo c.duplex ++ yesNo c.colour ++ le 1 c.depth ++ counted (c.trays.map Tray.bytes)
  | none => le 1 0 ++ le 1 0 ++ le 1 0 ++ le 1 0 ++ counted []

/-- PRESS READ (R101): it changes nothing. -/
def reqPressRead (press : Byte) (s : State) : Reply × State :=
  withPress press s fun p =>
    if s.restarting p then refuse .busy s
    else
      let r := s.pressRec p
      (okWith (s.pressContents p ++ le 1 (s.press p).credits ++ le 2 (s.press p).seq.toNat
        ++ capsBytes r.caps ++ r.settingBytes ++ le 4 r.sheetCount ++ yesNo r.shortDue ++ yesNo r.longDue), s)

/-! ## PRESS WAKE and PRESS SLEEP (R108) -/

/-- The state after a PRESS WAKE that is taken, absent when it is refused STATE (R108). -/
def State.wakePress (p : PressNo) (s : State) : Option State :=
  match (s.press p).state with
  | .asleep => some (s.requestWake p .host).settle
  | .wakeWait _ => some (s.modPress p fun x => { x with state := .wakeWait .host })
  | .idle _ _ => some (s.keepAwake p)
  | _ => none

/-- PRESS WAKE (R108). -/
def reqPressWake (press : Byte) (s : State) : Reply × State :=
  withPress press s fun p =>
    if s.restarting p then refuse .busy s
    else
      match s.wakePress p with
      | some t => (okWith [], t)
      | none => refuse .state s

/-- The state after a PRESS SLEEP that is taken, absent when it is refused STATE (R108). -/
def State.sleepPress (p : PressNo) (s : State) : Option State :=
  match (s.press p).state with
  | .idle _ _ => some (s.setSleepPending p).settle
  | .wakeWait .host => some (s.withdraw p).settle
  | .asleep | .sleeping => some s
  | _ => none

/-- PRESS SLEEP (R108). -/
def reqPressSleep (press : Byte) (s : State) : Reply × State :=
  withPress press s fun p =>
    if s.restarting p then refuse .busy s
    else
      match s.sleepPress p with
      | some t => (okWith [], t)
      | none => refuse .state s

/-! ## PRESS CALIBRATE, RESUME, RESTART (R113, R99, R90) -/

/-- Set the due flag of a kind (R112, R113). -/
def PressRec.setDue (long : Bool) (r : PressRec) : PressRec :=
  if long then { r with longDue := true } else { r with shortDue := true }

/-- PRESS CALIBRATE (R113). -/
def reqPressCalibrate (press kind : Byte) (s : State) : Reply × State :=
  withPress press s fun p =>
    if 1 < kind.toNat then refuse .field s
    else if s.restarting p then refuse .busy s
    else
      let s := s.modRec p (PressRec.setDue (kind == 1))
      (okWith [], if (s.press p).state.isIdle then (s.enterCalibrating p).settle else s)

/-- Whether a press is halted by a failed wake or a failed calibration (R99). -/
def PressState.resumable : PressState → Bool
  | .halted .wakeFail | .halted .calFail => true
  | _ => false

/-- PRESS RESUME (R99). -/
def reqPressResume (press : Byte) (s : State) : Reply × State :=
  withPress press s fun p =>
    if s.restarting p then refuse .busy s
    else if (s.press p).state.resumable then (okWith [], (s.enterIdle p).settle)
    else refuse .state s

/-- PRESS RESTART (R90). -/
def reqPressRestart (press : Byte) (s : State) : Reply × State :=
  withPress press s fun p =>
    if s.restarting p then refuse .busy s else (okWith [], (s.restartLink p).settle)

/-! ## CIRCUIT SET (R103) -/

/-- A window length as stored (R103). -/
def clampWindow (n : Nat) : Nat := if n = 0 then 0 else clamp 10 300 n

/-- The circuit's settings, wake queue and start times (R103). -/
def State.circuitBytes (s : State) (c : CircuitNo) : List Byte :=
  let x := s.settings c
  le 1 x.w ++ le 2 x.tw ++ le 1 x.ts ++ counted ((s.circuit c).queue.map fun p => le 1 p.val)
    ++ counted ((s.circuit c).ring.map fun t => le 4 t.toNat)

/-- CIRCUIT SET (R103): the settings are stored and the grant check made at once. -/
def reqCircuitSet (circuit w : Byte) (tw : BitVec 16) (ts : Byte) (s : State) : Reply × State :=
  match circuitOf circuit with
  | none => refuse .field s
  | some c =>
    let x : CircuitSettings := { w := clamp 1 4 w.toNat, tw := clampWindow tw.toNat, ts := min ts.toNat 60 }
    let s := { s with ret := { s.ret with circuits := s.ret.circuits.set c x } }
    let t := (s.grantCheck c).settle
    (okWith (t.circuitBytes c), t)

end Sys2Proof.Machine
end

