-- ==== Sys2Proof/Machine/SystemRequests.lean ====
section
/-! DEFINITION. The part-wide requests (spec/04 R63, spec/01 R9, spec/09, spec/10 R171, spec/11): SCHEDULE SET, FILTER SET
and READ, ALERT LEVELS, LIST and ACK, STATUS, FLUSH, RESTART and RETAINED CLEAR. -/

namespace Sys2Proof.Machine

/-! ## SCHEDULE SET (R63, R50, R156, R157, R174) -/

/-- An escalation interval as stored (R156). -/
def clampEscalation (n : Nat) : Nat := if n = 0 then 0 else clamp 10 900 n

/-- The schedule settings as stored, each clamped by its owner's range (spec/10 section 10.5). -/
def scheduleOf (m : Mode) (f : ScheduleSpec) : Schedule :=
  { mode := m, ageStep := clamp 1 60 f.ageStep.toNat, starve := clamp 5 600 f.starve.toNat
    escalation := clampEscalation f.escalation.toNat, buzzer := clamp 1 16 f.buzzer.toNat
    threshold := min f.threshold.toNat 7 }

/-- The six settings as stored. -/
def Schedule.bytes (x : Schedule) : List Byte :=
  le 1 x.mode.code ++ le 1 x.ageStep ++ le 2 x.starve ++ le 2 x.escalation ++ le 1 x.buzzer ++ le 1 x.threshold

/-- SCHEDULE SET: the settings apply; escalations due under a new interval are made at once (R156), and the
supply is held against a new selection at once (R174), in this order (log entry 50). -/
def reqScheduleSet (f : ScheduleSpec) (s : State) : Reply × State :=
  match Mode.ofCode f.mode.toNat with
  | none => refuse .field s
  | some m =>
    let s := { s with ret := { s.ret with schedule := scheduleOf m f } }
    (okWith s.ret.schedule.bytes, s.escalateAll.evalSupply.settle)

/-! ## FILTER SET and FILTER READ (R9) -/

/-- The action that an action code and a pool byte name (R9); without REDIRECT the pool byte is not looked at (log entry
52). -/
def actionOf (action pool : Byte) : Option FilterAction :=
  if action = 0 then some .hold
  else if action = 1 then some .flag
  else if action = 2 then (if h : pool.toNat < 4 then some (.redirect ⟨pool.toNat, h⟩) else none)
  else none

/-- The filter entry that FILTER SET's fields name, absent when a code is undefined or a pool is none (R9). -/
def filterOf (f : FilterSpec) : Option Filter :=
  if 1 < f.enabled.toNat then none
  else
    match ColourCond.ofCode f.colour.toNat, actionOf f.action f.pool with
    | some c, some a =>
      some { enabled := f.enabled == 1, account := f.account, mask := f.mask, media := f.media, colour := c
             minSheets := min f.minSheets.toNat Config.maxSheets, action := a }
    | _, _ => none

/-- The code of a filter's action and its pool byte, 0 without REDIRECT (R181; log entry 8). -/
def FilterAction.bytes : FilterAction → List Byte
  | .hold => le 1 0 ++ le 1 0
  | .flag => le 1 1 ++ le 1 0
  | .redirect q => le 1 2 ++ le 1 q.val

/-- A filter entry as stored (R9). -/
def Filter.bytes (f : Filter) : List Byte :=
  yesNo f.enabled ++ le 1 f.account.toNat ++ le 1 f.mask.toNat ++ le 2 f.media.toNat ++ le 1 f.colour.code
    ++ le 4 f.minSheets ++ f.action.bytes

/-- FILTER SET (R9). -/
def reqFilterSet (number : Byte) (f : FilterSpec) (s : State) : Reply × State :=
  if h : number.toNat < 8 then
    match filterOf f with
    | none => refuse .field s
    | some x => (okWith x.bytes, { s with ret := { s.ret with filters := s.ret.filters.set number.toNat x h } })
  else refuse .field s

/-- FILTER READ (R9): it changes nothing. -/
def reqFilterRead (number : Byte) (s : State) : Reply × State :=
  if h : number.toNat < 8 then (okWith (s.ret.filters[number.toNat]).bytes, s) else refuse .field s

/-! ## Alerts (R149, R154, R160) -/

/-- Twelve levels as stored, each at most 15 (R149). -/
def storedLevels (values : List Byte) : Vector Nat 12 :=
  Vector.ofFn fun i => min (values.getD i.val 0).toNat 15

/-- The thirteen levels in the order of ALERT LEVELS, OVERFLOW's 14 last (R149). -/
def Retained.levelBytes (r : Retained) : List Byte := (r.levels.toList.map (le 1)).flatten ++ le 1 14

/-- ALERT LEVELS (R149). -/
def reqAlertLevels (values : List Byte) (s : State) : Reply × State :=
  if values.isEmpty then (okWith s.ret.levelBytes, s)
  else if values.length = 12 then
    let r := { s.ret with levels := storedLevels values }
    (okWith r.levelBytes, { s with ret := r })
  else refuse .length s

/-- ALERT LIST (R160): it changes nothing. -/
def reqAlertList (s : State) : Reply × State :=
  let entry (n : AlertNo) : List Byte :=
    match s.alert n with
    | some a => alertBytes n a .raised false
    | none => []
  (okWith ((allAlerts.map entry).flatten ++ le 1 (ordinaryAlerts.filter fun n => (s.alert n).isSome).length
    ++ le 1 s.panelByte ++ le 2 s.ret.schedule.escalation ++ le 1 s.ret.schedule.buzzer), s)

/-- The number of unacked entries (R154). -/
def State.unackedCount (s : State) : Nat := (allAlerts.filter fun n => (s.alert n).any Alert.unacked).length

/-- Whether a request's kind and source are the ones of an alert (R154), the 0 of source PART too (log entry 49). -/
def Alert.isNamed (a : Alert) (kind sourceType : Byte) (source : BitVec 32) : Bool :=
  a.kind.code == kind.toNat && a.source.bytes == le 1 sourceType.toNat ++ le 4 source.toNat

/-- ALERT ACK (R154): one entry, checked against the kind and source carried, or ALL. A kind or source type code that
is undefined is refused with every entry (R167, R181; log entry 31). ALL takes the entries in ascending number (log
entry 43). -/
def reqAlertAck (entry kind sourceType : Byte) (source : BitVec 32) (s : State) : Reply × State :=
  if 12 < kind.toNat || 2 < sourceType.toNat then refuse .field s
  else if entry = 0xFF then
    (okWith (le 1 s.unackedCount), allAlerts.foldl (fun s n => s.ackAlert n) s)
  else if h : entry.toNat < 32 then
    match s.alert ⟨entry.toNat, h⟩ with
    | none => refuse .field s
    | some a =>
      if a.isNamed kind sourceType source then
        let t := s.ackAlert ⟨entry.toNat, h⟩
        (okWith (optLe 1 ((t.alert ⟨entry.toNat, h⟩).map fun a => a.state.code) ++ le 1 a.unacked.toNat), t)
      else refuse .field s
  else refuse .field s

/-! ## STATUS (R171, R180) -/

/-- The sticky fault set as flags (R181). -/
def Sticky.byte (x : Sticky) : Nat := flagBits [x.spoolCheck, x.pressProtocol]

/-- The empty sticky fault set. -/
def Sticky.empty : Sticky := { spoolCheck := false, pressProtocol := false }

/-- The present figures of the part (R171). -/
def State.figures (s : State) : List Byte :=
  le 2 0x1216 ++ le 1 1 ++ le 4 s.time.toNat ++ le 1 s.rate ++ le 1 (s.cause.code s.lost) ++ le 1 s.low.toNat
    ++ le 1 s.ret.sticky.byte ++ le 2 s.spool.freeBlocks ++ le 2 s.spool.freeDescriptors
    ++ le 1 s.freeEntries ++ le 1 s.intake.length ++ le 1 s.reports.length

/-- STATUS (R171, R180): with the clear flag, the sticky fault set is emptied after it is reported. -/
def reqStatus (clear : Byte) (s : State) : Reply × State :=
  if 1 < clear.toNat then refuse .field s
  else
    (okWith s.figures,
      if clear = 1 then { s with ret := { s.ret with sticky := Sticky.empty } } else s)

/-! ## FLUSH (R178) -/

/-- The number of live jobs. -/
def State.liveCount (s : State) : Nat := (allEntries.filter fun e => (s.job e).isSome).length

/-- Whether a report is a JOB REPORT. -/
def Report.isJob : Report → Bool
  | .job _ => true
  | _ => false

/-- Empty a press's path list for FLUSH, with FLUSH PATH sent if `send` (R62, R100, R81). -/
def State.flushPath (p : PressNo) (send : Bool) (s : State) : State :=
  if (s.press p).path.isEmpty then s
  else
    let s := s.modPress p fun x => { x with txq := x.dropSheetFrames.txq, path := [], send := .idle }
    if send then s.give p .flushPath else s

/-- The press state machine under FLUSH (R100). JAM ends before the press's report is pending, MEDIA_OUT after it (log
entry 51). -/
def State.flushPress (p : PressNo) (s : State) : State :=
  let s := s.modPress p fun x => { x with resumeMark := false }
  match (s.press p).state with
  | .busy _ => s.enterIdle p
  | .jammed => (s.endCondition .jam (.press p)).enterIdle p
  | .calibrating _ _ => s.enterIdle p
  | _ => s

/-- FLUSH (R178): each owner's values; the job-sourced alerts go as the jobs are discarded, before the presses change
(R158). FLUSH PATH is sent only when some job was live (log entry 15). The presses are taken in ascending number (log
entry 51). -/
def State.flush (s : State) : State :=
  let live := s.liveCount
  let s := { s with
    jobs := Vector.replicate 64 none, spool := Spool.fresh, reports := s.reports.filter fun r => !r.isJob
    ret := s.ret.zeroHolds }
  let s := s.removeJobAlerts
  let s := allPresses.foldl (fun s p => s.flushPath p (live != 0)) s
  (allPresses.foldl (fun s p => s.flushPress p) s).wantDemand.settle

/-- FLUSH (R178): the reply carries the number of jobs that were live. -/
def reqFlush (s : State) : Reply × State := (okWith (le 1 s.liveCount), s.flush)

/-! ## RESTART (R177) -/

/-- RESTART (R177): the part starts once this reply has been transmitted. -/
def reqRestart (s : State) : Reply × State := (okWith [], { s with restartPending := true })

/-! ## RETAINED CLEAR (R179) -/

/-- The retained domain after RETAINED CLEAR: every default, with the learned capabilities kept (R179, R102). -/
def Retained.cleared (r : Retained) : Retained :=
  { Retained.default with presses := r.presses.map fun x => { PressRec.default with caps := x.caps } }

/-- The presses of circuits 1 to 3's queues move to the tail of circuit 0's, in circuit order, and the grant check
is made for every circuit (R117). -/
def State.gatherQueues (s : State) : State :=
  let all := s.circuits.toList.flatMap (·.queue)
  let zero : Circuit := { ring := (s.circuit 0).ring, queue := all }
  let s := { s with circuits := (s.circuits.map fun c => { c with queue := [] }).set 0 zero }
  (List.finRange 4).foldl (fun s c => s.grantCheck c) s

/-- What the default settings of a press record do at once: the idle timer and a deferred sleep are measured against
them (R117), and a pool change on an IDLE press is a decision point (R102). -/
def State.clearedPress (p : PressNo) (was : Option PoolNo) (s : State) : State :=
  let s := (s.expireIdle p).trySleep p
  if was = some 0 then s else s.poolChanged p

/-- RETAINED CLEAR (R179), when it is taken. -/
def State.clearRetained (s : State) : State :=
  let was := s.ret.presses.map (·.pool)
  let s := ({ s with ret := s.ret.cleared } : State).gatherQueues
  let s := allPresses.foldl (fun s p => s.clearedPress p was[p]) s
  s.escalateAll.evalSupply.wantDemand.settle

/-- RETAINED CLEAR (R179): refused STATE while any job entry is not FREE. -/
def reqRetainedClear (s : State) : Reply × State :=
  if s.liveCount != 0 then refuse .state s else (okWith [], s.clearRetained)

end Sys2Proof.Machine
end

