-- ==== Sys2Proof/Machine/HostLink.lean ====
section
/-! DEFINITION. The Host Link Unit (spec/10): the receive framer, the intake and the execution of requests, replies, the
transmitter and the report queue. -/

namespace Sys2Proof.Machine

/-! ## Execution (R166, R167) -/

/-- Judge and execute a request: its reply and the state after it (R167). -/
def performRequest (r : Request) (s : State) : Reply × State :=
  match r with
  | .jobOpen a t c n => reqJobOpen a t c n s
  | .jobRuns h d rs => reqJobRuns h d rs s
  | .jobData h k f b => reqJobData h k f b s
  | .jobCommit h => reqJobCommit h s
  | .jobHold h => reqJobHold h s
  | .jobRelease h => reqJobRelease h s
  | .jobCancel h => reqJobCancel h s
  | .jobStatus h => reqJobStatus h s
  | .accountSet a st l => reqAccountSet a st l s
  | .accountAdjust a x => reqAccountAdjust a x s
  | .accountRead a => reqAccountRead a s
  | .priceWrite g f v => reqPriceWrite g f v s
  | .priceCommit => reqPriceCommit s
  | .priceRead r => reqPriceRead r s
  | .pressSet p f => reqPressSet p f s
  | .pressRead p => reqPressRead p s
  | .pressWake p => reqPressWake p s
  | .pressSleep p => reqPressSleep p s
  | .pressCalibrate p k => reqPressCalibrate p k s
  | .pressResume p => reqPressResume p s
  | .pressRestart p => reqPressRestart p s
  | .circuitSet c w tw ts => reqCircuitSet c w tw ts s
  | .scheduleSet f => reqScheduleSet f s
  | .filterSet n f => reqFilterSet n f s
  | .filterRead n => reqFilterRead n s
  | .alertLevels v => reqAlertLevels v s
  | .alertList => reqAlertList s
  | .alertAck e k st src => reqAlertAck e k st src s
  | .meterRead p c => reqMeterRead p c s
  | .status c => reqStatus c s
  | .flush => reqFlush s
  | .restart => reqRestart s
  | .retainedClear => reqRetainedClear s
  | .unknown => refuse .unknown s
  | .badLength => refuse .length s

/-- The kind of the reply to a frame of a kind: the kind plus 80h, or the frame's own kind from 80h on (R166). -/
def replyKind (kind : Byte) : Byte := if kind.toNat < 128 then kind + 0x80 else kind

/-- The reply message to a request of a tag and kind: the tag copied, the body the reply (R166). -/
def replyTo (tag kind : Byte) (r : Reply) : HostMsg := { kind := replyKind kind, tag := tag, body := r.bytes }

/-- Execute a request to its end and place its reply in the reply slot (R166). -/
def State.execute (q : Queued) (s : State) : State :=
  { (performRequest q.req s).2 with slot := some (replyTo q.tag q.kind (performRequest q.req s).1) }

/-- A received request: it begins at once when the intake and the slot are empty, joins the intake's tail while
fewer than 8 wait there, and is discarded otherwise (R165, R166). -/
def State.arrive (q : Queued) (s : State) : State :=
  if s.slot.isNone && s.intake.isEmpty then s.execute q
  else if s.intake.length < Config.intakeMax then { s with intake := s.intake ++ [q] }
  else s

/-- The request at the head of the intake begins when the slot is empty (R166). -/
def State.serve (s : State) : State :=
  match s.intake with
  | q :: rest => if s.slot.isNone then ({ s with intake := rest } : State).execute q else s
  | [] => s

/-! ## The receive framer (R163, R164) -/

/-- The framer takes one byte: a start byte begins a frame; a length over 1,100 discards it; a frame whose bytes
have all arrived is received if its check matches, and the framer hunts again (R163, R165). -/
def State.feedByte (b : Byte) (s : State) : State :=
  if s.framer.atSpace then s
  else
    match s.framer.bytes with
    | none => if b = 0xC3 then { s with framer := { s.framer with bytes := some [] } } else s
    | some bs =>
      let f := bs ++ [b]
      let hunting : State := { s with framer := { s.framer with bytes := none } }
      let len := fieldAt f 0 2
      if f.length = 2 && Config.maxHostBody < len then hunting
      else if f.length = 6 + len && 2 ≤ f.length then
        if fieldAt f (4 + len) 2 = (crc16 (f.take (4 + len))).toNat then
          hunting.arrive { tag := byteAt f 3, kind := byteAt f 2
                           req := requestOf (byteAt f 2) ((f.drop 4).take len) }
        else hunting
      else { s with framer := { s.framer with bytes := some f } }

/-- The framer takes bytes in their order. -/
def State.takeBytes (bytes : List Byte) (s : State) : State := bytes.foldl (fun s b => s.feedByte b) s

/-- Discard a frame in progress (R163). -/
def State.dropFrame (s : State) : State := { s with framer := { s.framer with bytes := none } }

/-- The bytes of a message on the host line (R162). -/
def HostMsg.frame (m : HostMsg) : List Byte :=
  let covered := le 2 m.body.length ++ [m.kind, m.tag] ++ m.body
  0xC3#8 :: covered ++ le 2 (crc16 covered).toNat

/-! ## Reports (R169 to R172) -/

/-- The body of a JOB REPORT after its part time (spec/12.5). -/
def State.jobReport (s : State) (e : Entry) : List Byte :=
  match s.job e with
  | none => le 1 e.val ++ List.replicate 33 0#8
  | some j =>
    le 1 e.val ++ le 4 j.serial.toNat ++ le 1 j.state.code ++ optLe 1 (j.state.outcome?.map (·.code))
      ++ le 1 (flagBits [j.state.outcome?.isSome, j.commit.isSome]) ++ le 2 j.received ++ le 4 j.delivered
      ++ le 4 j.reprinted
      ++ (match j.commit with
          | some c => le 6 c.charged ++ le 6 c.estimate ++ j.cursorBytes c.cursor
          | none => List.replicate 15 0#8)

/-- The body of an ALERT REPORT after its part time (spec/12.5, R159). -/
def State.alertReport (s : State) (n : AlertNo) (act : AlertAction) (replaced : Bool) : List Byte :=
  (match s.alert n with
    | some a => alertBytes n a act replaced
    | none => le 1 n.val ++ le 1 act.code ++ le 1 (flagBits [replaced, false]) ++ List.replicate 21 0#8)
    ++ le 1 s.panelByte

/-- The kind of a report (spec/12.2). -/
def Report.kind : Report → Byte
  | .job _ => 0x60
  | .alert _ _ _ => 0x61
  | .press _ => 0x62
  | .start => 0x63

/-- The contents of a report after its part time (R172, spec/12.5). -/
def State.reportContents (s : State) : Report → List Byte
  | .job e => s.jobReport e
  | .alert n act replaced => s.alertReport n act replaced
  | .press p => s.pressContents p
  | .start => le 1 (s.cause.code s.lost) ++ yesNo (!s.lost) ++ le 1 s.rate

/-- The message of a report, formed from the state of its subject: tag 0, the part time, the contents (R169,
R172). -/
def State.reportMsg (s : State) (r : Report) : HostMsg :=
  { kind := r.kind, tag := 0, body := le 4 s.time.toNat ++ s.reportContents r }

/-- The entry and serial that the end of a report frees: those of a FINISHED job's report (R21, R22). -/
def State.finalOf (s : State) : Report → Option (Entry × Serial)
  | .job e => (s.job e).bind fun j => if j.state.outcome?.isSome then some (e, j.serial) else none
  | _ => none

/-- REPORT_TRANSMISSION_BEGIN (R169, R170): a free transmitter with an empty slot takes the report at the head of
the queue, which is then no longer pending. -/
def State.beginReport (s : State) : State :=
  match s.slot, s.txReport, s.reports with
  | none, none, r :: rest =>
    { s with reports := rest, txReport := some { msg := s.reportMsg r, final := s.finalOf r } }
  | _, _, _ => s

/-- The entry of a final JOB REPORT becomes FREE, and the job's conditions that still stand end (R22, R158). An
entry that FLUSH has freed meanwhile is left as it is (R170). -/
def State.freeEntry (e : Entry) (n : Serial) (s : State) : State :=
  match s.job e with
  | some j =>
    if j.serial = n && j.state.outcome?.isSome then
      (((s.setJob e none).endCondition .jobStarved (.job n)).endCondition .creditWait (.job n)).wantDemand.settle
    else s
  | none => s

/-- REPORT_TRANSMITTED (R22, R170): the report on the line ends. -/
def State.endReport (s : State) : State :=
  match s.txReport with
  | some t =>
    let s := { s with txReport := none }
    match t.final with
    | some (e, n) => s.freeEntry e n
    | none => s
  | none => s

/-- REPLY_TRANSMITTED (R166, R177): the reply on the line ends and the slot empties; after RESTART's reply the part
starts, else the next request begins. -/
def State.endReply (s : State) : State :=
  match s.slot, s.txReport with
  | some _, none =>
    if s.restartPending then s.dropWorking (.starting .restart)
    else ({ s with slot := none } : State).serve
  | _, _ => s

/-! ## The commands of the host line -/

/-- HOST_FRAME_RECEIVED (R163, R165): the bytes of a frame arrive; a frame with a matching check is received. -/
def execHostFrameReceived (bytes : List Byte) (s : State) : Host.Outcome State Fault Refusal :=
  whenRunning (State.takeBytes bytes) s

/-- HOST_FRAME_DISCARDED (R163): the bytes of a frame arrive; an excess length or a bad check discards it, and so
does a framing error, at the byte it comes with, if `framingError`. -/
def execHostFrameDiscarded (bytes : List Byte) (framingError : Bool) (s : State) : Host.Outcome State Fault Refusal :=
  whenRunning (fun s => if framingError then (s.takeBytes bytes).dropFrame else s.takeBytes bytes) s

/-- INTER_BYTE_GAP_TIMEOUT (R163): a frame in progress is discarded, and hunting resumes with the late byte, if the
line gives one. -/
def execInterByteGapTimeout (late : Option Byte) (s : State) : Host.Outcome State Fault Refusal :=
  whenRunning (fun s => s.dropFrame.takeBytes late.toList) s

/-- LINE_BREAK (R164): a frame in progress is discarded, and no byte is taken until the line returns to mark. -/
def execLineBreak (s : State) : Host.Outcome State Fault Refusal :=
  whenRunning (fun s => { s with framer := { bytes := none, atSpace := true } }) s

/-- LINE_RETURN_TO_MARK (R164): the framer takes bytes again. -/
def execLineReturnToMark (s : State) : Host.Outcome State Fault Refusal :=
  whenRunning (fun s => { s with framer := { s.framer with atSpace := false } }) s

/-- REPLY_TRANSMITTED (R166). -/
def execReplyTransmitted (s : State) : Host.Outcome State Fault Refusal := whenRunning State.endReply s

/-- REPORT_TRANSMISSION_BEGIN (R169). -/
def execReportTransmissionBegin (s : State) : Host.Outcome State Fault Refusal := whenRunning State.beginReport s

/-- REPORT_TRANSMITTED (R22). -/
def execReportTransmitted (s : State) : Host.Outcome State Fault Refusal := whenRunning State.endReport s

/-! ## The commands that are requests -/

/-- A request arrives, received by the framer as one whole frame (log entry 4). -/
def hostRequest (tag kind : Byte) (r : Request) (s : State) : Host.Outcome State Fault Refusal :=
  whenRunning (State.arrive { tag := tag, kind := kind, req := r }) s

/-- JOB OPEN (R3). -/
def execJobOpen (tag account target cls copies : Byte) (s : State) : Host.Outcome State Fault Refusal :=
  hostRequest tag 0x01 (.jobOpen account target cls copies) s

/-- JOB RUNS (R5). -/
def execJobRuns (tag : Byte) (h : Handle) (declared : BitVec 16) (runs : List RunSpec) (s : State) :
    Host.Outcome State Fault Refusal :=
  hostRequest tag 0x02 (.jobRuns h declared runs) s

/-- JOB DATA (R28). -/
def execJobData (tag : Byte) (h : Handle) (page : BitVec 16) (flags : Byte) (data : List Byte) (s : State) :
    Host.Outcome State Fault Refusal :=
  hostRequest tag 0x03 (.jobData h page flags data) s

/-- JOB COMMIT (R7, R8). -/
def execJobCommit (tag : Byte) (h : Handle) (s : State) : Host.Outcome State Fault Refusal :=
  hostRequest tag 0x04 (.jobCommit h) s

/-- JOB HOLD (R13). -/
def execJobHold (tag : Byte) (h : Handle) (s : State) : Host.Outcome State Fault Refusal :=
  hostRequest tag 0x05 (.jobHold h) s

/-- JOB RELEASE (R14). -/
def execJobRelease (tag : Byte) (h : Handle) (s : State) : Host.Outcome State Fault Refusal :=
  hostRequest tag 0x06 (.jobRelease h) s

/-- JOB CANCEL (R20). -/
def execJobCancel (tag : Byte) (h : Handle) (s : State) : Host.Outcome State Fault Refusal :=
  hostRequest tag 0x07 (.jobCancel h) s

/-- JOB STATUS (R23). -/
def execJobStatus (tag : Byte) (h : Handle) (s : State) : Host.Outcome State Fault Refusal :=
  hostRequest tag 0x08 (.jobStatus h) s

/-- ACCOUNT SET (R142). -/
def execAccountSet (tag : Byte) (account : Nat) (state : Byte) (limit : BitVec 32) (s : State) :
    Host.Outcome State Fault Refusal :=
  hostRequest tag 0x10 (.accountSet account state limit) s

/-- ACCOUNT ADJUST (R143). -/
def execAccountAdjust (tag : Byte) (account : Nat) (amount : BitVec 32) (s : State) :
    Host.Outcome State Fault Refusal :=
  hostRequest tag 0x11 (.accountAdjust account amount) s

/-- ACCOUNT READ (R144). -/
def execAccountRead (tag : Byte) (account : Nat) (s : State) : Host.Outcome State Fault Refusal :=
  hostRequest tag 0x12 (.accountRead account) s

/-- PRICE WRITE (R121). -/
def execPriceWrite (tag group first : Byte) (values : List Nat) (s : State) : Host.Outcome State Fault Refusal :=
  hostRequest tag 0x18 (.priceWrite group first values) s

/-- PRICE COMMIT (R123). -/
def execPriceCommit (tag : Byte) (s : State) : Host.Outcome State Fault Refusal :=
  hostRequest tag 0x19 (.priceCommit) s

/-- PRICE READ (R124). -/
def execPriceRead (tag role : Byte) (s : State) : Host.Outcome State Fault Refusal :=
  hostRequest tag 0x1A (.priceRead role) s

/-- PRESS SET (R64, R79). -/
def execPressSet (tag press : Byte) (f : PressSpec) (s : State) : Host.Outcome State Fault Refusal :=
  hostRequest tag 0x20 (.pressSet press f) s

/-- PRESS READ (R101). -/
def execPressRead (tag press : Byte) (s : State) : Host.Outcome State Fault Refusal :=
  hostRequest tag 0x21 (.pressRead press) s

/-- PRESS WAKE (R108). -/
def execPressWake (tag press : Byte) (s : State) : Host.Outcome State Fault Refusal :=
  hostRequest tag 0x22 (.pressWake press) s

/-- PRESS SLEEP (R108). -/
def execPressSleep (tag press : Byte) (s : State) : Host.Outcome State Fault Refusal :=
  hostRequest tag 0x23 (.pressSleep press) s

/-- PRESS CALIBRATE (R113). -/
def execPressCalibrate (tag press kind : Byte) (s : State) : Host.Outcome State Fault Refusal :=
  hostRequest tag 0x24 (.pressCalibrate press kind) s

/-- PRESS RESUME (R99). -/
def execPressResume (tag press : Byte) (s : State) : Host.Outcome State Fault Refusal :=
  hostRequest tag 0x25 (.pressResume press) s

/-- PRESS RESTART (R90). -/
def execPressRestart (tag press : Byte) (s : State) : Host.Outcome State Fault Refusal :=
  hostRequest tag 0x26 (.pressRestart press) s

/-- CIRCUIT SET (R103). -/
def execCircuitSet (tag circuit w : Byte) (tw : BitVec 16) (ts : Byte) (s : State) :
    Host.Outcome State Fault Refusal :=
  hostRequest tag 0x28 (.circuitSet circuit w tw ts) s

/-- SCHEDULE SET (R63). -/
def execScheduleSet (tag : Byte) (f : ScheduleSpec) (s : State) : Host.Outcome State Fault Refusal :=
  hostRequest tag 0x29 (.scheduleSet f) s

/-- FILTER SET (R9). -/
def execFilterSet (tag number : Byte) (f : FilterSpec) (s : State) : Host.Outcome State Fault Refusal :=
  hostRequest tag 0x2A (.filterSet number f) s

/-- FILTER READ (R9). -/
def execFilterRead (tag number : Byte) (s : State) : Host.Outcome State Fault Refusal :=
  hostRequest tag 0x2B (.filterRead number) s

/-- ALERT LEVELS (R149). -/
def execAlertLevels (tag : Byte) (values : List Byte) (s : State) : Host.Outcome State Fault Refusal :=
  hostRequest tag 0x30 (.alertLevels values) s

/-- ALERT LIST (R160). -/
def execAlertList (tag : Byte) (s : State) : Host.Outcome State Fault Refusal :=
  hostRequest tag 0x31 (.alertList) s

/-- ALERT ACK (R154). -/
def execAlertAck (tag entry kind sourceType : Byte) (source : BitVec 32) (s : State) :
    Host.Outcome State Fault Refusal :=
  hostRequest tag 0x32 (.alertAck entry kind sourceType source) s

/-- METER READ (R146). -/
def execMeterRead (tag press clear : Byte) (s : State) : Host.Outcome State Fault Refusal :=
  hostRequest tag 0x38 (.meterRead press clear) s

/-- STATUS (R171). -/
def execStatus (tag clear : Byte) (s : State) : Host.Outcome State Fault Refusal :=
  hostRequest tag 0x40 (.status clear) s

/-- FLUSH (R178). -/
def execFlush (tag : Byte) (s : State) : Host.Outcome State Fault Refusal :=
  hostRequest tag 0x41 (.flush) s

/-- RESTART (R177). -/
def execRestart (tag : Byte) (s : State) : Host.Outcome State Fault Refusal :=
  hostRequest tag 0x42 (.restart) s

/-- RETAINED CLEAR (R179). -/
def execRetainedClear (tag : Byte) (s : State) : Host.Outcome State Fault Refusal :=
  hostRequest tag 0x43 (.retainedClear) s

/-- UNKNOWN_REQUEST (R166): a frame of any kind arrives with its body; a kind that is not a request kind is answered
UNKNOWN. -/
def execUnknownRequest (tag kind : Byte) (body : List Byte) (s : State) : Host.Outcome State Fault Refusal :=
  hostRequest tag kind (requestOf kind body) s

end Sys2Proof.Machine
end

