-- ==== Sys2Proof/Machine/Timers.lean ====
section
/-! DEFINITION. The part's timers (spec/00 section 6.5): which are due, what each expiry does, the tick of 1 ms, and the
commands of the timers and of the panel button. -/

namespace Sys2Proof.Machine

/-! ## What is due -/

/-- The heartbeat timer of a linked press has reached 5 s (R88). -/
def State.heartbeatDue (s : State) (p : PressNo) : Bool :=
  (s.press p).state != .down && Config.heartbeatMs ≤ (s.press p).heartbeat

/-- The restart signal has been held for 10 ms (R90). -/
def State.signalDue (s : State) (p : PressNo) : Bool :=
  (s.press p).restart.any fun r => r.signal && Config.signalMs ≤ r.elapsed

/-- The restart window has reached 10 s (R90). -/
def State.windowDue (s : State) (p : PressNo) : Bool :=
  (s.press p).restart.any fun r => Config.windowMs ≤ r.elapsed

/-- The wake timer has reached 180 s (R92). -/
def State.wakeDue (s : State) (p : PressNo) : Bool :=
  match (s.press p).state with
  | .waking t => Config.wakeMs ≤ t
  | _ => false

/-- The calibration timer has reached 300 s (R98). -/
def State.calibrationDue (s : State) (p : PressNo) : Bool :=
  match (s.press p).state with
  | .calibrating _ t => Config.calibrationMs ≤ t
  | _ => false

/-- The starve timer of a PRINTING job has reached its time-out (R17, R50): the press it is bound to. -/
def State.starveDue (s : State) (e : Entry) : Option PressNo :=
  (s.job e).bind fun j =>
    match j.state, j.starve with
    | .printing p, some t => if t.limit ≤ t.elapsed then some p else none
    | _, _ => none

/-- A deferred sleep whose sleep point is reached (R110). -/
def State.sleepDue (s : State) (p : PressNo) : Bool :=
  match (s.press p).state with
  | .idle true _ => s.sleepPointPassed p
  | _ => false

/-- A circuit whose queue is not empty and whose next grant time is reached: both tests pass (R104, R106). -/
def State.grantDue (s : State) (c : CircuitNo) : Bool :=
  !(s.circuit c).queue.isEmpty && s.windowPasses c && s.spacingPasses c

/-! ## The expiries -/

/-- The end of the restart signal (R90). -/
def State.endSignal (p : PressNo) (s : State) : State :=
  if s.signalDue p then
    s.modPress p fun x => { x with restart := x.restart.map fun r => { r with signal := false } }
  else s

/-- The end of the restart window without HELLO (R90): the restart ends with the press DOWN, and LINK_DOWN is
raised, at the start of the part only for a press that holds learned capabilities. -/
def State.endWindow (p : PressNo) (s : State) : State :=
  if s.windowDue p then
    let fromStart := (s.press p).restart.any (·.atStart)
    let s := ((s.modPress p fun x => { x with restart := none }).mark (.press p)).wantDemand
    (if fromStart && (s.pressRec p).caps.isNone then s else s.raise .linkDown (.press p) none).settle
  else s

/-- The wake time-out (R92): HALTED with cause WAKE_FAIL, and WAKE_FAIL is raised. -/
def State.failWake (p : PressNo) (s : State) : State :=
  if s.wakeDue p then ((s.enter p (.halted .wakeFail)).raise .wakeFail (.press p) none).settle else s

/-- The calibration time-out (R98). -/
def State.failCalibration (p : PressNo) (s : State) : State :=
  if s.calibrationDue p then (s.failRun p).settle else s

/-- The starve expiry (R17, R50): the job drains with drain target STARVED. -/
def State.starveOut (e : Entry) (s : State) : State :=
  match s.starveDue e with
  | some p => (s.startDrain p e .starved).settle
  | none => s

/-! ## The tick (log entry 2) -/

/-- A press after 1 ms: its running timers have counted (R88, R90, R92, R98, R109); the calibration timer is held
while the supply is LOW. -/
def Press.tick (low : Bool) (x : Press) : Press :=
  { x with
    heartbeat := if x.state = .down then x.heartbeat else x.heartbeat + 1
    restart := x.restart.map fun r => { r with elapsed := r.elapsed + 1 }
    state :=
      match x.state with
      | .waking t => .waking (t + 1)
      | .idle false t => .idle false (t + 1)
      | .calibrating run t => .calibrating run (if low then t else t + 1)
      | st => st }

/-- A job after 1 ms: a running starve timer has counted (R50). -/
def Job.tick (j : Job) : Job := { j with starve := j.starve.map fun t => { t with elapsed := t.elapsed + 1 } }

/-- The commands of the timers that are due, in a fixed order (log entry 2). -/
def State.dueEvents (s : State) : List Instr :=
  (allPresses.filter s.heartbeatDue).map .heartbeatExpiry
    ++ (allPresses.filter s.signalDue).map .restartSignalEnd
    ++ (allPresses.filter s.windowDue).map .restartWindowExpiry
    ++ (allPresses.filter s.wakeDue).map .wakeTimeout
    ++ (allPresses.filter s.calibrationDue).map .calibrationTimeout
    ++ (allEntries.filter fun e => (s.starveDue e).isSome).map .starveExpiry
    ++ (allPresses.filter s.idleExpired).map .idleTimerExpiry
    ++ (allPresses.filter s.sleepDue).map .sleepPointReached
    ++ ((List.finRange 4).filter s.grantDue).map .nextGrantTime
    ++ (allAlerts.filter s.escalationDue).map .escalation

/-- The timers after 1 ms of running (spec/00 section 6.5): part time counts whole seconds. -/
def State.count (s : State) : State :=
  { s with
    ms := if s.ms + 1 < 1000 then s.ms + 1 else 0
    time := if s.ms + 1 < 1000 then s.time else s.time + 1
    presses := s.presses.map (Press.tick s.low)
    jobs := s.jobs.map fun j => j.map Job.tick }

/-- A step with no command waiting is a tick of 1 ms: the timers count, and the commands of those now due join the
queue. A part that does not run does nothing (log entries 1, 2). -/
def State.tick (s : State) : State :=
  if s.phase = .running then { s.count with pending := s.pending ++ s.count.dueEvents } else s

/-! ## The commands of the timers -/

/-- HEARTBEAT_EXPIRY (R88, R89). -/
def execHeartbeatExpiry (p : PressNo) (s : State) : Host.Outcome State Fault Refusal :=
  whenRunning (fun s => if s.heartbeatDue p then (s.linkDown p true).settle else s) s

/-- RESTART_SIGNAL_END (R90). -/
def execRestartSignalEnd (p : PressNo) (s : State) : Host.Outcome State Fault Refusal :=
  whenRunning (State.endSignal p) s

/-- RESTART_WINDOW_EXPIRY (R90). -/
def execRestartWindowExpiry (p : PressNo) (s : State) : Host.Outcome State Fault Refusal :=
  whenRunning (State.endWindow p) s

/-- WAKE_TIMEOUT (R92). -/
def execWakeTimeout (p : PressNo) (s : State) : Host.Outcome State Fault Refusal :=
  whenRunning (State.failWake p) s

/-- CALIBRATION_TIMEOUT (R98). -/
def execCalibrationTimeout (p : PressNo) (s : State) : Host.Outcome State Fault Refusal :=
  whenRunning (State.failCalibration p) s

/-- STARVE_EXPIRY (R17). -/
def execStarveExpiry (e : Entry) (s : State) : Host.Outcome State Fault Refusal :=
  whenRunning (State.starveOut e) s

/-- IDLE_TIMER_EXPIRY (R109). -/
def execIdleTimerExpiry (p : PressNo) (s : State) : Host.Outcome State Fault Refusal :=
  whenRunning (fun s => (s.expireIdle p).settle) s

/-- SLEEP_POINT_REACHED (R110). -/
def execSleepPointReached (p : PressNo) (s : State) : Host.Outcome State Fault Refusal :=
  whenRunning (fun s => (s.trySleep p).settle) s

/-- NEXT_GRANT_TIME (R106). -/
def execNextGrantTime (c : CircuitNo) (s : State) : Host.Outcome State Fault Refusal :=
  whenRunning (fun s => (s.grantCheck c).settle) s

/-- ESCALATION (R156). -/
def execEscalation (n : AlertNo) (s : State) : Host.Outcome State Fault Refusal :=
  whenRunning (fun s => s.escalate n) s

/-! ## The panel button (R155) -/

/-- ACK_BUTTON_PRESS (R155). -/
def execAckButtonPress (s : State) : Host.Outcome State Fault Refusal := whenRunning State.buttonPress s

/-- ACK_BUTTON_RELEASE (R155): a new press can give another acknowledgement. -/
def execAckButtonRelease (s : State) : Host.Outcome State Fault Refusal := .next { s with buttonArmed := true }

end Sys2Proof.Machine
end

