-- ==== Sys2Proof/Machine/Dispatch.lean ====
section
/-! DEFINITION. The meaning of each command: one direct call for each row of spec/opcode_table.json. -/

namespace Sys2Proof.Machine

/-- The effect of a command on everything but the queue. -/
def exec (i : Instr) (s : State) : Host.Outcome State Fault Refusal :=
  match i with
  | .jobOpen tag account target cls copies => Sys2Proof.Machine.execJobOpen tag account target cls copies s
  | .jobRuns tag h declared runs => Sys2Proof.Machine.execJobRuns tag h declared runs s
  | .jobData tag h page flags data => Sys2Proof.Machine.execJobData tag h page flags data s
  | .jobCommit tag h => Sys2Proof.Machine.execJobCommit tag h s
  | .jobHold tag h => Sys2Proof.Machine.execJobHold tag h s
  | .jobRelease tag h => Sys2Proof.Machine.execJobRelease tag h s
  | .jobCancel tag h => Sys2Proof.Machine.execJobCancel tag h s
  | .jobStatus tag h => Sys2Proof.Machine.execJobStatus tag h s
  | .accountSet tag account state limit => Sys2Proof.Machine.execAccountSet tag account state limit s
  | .accountAdjust tag account amount => Sys2Proof.Machine.execAccountAdjust tag account amount s
  | .accountRead tag account => Sys2Proof.Machine.execAccountRead tag account s
  | .priceWrite tag group first values => Sys2Proof.Machine.execPriceWrite tag group first values s
  | .priceCommit tag => Sys2Proof.Machine.execPriceCommit tag s
  | .priceRead tag role => Sys2Proof.Machine.execPriceRead tag role s
  | .pressSet tag press f => Sys2Proof.Machine.execPressSet tag press f s
  | .pressRead tag press => Sys2Proof.Machine.execPressRead tag press s
  | .pressWake tag press => Sys2Proof.Machine.execPressWake tag press s
  | .pressSleep tag press => Sys2Proof.Machine.execPressSleep tag press s
  | .pressCalibrate tag press kind => Sys2Proof.Machine.execPressCalibrate tag press kind s
  | .pressResume tag press => Sys2Proof.Machine.execPressResume tag press s
  | .pressRestart tag press => Sys2Proof.Machine.execPressRestart tag press s
  | .circuitSet tag circuit w tw ts => Sys2Proof.Machine.execCircuitSet tag circuit w tw ts s
  | .scheduleSet tag f => Sys2Proof.Machine.execScheduleSet tag f s
  | .filterSet tag number f => Sys2Proof.Machine.execFilterSet tag number f s
  | .filterRead tag number => Sys2Proof.Machine.execFilterRead tag number s
  | .alertLevels tag values => Sys2Proof.Machine.execAlertLevels tag values s
  | .alertList tag => Sys2Proof.Machine.execAlertList tag s
  | .alertAck tag entry kind sourceType source => Sys2Proof.Machine.execAlertAck tag entry kind sourceType source s
  | .meterRead tag press clear => Sys2Proof.Machine.execMeterRead tag press clear s
  | .status tag clear => Sys2Proof.Machine.execStatus tag clear s
  | .flush tag => Sys2Proof.Machine.execFlush tag s
  | .restart tag => Sys2Proof.Machine.execRestart tag s
  | .retainedClear tag => Sys2Proof.Machine.execRetainedClear tag s
  | .unknownRequest tag kind body => Sys2Proof.Machine.execUnknownRequest tag kind body s
  | .hostFrameReceived bytes => Sys2Proof.Machine.execHostFrameReceived bytes s
  | .hostFrameDiscarded bytes framingError => Sys2Proof.Machine.execHostFrameDiscarded bytes framingError s
  | .interByteGapTimeout late => Sys2Proof.Machine.execInterByteGapTimeout late s
  | .lineBreak => Sys2Proof.Machine.execLineBreak s
  | .replyTransmitted => Sys2Proof.Machine.execReplyTransmitted s
  | .reportTransmissionBegin => Sys2Proof.Machine.execReportTransmissionBegin s
  | .reportTransmitted => Sys2Proof.Machine.execReportTransmitted s
  | .hello p duplex colour depth trays asleep => Sys2Proof.Machine.execHello p duplex colour depth trays asleep s
  | .beat p coverOpen => Sys2Proof.Machine.execBeat p coverOpen s
  | .credit p n => Sys2Proof.Machine.execCredit p n s
  | .picked p seq => Sys2Proof.Machine.execPicked p seq s
  | .delivered p seq => Sys2Proof.Machine.execDelivered p seq s
  | .jam p location => Sys2Proof.Machine.execJam p location s
  | .clear p => Sys2Proof.Machine.execClear p s
  | .tray p index media loaded => Sys2Proof.Machine.execTray p index media loaded s
  | .cover p coverOpen => Sys2Proof.Machine.execCover p coverOpen s
  | .ready p => Sys2Proof.Machine.execReady p s
  | .asleep p => Sys2Proof.Machine.execAsleep p s
  | .caldone p pass => Sys2Proof.Machine.execCaldone p pass s
  | .pressFrameDiscarded p bytes framingError => Sys2Proof.Machine.execPressFrameDiscarded p bytes framingError s
  | .unactedPressFrame p kind body => Sys2Proof.Machine.execUnactedPressFrame p kind body s
  | .pressFrameTransmitted p => Sys2Proof.Machine.execPressFrameTransmitted p s
  | .heartbeatExpiry p => Sys2Proof.Machine.execHeartbeatExpiry p s
  | .restartSignalEnd p => Sys2Proof.Machine.execRestartSignalEnd p s
  | .restartWindowExpiry p => Sys2Proof.Machine.execRestartWindowExpiry p s
  | .wakeTimeout p => Sys2Proof.Machine.execWakeTimeout p s
  | .calibrationTimeout p => Sys2Proof.Machine.execCalibrationTimeout p s
  | .starveExpiry e => Sys2Proof.Machine.execStarveExpiry e s
  | .idleTimerExpiry p => Sys2Proof.Machine.execIdleTimerExpiry p s
  | .sleepPointReached p => Sys2Proof.Machine.execSleepPointReached p s
  | .nextGrantTime c => Sys2Proof.Machine.execNextGrantTime c s
  | .escalation n => Sys2Proof.Machine.execEscalation n s
  | .ackButtonPress => Sys2Proof.Machine.execAckButtonPress s
  | .supplyFall millivolts => Sys2Proof.Machine.execSupplyFall millivolts s
  | .supplyRise millivolts => Sys2Proof.Machine.execSupplyRise millivolts s
  | .mainSupplyLoss => Sys2Proof.Machine.execMainSupplyLoss s
  | .supplyStart => Sys2Proof.Machine.execSupplyStart s
  | .resetInputAssert => Sys2Proof.Machine.execResetInputAssert s
  | .resetInputRelease => Sys2Proof.Machine.execResetInputRelease s
  | .startOfPart strap1 strap0 millivolts => Sys2Proof.Machine.execStartOfPart strap1 strap0 millivolts s
  | .backupCellLoss => Sys2Proof.Machine.execBackupCellLoss s
  | .lineReturnToMark => Sys2Proof.Machine.execLineReturnToMark s
  | .ackButtonRelease => Sys2Proof.Machine.execAckButtonRelease s

end Sys2Proof.Machine
end

