-- ==== Sys2Proof/WellFormed.lean ====
section
/-! DEFINITION. Well-formed commands: those whose operands a message of spec/12 can carry. Whether the values are in the
ranges of their rules is judged by the part itself when the command is taken (R82, R167). -/

namespace Sys2Proof

/-- Whether values fit a group of PRICE WRITE: the counts are one byte, each value its width (R121, R181). Only
BASE and COLOUR carry a first index; the others have 0 for it. -/
def pricesFit (group : Byte) (values : List Nat) : Bool :=
  if group = 0 then values.length ≤ 255 && 3 + 6 * values.length ≤ 1100 && values.all (· < 2 ^ 48)
  else if group = 1 || group = 2 then values.length ≤ 255 && values.all (· < 2 ^ 16)
  else if group = 3 then
    values.length = 5 && (values.take 2).all (· < 2 ^ 32) && (values.drop 2).all (· < 2 ^ 16)
  else values.isEmpty

/-- Whether a HELLO's fields fit its frame (spec/12.6). -/
def helloFits (depth : Nat) (trays : List Tray) : Bool :=
  depth < 256 && 5 + 2 * trays.length ≤ 300 && trays.all fun t => t.media < 256

/-- Whether a command's operands fit the message or the event that carries them. -/
def Instr.wf : Instr → Bool
  | .jobRuns _ _ _ runs => 7 + 5 * runs.length ≤ 1100
  | .jobData _ _ _ _ data => 8 + data.length ≤ 1100
  | .accountSet _ account _ _ => account < 256
  | .accountAdjust _ account _ => account < 256
  | .accountRead _ account => account < 256
  | .priceWrite _ group first values => pricesFit group values && (group.toNat < 2 || first = 0)
  | .alertLevels _ values => values.length ≤ 255
  | .unknownRequest _ _ body => body.length ≤ 1100
  | .hostFrameReceived bytes => bytes.length ≤ 1107
  | .hostFrameDiscarded bytes _ => bytes.length ≤ 1107
  | .hello _ _ _ depth trays _ => helloFits depth trays
  | .pressFrameDiscarded _ bytes _ => bytes.length ≤ 306
  | .unactedPressFrame _ _ body => body.length ≤ 300
  | .jobOpen _ _ _ _ _ | .jobCommit _ _ | .jobHold _ _ | .jobRelease _ _ | .jobCancel _ _ | .jobStatus _ _ => true
  | .priceCommit _ | .priceRead _ _ | .pressSet _ _ _ | .pressRead _ _ | .pressWake _ _ | .pressSleep _ _ => true
  | .pressCalibrate _ _ _ | .pressResume _ _ | .pressRestart _ _ | .circuitSet _ _ _ _ _ => true
  | .scheduleSet _ _ | .filterSet _ _ _ | .filterRead _ _ | .alertList _ | .alertAck _ _ _ _ _ => true
  | .meterRead _ _ _ | .status _ _ | .flush _ | .restart _ | .retainedClear _ => true
  | .interByteGapTimeout _ | .lineBreak | .lineReturnToMark => true
  | .replyTransmitted | .reportTransmissionBegin | .reportTransmitted => true
  | .beat _ _ | .credit _ _ | .picked _ _ | .delivered _ _ | .jam _ _ | .clear _ | .tray _ _ _ _ => true
  | .cover _ _ | .ready _ | .asleep _ | .caldone _ _ | .pressFrameTransmitted _ => true
  | .heartbeatExpiry _ | .restartSignalEnd _ | .restartWindowExpiry _ | .wakeTimeout _ => true
  | .calibrationTimeout _ | .starveExpiry _ | .idleTimerExpiry _ | .sleepPointReached _ => true
  | .nextGrantTime _ | .escalation _ | .ackButtonPress | .ackButtonRelease => true
  | .supplyFall _ | .supplyRise _ | .mainSupplyLoss | .supplyStart | .resetInputAssert => true
  | .resetInputRelease | .startOfPart _ _ _ | .backupCellLoss => true

end Sys2Proof
end

