-- ==== Sys2Proof/Safety.lean ====
section
/-! DEFINITION. The terms in which claims are stated: when the host link is free, when a step leaves nothing more to
settle, the part of the state that presses and dispatch do not touch, and the invariants of the part. -/

namespace Sys2Proof.Machine

/-! ## Conditions under which a command's own effect is its whole effect -/

/-- Nothing is left to settle: true between steps (log entry 5). -/
def Quiet (s : State) : Prop := s.agenda = [] ∧ s.demand = false

/-- The part runs, nothing is left to settle, and a request that arrives begins at once (R166). -/
structure HostFree (s : State) : Prop where
  running : s.phase = .running
  slot : s.slot = none
  intake : s.intake = []
  quiet : Quiet s

/-- No press can be bound, woken, withdrawn or kept awake: none is IDLE, ASLEEP or in WAKE_WAIT. -/
def Still (s : State) : Prop :=
  ∀ p, (s.press p).state.isIdle = false ∧ (s.press p).state ≠ .asleep ∧ ∀ o, (s.press p).state ≠ .wakeWait o

/-- Wake demand has nobody to ask, withdraw or keep awake: no press is ASLEEP, in WAKE_WAIT, or IDLE with
SLEEP_PENDING. -/
def Awake (s : State) : Prop :=
  ∀ p, (s.press p).state ≠ .asleep ∧ (∀ o, (s.press p).state ≠ .wakeWait o) ∧ ∀ t, (s.press p).state ≠ .idle true t

/-- No job is live and no press waits for a wake on demand: no decision has anything to decide. -/
structure NoWork (s : State) : Prop where
  free : ∀ e, s.job e = none
  nobody : ∀ p, (s.press p).state ≠ .wakeWait .demand

/-- A press whose received frames are heard and acted on: the part runs, the link is up and no restart signal holds
the line (R82, R90). -/
structure Linked (s : State) (p : PressNo) : Prop where
  running : s.phase = .running
  quiet : Quiet s
  up : (s.press p).state ≠ .down
  noSignal : (s.press p).held = false

/-- A handle names a live job: its entry, in range, and the serial of the job there (R1). -/
structure Names (s : State) (h : Handle) (e : Entry) (j : Job) : Prop where
  entry : h.entry.toNat = e.val
  live : s.job e = some j
  serial : h.serial = j.serial

/-- A body carries a number in `k` bytes at an offset, least significant byte first (spec/12). -/
def Carries (b : List Byte) (offset k n : Nat) : Prop := fieldAt b offset k = n % 256 ^ k

/-- A live job is bound to a press, and no other is (R1). -/
structure BoundAlone (s : State) (p : PressNo) (e : Entry) (j : Job) : Prop where
  live : s.job e = some j
  bound : j.state.bound = some p
  alone : ∀ d i, s.job d = some i → i.state.bound = some p → d = e

/-- No page of the sheet at a position is DAMAGED (R18, R46). -/
def Undamaged (s : State) (e : Entry) (j : Job) (n : Nat) : Prop :=
  ∀ sh k, j.sheetOf n = some sh → k ∈ sh.pages → s.pageIs e .damaged k = false

/-- The sheet at a job's cursor could start on a press by the job and the trays (R46, R51): every page of it is COMPLETE,
and a tray of the press is LOADED with its media class. -/
def SheetReady (s : State) (p : PressNo) (e : Entry) (j : Job) : Prop :=
  ∃ c n sh, j.commit = some c ∧ c.cursor = some n ∧ j.sheetOf n = some sh ∧ s.loaded p sh.media = true ∧
    ∀ k ∈ sh.pages, s.pageIs e .complete k = true

/-- No sheet starts on a press, whatever its job (R46): no credit, the supply LOW, a sheet being sent, or a full path. -/
def NoStart (s : State) (p : PressNo) : Prop :=
  (s.press p).credits = 0 ∨ s.low = true ∨ (s.press p).send ≠ .idle ∨ s.depth p ≤ (s.press p).path.length

/-- A QUEUED job would be eligible (R15), and a sheet of it could start on a press but for a credit (R46): the sheet at its
cursor is ready, and for more copies than one all its pages are received. -/
structure SheetWaits (s : State) (p : PressNo) (e : Entry) (j : Job) : Prop where
  sheet : SheetReady s p e j
  received : j.copies = 1 ∨ j.received = j.pageCount

/-- The sheet at a job's cursor, its page on side 1 first to be sent, starts on a press whose line is free and which has
nothing to send (R46, R47): `data` is the first stretch of the page, `last` whether it is all of it. -/
structure Starts (s : State) (p : PressNo) (e : Entry) (j : Job) (i : Nat) (sh : Sheet) (data : List Byte) (last : Bool) :
    Prop where
  line : (s.press p).line = none
  nothing : (s.press p).txq = []
  free : ¬ NoStart s p
  cursor : j.cursorSheet = some (i, sh)
  ready : SheetReady s p e j
  first : ∃ d pg, s.spool.page e sh.side1 = some (d, pg) ∧ s.spool.readBlock pg 0 = .bytes data last

/-- The starve timer of a PRINTING job (R50): it runs on, or from 0, while a page of the sheet at the cursor is not
COMPLETE. -/
def State.starveOf (s : State) (e : Entry) (j : Job) : Option Starve :=
  if j.cursorSheet.any fun x => x.2.pages.any fun k => !s.pageIs e .complete k then
    some (j.starve.getD { elapsed := 0, limit := s.ret.schedule.starve * 1000 })
  else none

/-- The PRINTING job of a BUSY press as an examination leaves it (R46, R51): no page of the sheet at its cursor is DAMAGED,
and the press is in media wait exactly for the class of that sheet while no tray is LOADED with it. -/
structure Waits (s : State) (p : PressNo) (e : Entry) (j : Job) : Prop where
  alone : BoundAlone s p e j
  printing : j.state = .printing p
  busy : (s.press p).state = .busy (j.cursorSheet.bind fun x =>
    if s.loaded p x.2.media then none else some x.2.media)
  whole : ∀ x ∈ j.cursorSheet, Undamaged s e j x.1

/-- Both tests of a circuit pass at a time, by its settings and its start times, newest first (R104). -/
def GrantOpen (x : CircuitSettings) (ring : List Time) (now : Time) : Prop :=
  (x.tw = 0 ∨ (ring.filter fun t => decide ((now - t).toNat < x.tw)).length < x.w) ∧
    ∀ t ∈ ring.head?, x.ts = 0 ∨ x.ts ≤ (now - t).toNat

/-- The framer hunts for a start byte, the line at mark (R163). -/
def Hunting (s : State) : Prop := s.framer = { bytes := none, atSpace := false }

/-! ## What presses, jobs and dispatch leave alone -/

/-- The six settings of a press record (R101, R111): pool, circuit, and the sleep and calibration settings. -/
structure PressSettings where
  pool : Option PoolNo
  circuit : CircuitNo
  idleTimeout : Nat
  minAwake : Nat
  shortInterval : Nat
  longThreshold : Nat
  deriving DecidableEq, Repr

/-- The settings of a press record. -/
def PressRec.settings (r : PressRec) : PressSettings :=
  { pool := r.pool, circuit := r.circuit, idleTimeout := r.idleTimeout, minAwake := r.minAwake
    shortInterval := r.shortInterval, longThreshold := r.longThreshold }

/-- The state that no press frame, no timer of a press or job and no decision of DSA touches: the supply and the
start, part time, the host link but its report queue, the counters, the settings of the part, its circuits and its
presses, and the prices. -/
structure Outer where
  phase : Phase
  resetPin : Bool
  retainedValid : Bool
  cellHolds : Bool
  sense : Nat
  low : Bool
  cause : ResetCause
  lost : Bool
  time : Time
  ms : Nat
  rate : Nat
  framer : Framer
  intake : List Queued
  slot : Option HostMsg
  restartPending : Bool
  txReport : Option TxReport
  serialCounter : Serial
  commitCounter : Serial
  buttonArmed : Bool
  pending : List Instr
  current : PriceTable
  other : PriceTable
  filters : Vector Filter 8
  levels : Vector Nat 12
  circuits : Vector CircuitSettings 4
  schedule : Schedule
  settings : Vector PressSettings 12
  deriving DecidableEq, Repr

/-- The outer part of a state. -/
def State.outer (s : State) : Outer :=
  { phase := s.phase, resetPin := s.resetPin, retainedValid := s.retainedValid, cellHolds := s.cellHolds
    sense := s.sense, low := s.low, cause := s.cause, lost := s.lost, time := s.time, ms := s.ms, rate := s.rate, framer := s.framer
    intake := s.intake, slot := s.slot, restartPending := s.restartPending, txReport := s.txReport
    serialCounter := s.serialCounter, commitCounter := s.commitCounter, buttonArmed := s.buttonArmed
    pending := s.pending, current := s.ret.current, other := s.ret.other, filters := s.ret.filters
    levels := s.ret.levels, circuits := s.ret.circuits, schedule := s.ret.schedule
    settings := s.ret.presses.map PressRec.settings }

/-! ## Invariants -/

/-- The generation numbers of the price tables stand one apart (R118). -/
def PricesApart (s : State) : Prop := s.ret.current.gen = s.ret.other.gen + 1

/-- The intake holds at most 8 requests (R165). -/
def IntakeBounded (s : State) : Prop := s.intake.length ≤ 8

/-- At most one report is pending for each subject (R170). -/
def ReportsDistinct (s : State) : Prop := s.reports.Pairwise fun a b => a.sameSubject b = false

/-- The house account is ACTIVE (R133). -/
def HouseActive (s : State) : Prop := (s.account house).state = .active

/-- No two entries of the alert table have one kind and source, and entry 31 holds OVERFLOW and no other kind
(R148). -/
structure AlertsKeyed (s : State) : Prop where
  unique : ∀ m n a b, s.alert m = some a → s.alert n = some b → a.kind = b.kind → a.source = b.source → m = n
  overflow : ∀ n a, s.alert n = some a → (a.kind = .overflow ↔ n = overflowEntry)

/-- No two live jobs have one serial (R4). -/
def SerialsDistinct (s : State) : Prop :=
  ∀ d e i j, s.job d = some i → s.job e = some j → i.serial = j.serial → d = e

/-- The spool's tables are in their canonical form. -/
def SpoolCanonical (s : State) : Prop := s.spool.wf = true

/-- The invariants of the part together. -/
structure Inv (s : State) : Prop where
  prices : PricesApart s
  intake : IntakeBounded s
  reports : ReportsDistinct s
  house : HouseActive s
  alerts : AlertsKeyed s
  serials : SerialsDistinct s
  spool : SpoolCanonical s

/-! ## The commands that are requests -/

/-- The request that a command of the host sends; absent for the commands that are no request. -/
def requestRow : Instr → Option Queued
  | .jobOpen tag a t c n => some { tag := tag, kind := 0x01, req := .jobOpen a t c n }
  | .jobRuns tag h d rs => some { tag := tag, kind := 0x02, req := .jobRuns h d rs }
  | .jobData tag h k f b => some { tag := tag, kind := 0x03, req := .jobData h k f b }
  | .jobCommit tag h => some { tag := tag, kind := 0x04, req := .jobCommit h }
  | .jobHold tag h => some { tag := tag, kind := 0x05, req := .jobHold h }
  | .jobRelease tag h => some { tag := tag, kind := 0x06, req := .jobRelease h }
  | .jobCancel tag h => some { tag := tag, kind := 0x07, req := .jobCancel h }
  | .jobStatus tag h => some { tag := tag, kind := 0x08, req := .jobStatus h }
  | .accountSet tag a st l => some { tag := tag, kind := 0x10, req := .accountSet a st l }
  | .accountAdjust tag a x => some { tag := tag, kind := 0x11, req := .accountAdjust a x }
  | .accountRead tag a => some { tag := tag, kind := 0x12, req := .accountRead a }
  | .priceWrite tag g f v => some { tag := tag, kind := 0x18, req := .priceWrite g f v }
  | .priceCommit tag => some { tag := tag, kind := 0x19, req := .priceCommit }
  | .priceRead tag r => some { tag := tag, kind := 0x1A, req := .priceRead r }
  | .pressSet tag p f => some { tag := tag, kind := 0x20, req := .pressSet p f }
  | .pressRead tag p => some { tag := tag, kind := 0x21, req := .pressRead p }
  | .pressWake tag p => some { tag := tag, kind := 0x22, req := .pressWake p }
  | .pressSleep tag p => some { tag := tag, kind := 0x23, req := .pressSleep p }
  | .pressCalibrate tag p k => some { tag := tag, kind := 0x24, req := .pressCalibrate p k }
  | .pressResume tag p => some { tag := tag, kind := 0x25, req := .pressResume p }
  | .pressRestart tag p => some { tag := tag, kind := 0x26, req := .pressRestart p }
  | .circuitSet tag c w tw ts => some { tag := tag, kind := 0x28, req := .circuitSet c w tw ts }
  | .scheduleSet tag f => some { tag := tag, kind := 0x29, req := .scheduleSet f }
  | .filterSet tag n f => some { tag := tag, kind := 0x2A, req := .filterSet n f }
  | .filterRead tag n => some { tag := tag, kind := 0x2B, req := .filterRead n }
  | .alertLevels tag v => some { tag := tag, kind := 0x30, req := .alertLevels v }
  | .alertList tag => some { tag := tag, kind := 0x31, req := .alertList }
  | .alertAck tag e k st src => some { tag := tag, kind := 0x32, req := .alertAck e k st src }
  | .meterRead tag p c => some { tag := tag, kind := 0x38, req := .meterRead p c }
  | .status tag c => some { tag := tag, kind := 0x40, req := .status c }
  | .flush tag => some { tag := tag, kind := 0x41, req := .flush }
  | .restart tag => some { tag := tag, kind := 0x42, req := .restart }
  | .retainedClear tag => some { tag := tag, kind := 0x43, req := .retainedClear }
  | .unknownRequest tag kind body => some { tag := tag, kind := kind, req := requestOf kind body }
  | .hostFrameReceived _ | .hostFrameDiscarded _ _ | .interByteGapTimeout _ | .lineBreak | .replyTransmitted => none
  | .reportTransmissionBegin | .reportTransmitted | .hello _ _ _ _ _ _ | .beat _ _ | .credit _ _ => none
  | .picked _ _ | .delivered _ _ | .jam _ _ | .clear _ | .tray _ _ _ _ | .cover _ _ | .ready _ | .asleep _ => none
  | .caldone _ _ | .pressFrameDiscarded _ _ _ | .unactedPressFrame _ _ _ | .pressFrameTransmitted _ => none
  | .heartbeatExpiry _ | .restartSignalEnd _ | .restartWindowExpiry _ | .wakeTimeout _ => none
  | .calibrationTimeout _ | .starveExpiry _ | .idleTimerExpiry _ | .sleepPointReached _ | .nextGrantTime _ => none
  | .escalation _ | .ackButtonPress | .supplyFall _ | .supplyRise _ | .mainSupplyLoss | .supplyStart => none
  | .resetInputAssert | .resetInputRelease | .startOfPart _ _ _ | .backupCellLoss | .lineReturnToMark => none
  | .ackButtonRelease => none

/-- The bytes of the frame that sends a request (spec/12.1, 12.4); absent for the commands that are no request. -/
def requestFrame (c : Instr) : Option (List Byte) :=
  match c with
  | .unknownRequest tag kind body => some (HostMsg.frame { kind := kind, tag := tag, body := body })
  | _ => (requestRow c).map fun q => HostMsg.frame { kind := q.kind, tag := q.tag, body := requestBody q.req }

/-- The frame from a press that a command stands for, with the press; absent for the other commands. -/
def pressRow : Instr → Option (PressNo × PressIn)
  | .hello p d c depth trays asleep => some (p, .hello d c depth trays asleep)
  | .beat p o => some (p, .beat o)
  | .credit p n => some (p, .credit n)
  | .picked p q => some (p, .picked q)
  | .delivered p q => some (p, .delivered q)
  | .jam p l => some (p, .jam l)
  | .clear p => some (p, .clear)
  | .tray p i m l => some (p, .tray i m l)
  | .cover p o => some (p, .cover o)
  | .ready p => some (p, .ready)
  | .asleep p => some (p, .asleep)
  | .caldone p pass => some (p, .caldone pass)
  | _ => none

/-- The state with a reply in the slot: what a request that is taken leaves of the host link (R166). -/
def State.answered (tag kind : Byte) (r : Reply) (s : State) : State :=
  { s with slot := some (replyTo tag kind r) }

/-! ## Effects that several claims name -/

/-- What JOB COMMIT gives a job that passes its checks (R8, R11, R131): the next commit sequence, CURRENT's generation,
the estimate, charged 0, the filter outcome, the cursor at position 1, the target a REDIRECT names. -/
def committed (s : State) (j : Job) : Job :=
  { j with
    commit := some { seq := s.commitCounter + 1, gen := s.ret.current.gen
                     estimate := s.ret.current.estimate (j.runs.getD []) j.copies, charged := 0
                     filter := s.filterOutcome j, cursor := some 1 }
    target := match (s.filterOutcome j).redirected with
      | some q => .pool q
      | none => j.target }

/-- What a restart of a linked press leaves of it (R80, R89, R90): DOWN, its receiver hunting, nothing to send, no
credits, the sequence at 0 (log entry 21), no path, no cover and no mark, the restart signal held and the window
begun. -/
def restarted (x : Press) : Press :=
  { x with
    state := .down, credits := 0, seq := 0, cover := none, heartbeat := 0, txq := [], path := [], send := .idle
    resumeMark := false, rx := none, restart := some { signal := true, elapsed := 0, atStart := false } }

/-- A press with its path lost (R57, R81): no sheet in its path, no sheet being sent, and of the frames that wait only the
control frames. -/
def lostPath (x : Press) : Press :=
  { x with path := [], send := .idle, txq := x.txq.filter fun f => !f.needsCredit }

/-- A press with its media wait ended (R51), if it was in one: MEDIA_WAIT is removed, with the report pending, and MEDIA_OUT
ends. -/
def State.mediaWaitEnded (p : PressNo) (now : Option Nat) (s : State) : State :=
  if now = none then s
  else ((s.modPress p fun x => { x with state := .busy none }).mark (.press p)).endCondition .mediaOut (.press p)

/-- The head of a circuit's queue granted its wake, its line free (R92, R104, R106): it leaves the queue, the start joins
the ring of 4, its awake-since time is now, it is WAKING with its report pending, and WAKE is sent. -/
def State.wakeGranted (c : CircuitNo) (p : PressNo) (s : State) : State :=
  ((s.modCircuit c fun x => { ring := (s.time :: x.ring).take 4, queue := x.queue.drop 1 }).modPress p fun x =>
    { x with state := .waking 0, awakeSince := some s.time, line := some .wake }).mark (.press p)

/-- A press on which a sheet has started with nothing else to send (R47, R48, R86): SHEET is on the line and has taken a
credit, the frames of the first stretch of side 1 wait behind it, and the sheet is the last of the path, SENDING. -/
def started (job : Option (Entry × Nat)) (media sides : Nat) (data : List Byte) (last : Bool) (x : Press) : Press :=
  { x with
    credits := x.credits - 1, seq := x.seq + 1, line := some (.sheet x.seq media sides)
    txq := dataFrames x.seq 1 data last, send := .sending 1 data.length last
    path := x.path ++ [{ seq := x.seq, job := job, sides := sides, media := media, state := .sending }] }

/-- A job after the loss of a path (R57): the cursor at the oldest lost position, the lost sheets counted as reprints; as it
was where the path held no sheet. -/
def rewound (path : List PathEntry) (j : Job) : Job :=
  match path.head?.bind fun x => x.job with
  | none => j
  | some (_, n) =>
    { j with
      commit := j.commit.map fun c => { c with cursor := some n }
      reprinted := min (j.reprinted + path.length) 4294967295 }

/-- The oldest sheet in a press's path, if there is one, is a job's, and no page of it is DAMAGED (R18). -/
def Rewinds (s : State) (p : PressNo) (e : Entry) (j : Job) : Prop :=
  ∀ x ∈ (s.press p).path.head?, ∃ n, x.job = some (e, n) ∧ Undamaged s e j n

/-- What a job leaves that takes its drain target while no press is idle and no job waits for its account's credit
(R19): HELD and FAULT are its state; STARVED raises JOB_STARVED, and where every page of the sheet at the cursor is
COMPLETE the job goes on to QUEUED, which ends it (R17); CANCELLED finishes it, its hold released and its pages freed
(R21). -/
def drained (target : DrainTarget) (e : Entry) (j : Job) (t : State) : State :=
  let enters (st : JobState) (u : State) := (u.setJob e (some { j with state := st, starve := none })).mark (.job e)
  match target with
  | .held => enters .held t
  | .fault => enters .fault t
  | .starved =>
    let u := (enters .starved t).raise .jobStarved (.job j.serial) none
    if u.cursorReady e then (enters (.queued u.time) u).endCondition .jobStarved (.job j.serial) else u
  | .cancelled =>
    let freed : State :=
      { (t.setJob e (some { j with state := .finished .cancelled, hold := none, starve := none })) with
        spool := t.spool.freeJob e }
    (match j.hold with
      | some n => freed.modAccount j.account fun a => { a with holdTotal := a.holdTotal - n }
      | none => freed).mark (.job e)

end Sys2Proof.Machine
end

