-- ==== Sys2Proof/Certificates/Slice0/Obligations.lean ====
section
/-! DEFINITION. The statements for the provers: what the part's commands do, by the numbered rules of spec/. -/

open Sys2Proof Sys2Proof.Machine

/-! ## The queue, the tick, the start -/

/-- A step takes the command at the front of the queue and executes it with the queue's rest. -/
def Obligations.StepTakesFront : Prop :=
  ∀ (c : Instr) (rest : List Instr) (s : State), s.pending = c :: rest → step s = exec c { s with pending := rest }

/-- With no command waiting a step is a tick of 1 ms of a running part, and nothing in a part that does not run: the
model's choices (log entries 2 and 1). Part time counts whole seconds and wraps after 2^32 - 1, the model's choice too
(log entry 14). Every timer of R88, R90, R92, R98, R109 and R50 counts where its rule has it run. The commands that
join the queue are those of the timers now due, each once: the heartbeat at 5 s (R88), the restart signal at 10 ms and
the window at 10 s (R90), a wake at 180 s (R92), a calibration at 300 s (R98), a starve timer at its limit (R50), an
idle timer at its timeout (R109), a sleep point reached by a press with SLEEP_PENDING (R110; with no awake-since time,
log entry 30), a circuit whose next grant time is reached (R104, R106), and an alert's escalation (R156). -/
def Obligations.TickCounts : Prop :=
  ∀ s : State, s.pending = [] →
    (s.phase ≠ .running → step s = .next s) ∧
    (s.phase = .running →
      let time := if s.ms + 1 < 1000 then s.time else s.time + 1
      ∃ presses jobs due,
        step s = .next
          { s with
            ms := if s.ms + 1 < 1000 then s.ms + 1 else 0
            time := time
            presses := presses, jobs := jobs, pending := due } ∧
        (∀ p : PressNo,
          presses[p] =
            { s.press p with
              heartbeat := if (s.press p).state = .down then (s.press p).heartbeat else (s.press p).heartbeat + 1
              restart := (s.press p).restart.map fun r => { r with elapsed := r.elapsed + 1 }
              state :=
                match (s.press p).state with
                | .waking t => .waking (t + 1)
                | .idle false t => .idle false (t + 1)
                | .calibrating run t => .calibrating run (if s.low then t else t + 1)
                | st => st }) ∧
        (∀ e : Entry, jobs[e] = (s.job e).map fun j =>
          { j with starve := j.starve.map fun t => { t with elapsed := t.elapsed + 1 } }) ∧
        (∀ p : PressNo, Instr.heartbeatExpiry p ∈ due ↔ presses[p].state ≠ .down ∧ 5000 ≤ presses[p].heartbeat) ∧
        (∀ p : PressNo, Instr.restartSignalEnd p ∈ due ↔
          ∃ r, presses[p].restart = some r ∧ r.signal = true ∧ 10 ≤ r.elapsed) ∧
        (∀ p : PressNo, Instr.restartWindowExpiry p ∈ due ↔ ∃ r, presses[p].restart = some r ∧ 10000 ≤ r.elapsed) ∧
        (∀ p : PressNo, Instr.wakeTimeout p ∈ due ↔ ∃ t, presses[p].state = .waking t ∧ 180000 ≤ t) ∧
        (∀ p : PressNo, Instr.calibrationTimeout p ∈ due ↔ ∃ run t, presses[p].state = .calibrating run t ∧ 300000 ≤ t) ∧
        (∀ e : Entry, Instr.starveExpiry e ∈ due ↔
          ∃ j p t, jobs[e] = some j ∧ j.state = .printing p ∧ j.starve = some t ∧ t.limit ≤ t.elapsed) ∧
        (∀ p : PressNo, Instr.idleTimerExpiry p ∈ due ↔
          ∃ t, presses[p].state = .idle false t ∧ (s.pressRec p).idleTimeout ≠ 0 ∧
            (s.pressRec p).idleTimeout * 60000 ≤ t) ∧
        (∀ p : PressNo, Instr.sleepPointReached p ∈ due ↔
          (∃ t, presses[p].state = .idle true t) ∧
            ∀ since, presses[p].awakeSince = some since → (s.pressRec p).minAwake * 60 ≤ (time - since).toNat) ∧
        (∀ c : CircuitNo, Instr.nextGrantTime c ∈ due ↔
          (s.circuit c).queue ≠ [] ∧
            ((s.settings c).tw = 0 ∨ ((s.circuit c).ring.filter fun t =>
              decide ((time - t).toNat < (s.settings c).tw)).length < (s.settings c).w) ∧
            ((s.settings c).ts = 0 ∨ ∀ t ∈ (s.circuit c).ring.head?, (s.settings c).ts ≤ (time - t).toNat)) ∧
        (∀ n : AlertNo, Instr.escalation n ∈ due ↔
          ∃ a, s.alert n = some a ∧ a.state = .activeUnacked ∧ a.level < 15 ∧ s.ret.schedule.escalation ≠ 0 ∧
            s.ret.schedule.escalation ≤ (time - a.changedAt).toNat) ∧
        due.Nodup ∧
        ∀ c ∈ due,
          (∃ p, c ∈ [.heartbeatExpiry p, .restartSignalEnd p, .restartWindowExpiry p, .wakeTimeout p,
            .calibrationTimeout p, .idleTimerExpiry p, .sleepPointReached p]) ∨
          (∃ e, c = .starveExpiry e) ∨ (∃ k, c = .nextGrantTime k) ∨ ∃ n, c = .escalation n)

/-- What a start with the retained domain lost leaves in every unit, as far as the spec states it: every entry FREE,
the serial counter 1 and the commit counter 0 (R2); the filters of R9; the spool all free with block 0 on top (R26,
R27); every press DOWN with its link restarted, its receiver hunting and no sheet in its path (R44, R80, R102); rings
and wake queues empty (R117); account 0 ACTIVE, the others UNUSED, every amount 0 (R134); meters 0 (R134); the prices
of R118 and R120; the levels of R149 and the alert table empty (R161); the host link's values (R173); the schedule of
R175; the sticky fault set empty (R180). That reset is a first supply start with the retained domain lost, cause POWER,
both straps open (rate 0), the supply NORMAL and the backup cell up is the model's choice (log entry 13), and so is the
host line at mark (log entry 26). -/
def Obligations.ResetState : Prop :=
  let s := State.reset
  s.phase = .running ∧ s.time = 0 ∧ s.lost = true ∧ s.cause = .power ∧ s.low = false ∧ s.rate = 0 ∧
  s.retainedValid = true ∧ s.cellHolds = true ∧ (∀ e, s.job e = none) ∧ s.serialCounter = 1 ∧ s.commitCounter = 0 ∧
  (∀ n : Fin 8, s.ret.filters[n] =
    { enabled := false, account := 0, mask := 0, media := 0, colour := .any, minSheets := 0, action := .hold }) ∧
  s.spool.free = List.range 16384 ∧ s.spool.blocks = [] ∧ s.spool.pool = [] ∧
  (∀ p, s.press p =
    { state := .down, credits := 0, seq := 0, cover := none, heartbeat := 0
      restart := some { signal := true, elapsed := 0, atStart := true }, resumeMark := false, path := [], send := .idle
      txq := [], line := none, rx := none, fair := 0, awakeSince := none, sleepStart := none
      heldPool := none }) ∧
  (∀ p, s.pressRec p =
    { pool := some 0, circuit := 0, idleTimeout := 20, minAwake := 5, shortInterval := 5000, longThreshold := 8
      caps := none, sheetCount := 0, shortDue := false, longDue := false }) ∧
  (∀ c, (s.circuit c).ring = [] ∧ (s.circuit c).queue = [] ∧ s.settings c = { w := 2, tw := 60, ts := 8 }) ∧
  (∀ a, s.account a =
    { state := if a = 0 then .active else .unused, balance := 0, limit := 0, residue := 0, holdTotal := 0
      lifeSheets := 0, lifeCharged := 0 }) ∧
  (∀ p m, s.meter p m = { sheets := 0, mono := 0, colour := 0, service := 0, jams := 0 }) ∧
  s.ret.current = PriceTable.default 1 ∧ s.ret.other = PriceTable.default 0 ∧
  (∀ n, s.alert n = none) ∧ s.ret.levels = #v[10, 6, 4, 8, 9, 11, 3, 5, 2, 13, 7, 9] ∧
  s.framer = { bytes := none, atSpace := false } ∧ s.intake = [] ∧ s.slot = none ∧ s.txReport = none ∧
  s.restartPending = false ∧ s.reports = [.start] ∧
  s.ret.schedule = { mode := .cls, ageStep := 10, starve := 30, escalation := 120, buzzer := 12, threshold := 3 } ∧
  s.ret.sticky = { spoolCheck := false, pressProtocol := false }

/-! ## Invariants -/

/-- The state right after reset has every invariant of the part. -/
def Obligations.ResetInvariant : Prop := Inv State.reset

/-- Every step keeps the price generations one apart (R118), the house account ACTIVE (R133), the intake at 8 requests
or fewer (R165) and one pending report for each subject (R170). -/
def Obligations.PricesAndQueuesInvariant : Prop :=
  ∀ s t : State, step s = .next t →
    (PricesApart s → PricesApart t) ∧ (HouseActive s → HouseActive t) ∧ (IntakeBounded s → IntakeBounded t) ∧
      (ReportsDistinct s → ReportsDistinct t)

/-- Every step keeps one alert entry for each kind and source, and OVERFLOW in entry 31 alone (R148, R151). -/
def Obligations.AlertInvariant : Prop := ∀ s t : State, step s = .next t → AlertsKeyed s → AlertsKeyed t

/-- Every step keeps the serials of live jobs distinct (R4). -/
def Obligations.SerialInvariant : Prop := ∀ s t : State, step s = .next t → SerialsDistinct s → SerialsDistinct t

/-- Every step keeps the spool's tables in their canonical form, with every block number in range (R24, R26, R27). -/
def Obligations.SpoolInvariant : Prop := ∀ s t : State, step s = .next t → SpoolCanonical s → SpoolCanonical t

/-! ## Frames -/

/-- The frame of a request, whose bytes arrive whole at a hunting framer, completes and does exactly what the request's
row does (R162, R163, R181): every field of every layout of spec/12.4 is read from the byte it lies in. That a row
stands for its whole frame, the layouts of PRICE WRITE and of ALERT LEVELS with its count byte, the one byte of an
account number and the pool byte of every FILTER SET are the model's choices (log entries 4, 9, 18 and 52). -/
def Obligations.FrameSpellsRequest : Prop :=
  ∀ (c : Instr) (bytes : List Byte) (s : State), c.wf = true → requestFrame c = some bytes → s.phase = .running →
    Hunting s → ∃ t, exec (.hostFrameReceived bytes) s = .next t ∧ exec c s = .next t

/-- The bytes of a press frame, arriving whole at a hunting receiver, do exactly what the frame's row does; so does
the frame named by its kind and body (R80, R82, R181, spec/12.6). That a row, UNACTED_PRESS_FRAME among them, stands
for its whole frame received is the model's choice (log entry 4).
A frame from the part to a press has the bytes of spec/12.1: the start byte, the length, the kind 01h to 08h, the body
of spec/12.6 and the check over the three; a full DATA frame's body has 259 bytes. -/
def Obligations.FrameSpellsPressRow : Prop :=
  (∀ (c : Instr) (p : PressNo) (f : PressIn) (s : State), c.wf = true → pressRow c = some (p, f) →
    ((s.press p).rx = none →
      exec (.pressFrameDiscarded p (pressFrame (pressMsg f).1 (pressMsg f).2) false) s = exec c s) ∧
    exec (.unactedPressFrame p (pressMsg f).1 (pressMsg f).2) s = exec c s) ∧
  (∀ (f : PFrame) (kind : Byte) (body : List Byte),
    (kind, body) = (match f with
      | .linked => (0x01, [0, 0])
      | .sheet q media sides => (0x02, le 2 q.toNat ++ le 1 media ++ le 1 sides)
      | .data q side bytes => (0x03, le 2 q.toNat ++ le 1 side ++ bytes)
      | .abort q => (0x04, le 2 q.toNat)
      | .wake => (0x05, [])
      | .sleep => (0x06, [])
      | .calibrate long count => (0x07, [if long then 1 else 0] ++ le 1 count)
      | .flushPath => (0x08, [])) →
    f.bytes = [0x5A] ++ (le 2 body.length ++ [kind] ++ body) ++ le 2 (crc16 (le 2 body.length ++ [kind] ++ body)).toNat ∧
    (∀ q side bytes, f = .data q side bytes → bytes.length ≤ 256 → body.length ≤ 259))

/-- The host line (R163, R164). After a gap a frame in progress is discarded and the late byte is hunted in; a break
discards the frame in progress and holds the framer until the line returns to mark, and meanwhile no byte is taken. A
frame is discarded, and the framer hunts again with nothing else changed, for a check that does not match, a length over
1,100, and a framing error at any byte. -/
def Obligations.HostLineEvents : Prop :=
  ∀ s : State, s.phase = .running →
    (∀ late : Option Byte, s.framer.atSpace = false → exec (.interByteGapTimeout late) s =
      .next { s with framer := { bytes := if late = some 0xC3 then some [] else none, atSpace := false } }) ∧
    exec .lineBreak s = .next { s with framer := { bytes := none, atSpace := true } } ∧
    exec .lineReturnToMark s = .next { s with framer := { s.framer with atSpace := false } } ∧
    (∀ bytes, s.framer.atSpace = true → exec (.hostFrameReceived bytes) s = .next s) ∧
    (∀ m : HostMsg, m.body.length ≤ 1100 → Hunting s →
      (∀ (check : List Byte) (err : Bool), check.length = 2 →
        check ≠ le 2 (crc16 (le 2 m.body.length ++ [m.kind, m.tag] ++ m.body)).toNat →
        exec (.hostFrameDiscarded ([0xC3] ++ (le 2 m.body.length ++ [m.kind, m.tag] ++ m.body) ++ check) err) s =
          .next s) ∧
      (∀ n, n < m.frame.length → exec (.hostFrameDiscarded (m.frame.take n) true) s = .next s) ∧
      (∀ n : Nat, 1100 < n → n < 65536 → ∀ err, exec (.hostFrameDiscarded (0xC3 :: le 2 n) err) s = .next s))

/-! ## Requests and replies -/

/-- A request begins at once when the slot and the intake are empty, and its reply, of its kind plus 80h (its own kind
from 80h on) with its tag, is placed in the slot (R166); otherwise it joins the intake's tail while fewer than 8
requests wait, and is discarded without a reply when 8 wait (R165). -/
def Obligations.RequestTaken : Prop :=
  ∀ (c : Instr) (q : Queued) (s : State), requestRow c = some q → s.phase = .running →
    (s.slot = none → s.intake = [] →
      ∃ (r : Reply) (t : State), performRequest q.req s = (r, t) ∧
        exec c s = .next { t with
          slot := some { kind := if q.kind.toNat < 128 then q.kind + 0x80 else q.kind, tag := q.tag
                         body := BitVec.ofNat 8 r.code.code :: r.figures } }) ∧
    (s.slot ≠ none ∨ s.intake ≠ [] →
      exec c s = .next (if s.intake.length < 8 then { s with intake := s.intake ++ [q] } else s))

/-- A refused request changes nothing but the slot that its refusal takes (R167); a request of a kind that no request
has is refused UNKNOWN. -/
def Obligations.RefusalChangesNothing : Prop :=
  ∀ (s : State), HostFree s →
    (∀ (c : Instr) (q : Queued), requestRow c = some q → (performRequest q.req s).1.code ≠ .ok →
      exec c s = .next (s.answered q.tag q.kind (performRequest q.req s).1)) ∧
    (∀ (tag kind : Byte) (body : List Byte),
      kind.toNat ∉ [0x01, 0x02, 0x03, 0x04, 0x05, 0x06, 0x07, 0x08, 0x10, 0x11, 0x12, 0x18, 0x19, 0x1A, 0x20, 0x21, 0x22,
        0x23, 0x24, 0x25, 0x26, 0x28, 0x29, 0x2A, 0x2B, 0x30, 0x31, 0x32, 0x38, 0x40, 0x41, 0x42, 0x43] →
      exec (.unknownRequest tag kind body) s = .next (s.answered tag kind { code := .unknown, figures := [] }))

/-- The end of a reply on the line empties the slot (R166); the request at the head of the intake, if there is one,
then executes to its end and its reply takes the slot; after RESTART's reply the part starts instead (R177), with
nothing of the working state left. The phase of a part that is starting, and what it holds, are the model's choice
(log entry 28). -/
def Obligations.ReplyTransmitted : Prop :=
  ∀ (s : State) (m : HostMsg), s.phase = .running → s.slot = some m → s.txReport = none →
    (s.restartPending = false → s.intake = [] → exec .replyTransmitted s = .next { s with slot := none }) ∧
    (∀ q rest, s.restartPending = false → s.intake = q :: rest →
      ∃ (r : Reply) (t : State), performRequest q.req { s with slot := none, intake := rest } = (r, t) ∧
        exec .replyTransmitted s = .next { t with slot := some (replyTo q.tag q.kind r) }) ∧
    (s.restartPending = true →
      ∃ t, exec .replyTransmitted s = .next t ∧ t.phase = .starting .restart ∧ t.ret = s.ret ∧
        t.pending = s.pending ∧ t.intake = [] ∧ t.slot = none ∧ t.reports = [] ∧ (∀ e, t.job e = none) ∧
        t.spool = Spool.fresh ∧ (∀ p, t.press p = Press.down) ∧ (∀ n, t.alert n = none))

/-- A free transmitter with an empty slot takes the report at the head of the queue, which leaves it, formed from its
subject as it stands, with tag 0 and the part time first (R169, R170, R172). The bodies of the four reports have the
lengths of spec/12.5, 38, 29, 17 and 7 bytes, and carry each field at its offset there, with the codes of R181: of a
JOB REPORT of a live job without a commit bytes 23 to 37 are 0, and of an ALERT REPORT of a free entry bytes 7 to 27.
That source PART carries the value 0 is the model's choice (log entry 49). -/
def Obligations.ReportBegins : Prop :=
  (∀ (s : State) (r : Report) (rest : List Report), s.phase = .running → s.slot = none → s.txReport = none →
    s.reports = r :: rest →
    exec .reportTransmissionBegin s =
      .next { s with
        reports := rest
        txReport := some {
          msg := s.reportMsg r
          final := match r with
            | .job e => (s.job e).bind fun j => match j.state with
              | .finished _ => some (e, j.serial)
              | _ => none
            | _ => none } }) ∧
  (∀ (s : State) (r : Report), (s.reportMsg r).tag = 0 ∧
    (s.reportMsg r).kind = (match r with | .job _ => 0x60 | .alert _ _ _ => 0x61 | .press _ => 0x62 | .start => 0x63) ∧
    Carries (s.reportMsg r).body 0 4 s.time.toNat ∧
    (s.reportMsg r).body.length = (match r with | .job _ => 38 | .alert _ _ _ => 29 | .press _ => 17 | .start => 7)) ∧
  (∀ (s : State) (e : Entry) (j : Job), s.job e = some j →
    let b := (s.reportMsg (.job e)).body
    Carries b 4 1 e.val ∧ Carries b 5 4 j.serial.toNat ∧
    Carries b 9 1 (match j.state with
      | .opened => 1 | .creditWait => 2 | .held => 3 | .queued _ => 4 | .printing _ => 5 | .draining _ _ => 6
      | .starved => 7 | .fault => 8 | .finished _ => 9) ∧
    Carries b 10 1 (match j.state with | .finished _ => 1 | _ => 0) ∧
    Carries b 11 1 (match j.state with | .finished .cancelled => 1 | .finished .faulted => 2 | _ => 0) ∧
    Carries b 12 1 ((match j.state with | .finished _ => 1 | _ => 0) + if j.commit.isSome then 2 else 0) ∧
    Carries b 13 2 j.received ∧ Carries b 15 4 j.delivered ∧ Carries b 19 4 j.reprinted ∧
    (match j.commit with
      | none => ∀ i, 23 ≤ i → i ≤ 37 → byteAt b i = 0
      | some c => Carries b 23 6 c.charged ∧ Carries b 29 6 c.estimate ∧
        match c.cursor with
        | none => Carries b 35 1 0
        | some n => Carries b 35 1 ((n - 1) / j.perCopy + 1) ∧ Carries b 36 2 ((n - 1) % j.perCopy))) ∧
  (∀ (s : State) (n : AlertNo) (act : AlertAction) (again : Bool),
    let b := (s.reportMsg (.alert n act again)).body
    let lamp (k : Nat) := ∃ m a, s.alert m = some a ∧ a.state ≠ .activeAcked ∧ 0 < a.level ∧ 4 * k ≤ a.level ∧
      a.level < 4 * k + 4
    Carries b 4 1 n.val ∧
    Carries b 5 1 (match act with
      | .raised => 0 | .merged => 1 | .reopened => 2 | .escalated => 3 | .acked => 4 | .cleared => 5 | .removed => 6) ∧
    Carries b 6 1 ((if again then 1 else 0) + if (s.alert n).isSome then 2 else 0) ∧
    (match s.alert n with
      | none => ∀ i, 7 ≤ i → i ≤ 27 → byteAt b i = 0
      | some a =>
        Carries b 7 1 (match a.kind with
          | .jam => 0 | .mediaOut => 1 | .coverOpen => 2 | .linkDown => 3 | .jobStarved => 4 | .creditWait => 5
          | .supplyLow => 6 | .wakeFail => 7 | .spoolFault => 8 | .jobFlagged => 9 | .calFail => 10
          | .protocolFault => 11 | .overflow => 12) ∧
        Carries b 8 1 (match a.source with | .press _ => 0 | .job _ => 1 | .part => 2) ∧
        Carries b 9 4 (match a.source with | .press p => p.val | .job m => m.toNat | .part => 0) ∧
        Carries b 13 1 (if a.detail.isSome then 1 else 0) ∧ Carries b 14 2 (a.detail.getD 0) ∧
        Carries b 16 1 a.level ∧
        Carries b 17 1 (match a.state with | .activeUnacked => 0 | .activeAcked => 1 | .clearedUnacked => 2) ∧
        Carries b 18 2 a.occurrences ∧ Carries b 20 4 a.raisedAt.toNat ∧ Carries b 24 4 a.changedAt.toNat) ∧
    (∀ k < 4, (byteAt b 28).getLsbD k = true ↔ lamp k) ∧
    ((byteAt b 28).getLsbD 4 = true ↔
      ∃ m a, s.alert m = some a ∧ a.state = .activeUnacked ∧ s.ret.schedule.buzzer ≤ a.level) ∧
    (byteAt b 28).toNat < 32) ∧
  (∀ (s : State) (p : PressNo),
    let b := (s.reportMsg (.press p)).body
    let x := s.press p
    Carries b 4 1 p.val ∧
    Carries b 5 1 (match x.state with
      | .down => 0 | .asleep => 1 | .wakeWait _ => 2 | .waking _ => 3 | .idle _ _ => 4 | .busy _ => 5 | .jammed => 6
      | .halted _ => 7 | .calibrating _ _ => 8 | .sleeping => 9) ∧
    Carries b 6 1 ((match x.state with | .busy (some _) => 1 | .idle true _ => 2 | _ => 0)
      + if x.restart.isSome then 4 else 0) ∧
    Carries b 7 1 (match x.state with | .halted _ => 1 | _ => 0) ∧
    Carries b 8 1 (match x.state with | .halted .wakeFail => 1 | .halted .calFail => 2 | _ => 0) ∧
    Carries b 9 1 (if x.cover.isSome then 1 else 0) ∧ Carries b 10 1 (if x.cover = some true then 1 else 0) ∧
    (match (s.boundJob p).bind s.job with
      | none => Carries b 11 1 0 ∧ Carries b 12 4 0
      | some j => Carries b 11 1 1 ∧ Carries b 12 4 j.serial.toNat) ∧
    Carries b 16 1 x.path.length) ∧
  (∀ s : State,
    let b := (s.reportMsg .start).body
    Carries b 4 1 ((match s.cause with | .power => 0 | .resetInput => 1 | .restart => 2) + if s.lost then 128 else 0) ∧
    Carries b 5 1 (if s.lost then 0 else 1) ∧ Carries b 6 1 s.rate)

/-- A report made pending goes to the tail of the queue, or, if one of its subject is pending, takes that one's place
(R170). The end of a report frees the line. The end of a final JOB REPORT makes its entry FREE while the job is still
there (R22) and touches nothing of the outer part; where no press can be woken or bound by it, nothing else changes but
the end of the job's two conditions (R22, R158). -/
def Obligations.ReportTransmitted : Prop :=
  (∀ (s : State) (r : Report),
    let same (x : Report) : Prop :=
      match r, x with
      | .start, .start => True
      | .job e, .job d => e = d
      | .press p, .press q => p = q
      | .alert n _ _, .alert m _ _ => n = m
      | _, _ => False
    ((∀ x ∈ s.reports, ¬ same x) → s.mark r = { s with reports := s.reports ++ [r] }) ∧
    (∀ before x after, s.reports = before ++ x :: after → same x → (∀ y ∈ before ++ after, ¬ same y) →
      s.mark r = { s with reports := before ++ r :: after })) ∧
  ∀ (s : State) (x : TxReport), s.phase = .running → Quiet s → s.txReport = some x →
    (x.final = none → exec .reportTransmitted s = .next { s with txReport := none }) ∧
    (∀ e n j, x.final = some (e, n) → s.job e = some j → j.serial = n → (∃ o, j.state = .finished o) →
      (∃ t, exec .reportTransmitted s = .next t ∧ t.job e = none ∧ t.outer = { s.outer with txReport := none }) ∧
      (Still s → exec .reportTransmitted s =
        .next (((({ s with txReport := none } : State).setJob e none).endCondition .jobStarved (.job n)).endCondition
          .creditWait (.job n))))

/-! ## Job requests -/

/-- The requests that read answer OK with the figures their rules list and change nothing but the slot: JOB STATUS of a
live job (R23), ACCOUNT READ (R144), PRICE READ of CURRENT and OTHER (R124), PRESS READ of a press with no restart in
progress (R101), FILTER READ (R9), ALERT LIST (R160), ALERT LEVELS with no values (R149), STATUS without its clear flag
(R171), METER READ without its clear flag (R146). The layout of the replies, each in its rule's order, the two due
flags of PRESS READ a byte each, is the model's choice (log entry 8), and so is the shortfall of 0 where nothing falls
short (log entry 45). -/
def Obligations.ReadsChangeNothing : Prop :=
  ∀ (s : State) (tag : Byte), HostFree s →
    (∀ h e j, Names s h e j → exec (.jobStatus tag h) s = .next (s.answered tag 0x08 (okWith (
      le 1 j.state.code ++ le 4 j.serial.toNat ++ le 1 j.account.val ++ le 1 j.target.code ++ le 1 j.cls.code
        ++ le 1 j.copies
        ++ (match j.runs with
            | some runs => [1] ++ counted (runs.map fun r =>
                le 2 r.pages ++ le 1 r.media ++ le 1 r.duplex.toNat ++ le 1 r.band)
            | none => [0, 0])
        ++ optLe 2 (j.runs.map fun runs => (runs.map fun r => r.pages).sum)
        ++ optLe 2 (j.runs.map fun runs => (runs.map fun r => if r.duplex then (r.pages + 1) / 2 else r.pages).sum)
        ++ optLe 4 (j.runs.map fun runs =>
            j.copies * (runs.map fun r => if r.duplex then (r.pages + 1) / 2 else r.pages).sum)
        ++ le 2 j.received ++ le 1 (s.spool.filling e).isSome.toNat
        ++ optLe 4 (j.commit.map fun c => c.seq.toNat) ++ optLe 1 (j.commit.map fun c => c.gen.toNat)
        ++ optLe 6 (j.commit.map fun c => c.estimate) ++ optLe 6 (j.commit.map fun c => c.charged) ++ optLe 6 j.hold
        ++ (match j.commit with
            | some c => [1] ++ le 1 (c.filter.hold.toNat + 2 * c.filter.flagged.toNat)
                ++ optLe 1 (c.filter.redirected.map fun q => q.val)
            | none => [0, 0, 0, 0])
        ++ le 1 j.hostHold.toNat ++ le 4 j.delivered ++ le 4 j.reprinted
        ++ (match j.commit with
            | none => [0, 0, 0, 0]
            | some c => match c.cursor with
              | none => [1, 0, 0, 0]
              | some n => [1] ++ le 1 ((n - 1) / j.perCopy + 1) ++ le 2 ((n - 1) % j.perCopy))
        ++ optLe 1 (match j.state with | .printing p => some p.val | .draining p _ => some p.val | _ => none)
        ++ optLe 4 (match j.state with | .queued t => some t.toNat | _ => none)
        ++ optLe 1 (match j.state with | .draining _ t => some t.code | _ => none)
        ++ optLe 1 (match j.state with | .finished o => some o.code | _ => none))))) ∧
    (∀ a : AccountNo,
      let x := s.account a
      let count (f : Job → Bool) := (allEntries.filter fun e => (s.job e).any fun j => j.account == a && f j).length
      let oldest := (s.oldestWaiting a).bind fun e => (s.job e).map fun j => (e, j)
      let estimate := oldest.bind fun w => w.2.commit.map fun c => c.estimate
      exec (.accountRead tag a.val) s = .next (s.answered tag 0x12 (okWith (
        le 1 x.state.code ++ leInt 4 x.balance ++ le 4 x.limit ++ le 6 x.residue ++ le 6 x.holdTotal ++ le 4 x.lifeSheets
          ++ le 6 x.lifeCharged ++ leInt 8 ((x.balance + x.limit) * 1000 - x.residue - x.holdTotal)
          ++ le 1 (count fun _ => true) ++ le 1 (count fun j => j.hold.isSome)
          ++ le 1 (count fun j => j.state == .creditWait)
          ++ optLe 1 (oldest.map fun w => w.1.val) ++ optLe 4 (oldest.map fun w => w.2.serial.toNat) ++ optLe 6 estimate
          ++ optLe 6 (estimate.map fun n => if a = 0 then x.holdTotal + n - 281474976710655
              else (n - ((x.balance + x.limit) * 1000 - x.residue - x.holdTotal)).toNat))))) ∧
    (∀ (a : AccountNo) (e : Entry), s.oldestWaiting a = some e →
      ∃ i, s.job e = some i ∧ i.account = a ∧ i.state = .creditWait ∧
        ∀ d j, s.job d = some j → j.account = a → j.state = .creditWait → s.age j ≤ s.age i) ∧
    (∀ (a : AccountNo), s.oldestWaiting a = none →
      ∀ d j, s.job d = some j → j.account = a → j.state ≠ .creditWait) ∧
    (∀ role : Byte, role.toNat ≤ 1 →
      let t := if role = 0 then s.ret.current else s.ret.other
      let o := if role = 0 then s.ret.other else s.ret.current
      exec (.priceRead tag role) s = .next (s.answered tag 0x1A (okWith (
        [role] ++ le 1 t.gen.toNat ++ t.base.toList.flatMap (le 6) ++ t.cf.toList.flatMap (le 2) ++ le 2 t.df
          ++ le 4 t.t1 ++ le 4 t.t2 ++ le 2 t.tf0 ++ le 2 t.tf1 ++ le 2 t.tf2
          ++ le 1 (allEntries.filter fun e => (s.job e).any fun j => j.quotedUnder t.gen).length
          ++ le 1 o.gen.toNat)))) ∧
    (∀ p : PressNo, s.restarting p = false →
      let r := s.pressRec p
      exec (.pressRead tag (BitVec.ofNat 8 p.val)) s = .next (s.answered tag 0x21 (okWith (
        (s.reportMsg (.press p)).body.drop 4 ++ le 1 (s.press p).credits ++ le 2 (s.press p).seq.toNat
          ++ (match r.caps with
              | some c => [1] ++ le 1 c.duplex.toNat ++ le 1 c.colour.toNat ++ le 1 c.depth
                  ++ counted (c.trays.map fun t => le 1 t.media ++ le 1 t.loaded.toNat)
              | none => [0, 0, 0, 0, 0])
          ++ le 1 ((r.pool.map fun q => q.val).getD 255) ++ le 1 r.circuit.val ++ le 1 r.idleTimeout ++ le 1 r.minAwake
          ++ le 4 r.shortInterval ++ le 1 r.longThreshold ++ le 4 r.sheetCount ++ le 1 r.shortDue.toNat
          ++ le 1 r.longDue.toNat)))) ∧
    (∀ n : Fin 8,
      let f := s.ret.filters[n]
      exec (.filterRead tag (BitVec.ofNat 8 n.val)) s = .next (s.answered tag 0x2B (okWith (
        le 1 f.enabled.toNat ++ [f.account, f.mask] ++ le 2 f.media.toNat ++ le 1 f.colour.code ++ le 4 f.minSheets
          ++ (match f.action with | .hold => [0, 0] | .flag => [1, 0] | .redirect q => [2] ++ le 1 q.val))))) ∧
    exec (.alertList tag) s = .next (s.answered tag 0x31 (okWith (
      (List.finRange 32).flatMap (fun n => if (s.alert n).isSome then
        ((s.reportMsg (.alert n .raised false)).body.drop 4).take 24 else [])
        ++ le 1 ((List.finRange 32).filter fun n => (s.alert n).isSome && n != 31).length
        ++ ((s.reportMsg (.alert 0 .raised false)).body.drop 28)
        ++ le 2 s.ret.schedule.escalation ++ le 1 s.ret.schedule.buzzer))) ∧
    exec (.alertLevels tag []) s = .next (s.answered tag 0x30 (okWith (
      s.ret.levels.toList.map (fun n => BitVec.ofNat 8 n) ++ [14]))) ∧
    exec (.status tag 0) s = .next (s.answered tag 0x40 (okWith (
      le 2 0x1216 ++ le 1 1 ++ le 4 s.time.toNat ++ le 1 s.rate ++ le 1 (s.cause.code s.lost) ++ le 1 s.low.toNat
        ++ le 1 (s.ret.sticky.spoolCheck.toNat + 2 * s.ret.sticky.pressProtocol.toNat) ++ le 2 s.spool.free.length
        ++ le 2 (8192 - s.spool.pool.length) ++ le 1 (allEntries.filter fun e => (s.job e).isNone).length ++ le 1 0
        ++ le 1 s.reports.length))) ∧
    (∀ p : PressNo, s.restarting p = false →
      exec (.meterRead tag (BitVec.ofNat 8 p.val) 0) s = .next (s.answered tag 0x38 (okWith (
        (List.finRange 16).flatMap fun m =>
          let x := s.meter p m.val
          le 4 x.sheets ++ le 4 x.mono ++ le 4 x.colour ++ le 4 x.service ++ le 4 x.jams))))

/-- JOB OPEN (R3, R4): the lowest-numbered FREE entry is taken by the next serial of no live job, and its record holds
the fields carried, copies clamped to 1 to 255, state OPEN and nothing else; the counter goes on after the serial,
passing over 0. -/
def Obligations.JobOpens : Prop :=
  ∀ (s : State) (tag copies : Byte) (a : AccountNo) (t : Target) (k : JobClass) (e : Entry) (n : Serial) (i : Nat),
    HostFree s → s.job e = none → (∀ d, d < e → s.job d ≠ none) →
    n = nextSerial^[i] s.serialCounter → i < 64 → (∀ d j, s.job d = some j → j.serial ≠ n) →
    (∀ m < i, ∃ d j, s.job d = some j ∧ j.serial = nextSerial^[m] s.serialCounter) →
    exec (.jobOpen tag (BitVec.ofFin a) (BitVec.ofNat 8 t.code) (BitVec.ofNat 8 k.code) copies) s =
      .next ((({ s with serialCounter := nextSerial n } : State).setJob e (some
        { serial := n, account := a, target := t, cls := k, copies := max 1 copies.toNat, runs := none, received := 0
          commit := none, hold := none, hostHold := false, delivered := 0, reprinted := 0, state := .opened
          starve := none })).answered tag 0x01
        (okWith (le 1 e.val ++ le 4 n.toNat ++ le 1 a.val ++ le 1 t.code ++ le 1 k.code ++ le 1 (max 1 copies.toNat))))

/-- JOB RUNS of an OPEN job with no data (R5): 1 to 16 runs in range whose pages add up to the declared count, at most
8,192, replace the run list; the reply gives the pages, the sheets per copy and the total sheets, a duplex run of n
pages taking half of n rounded up. -/
def Obligations.JobRunsStored : Prop :=
  ∀ (s : State) (tag : Byte) (h : Handle) (declared : BitVec 16) (runs : List RunSpec) (e : Entry) (j : Job), HostFree s →
    Names s h e j → j.state = .opened → j.received = 0 → s.spool.filling e = none →
    1 ≤ runs.length → runs.length ≤ 16 → (runs.map fun r => r.pages.toNat).sum = declared.toNat →
    declared.toNat ≤ 8192 →
    (∀ r ∈ runs, 1 ≤ r.pages.toNat ∧ r.media.toNat ≤ 15 ∧ r.band.toNat ≤ 3 ∧ r.duplex.toNat ≤ 1) →
    let perCopy := (runs.map fun r : RunSpec => if r.duplex = 1 then (r.pages.toNat + 1) / 2 else r.pages.toNat).sum
    exec (.jobRuns tag h declared runs) s =
      .next ((s.setJob e (some { j with runs := some (runs.map fun r : RunSpec =>
        { pages := r.pages.toNat, media := r.media.toNat, duplex := r.duplex == 1, band := r.band.toNat }) })).answered tag
          0x02 (okWith (le 2 declared.toNat ++ le 2 perCopy ++ le 4 (j.copies * perCopy))))

/-- The checks of JOB DATA, in the order of R28: the first that fails decides the reply code. Flags with an undefined
bit set are refused FIELD (R181) after NO JOB: the model's choice (log entry 17). -/
def Obligations.JobDataChecks : Prop :=
  ∀ (s : State) (h : Handle) (page : BitVec 16) (flags : Byte) (data : List Byte),
    (1024 < data.length → (reqJobData h page flags data s).1.code = .length) ∧
    (data.length ≤ 1024 → s.named h = none → (reqJobData h page flags data s).1.code = .noJob) ∧
    (∀ e j, data.length ≤ 1024 → Names s h e j → 3 < flags.toNat → (reqJobData h page flags data s).1.code = .field) ∧
    (∀ e j, data.length ≤ 1024 → Names s h e j → flags.toNat ≤ 3 →
      let fits := if flags.getLsbD 0 then j.runs.isSome && (s.spool.filling e).isNone && j.received < j.pageCount
          && page.toNat = j.received
        else (s.spool.filling e).any fun x => x.2.number == page.toNat
      let byteLen := if flags.getLsbD 0 then 0 else ((s.spool.filling e).map fun x => x.2.byteLen).getD 0
      let room := if flags.getLsbD 0 then 0 else ((s.spool.filling e).map fun x => s.spool.room x.2).getD 0
      let blocks := if room < data.length then (data.length - room + 511) / 512 else 0
      (reqJobData h page flags data s).1.code =
        match j.state with
        | .fault => .state
        | .finished _ => .state
        | _ =>
          if fits = false then .sequence
          else if 4194304 < byteLen + data.length then .length
          else if (flags.getLsbD 0 = true ∧ s.spool.freeDescriptors = 0) ∨ s.spool.freeBlocks < blocks then .spoolFull
          else .ok)

/-- JOB DATA that passes its checks (R29 to R33): a segment without END stores its bytes and changes nothing but the
spool; one with END stores them, makes the page COMPLETE and raises pages received by 1, and that is the whole effect
in OPEN, CREDIT_WAIT and HELD, in QUEUED where no press can be bound or woken, in DRAINING, and in PRINTING on a press
that is not BUSY. In STARVED it leaves the job STARVED unless every page of the sheet at the cursor is now COMPLETE;
then the job goes to QUEUED and JOB_STARVED ends (R17), the whole effect where no press can be bound or woken. In
PRINTING on a BUSY press the starve timer runs on, or from 0, while a page of the sheet at the cursor is not COMPLETE
(R50), and stops when all of them are or the cursor is at END; that is all in media wait, and where a tray is LOADED
for the sheet but the press or the supply lets none start; else the sheet starts with a credit (R32, R46, R47). The
reply's layout, the code of the page's state among it, is the model's choice (log entry 8). -/
def Obligations.JobDataStored : Prop :=
  ∀ (s : State) (tag : Byte) (h : Handle) (page : BitVec 16) (begins ends : Bool) (data : List Byte) (e : Entry) (j : Job)
    (d : Nat) (pg : Page), HostFree s → Names s h e j → data.length ≤ 1024 →
    j.state ≠ .fault → (∀ o, j.state ≠ .finished o) →
    (if begins then j.runs.isSome = true ∧ s.spool.filling e = none ∧ j.received < j.pageCount ∧ page.toNat = j.received ∧
        s.spool.freeDescriptors ≠ 0 ∧ d = firstGap 0 s.spool.pool ∧
        pg = { job := e, number := page.toNat, state := .filling, byteLen := 0, first := none, last := none }
      else s.spool.filling e = some (d, pg) ∧ pg.number = page.toNat) →
    pg.byteLen + data.length ≤ 4194304 → blocksNeeded data.length (s.spool.room pg) ≤ s.spool.freeBlocks →
    let sp := s.spool.storeSegment d pg data ends
    let received := if ends then j.received + 1 else j.received
    let stored : State := ({ s with spool := sp } : State).setJob e (some { j with received := received })
    let takes (t : State) := exec (.jobData tag h page (BitVec.ofNat 8 (flagBits [begins, ends])) data) s =
      .next (t.answered tag 0x03 (okWith (le 2 page.toNat ++ le 1 (if ends then 1 else 0)
        ++ le 4 (pg.byteLen + data.length) ++ le 2 received ++ le 2 sp.freeBlocks ++ le 2 sp.freeDescriptors)))
    ((ends = true → j.state = .opened ∨ j.state = .creditWait ∨ j.state = .held ∨ (Still s ∧ ∃ t, j.state = .queued t) ∨
        ∃ p, BoundAlone s p e j ∧ (∀ r t, (s.press p).state ≠ .calibrating r t) ∧
          ((∃ t, j.state = .draining p t) ∨ ∀ m, (s.press p).state ≠ .busy m)) →
      takes stored) ∧
    (Still s → j.state = .starved → ends = true →
      (stored.cursorReady e = false → takes stored) ∧
      (stored.cursorReady e = true → takes (((stored.setJob e (some
        { j with received := received, state := .queued s.time, starve := none })).mark (.job e)).endCondition
          .jobStarved (.job j.serial)))) ∧
    (∀ p c i sh, ends = true → BoundAlone s p e j → j.state = .printing p → j.commit = some c → c.cursor = some i →
      j.sheetOf i = some sh → (s.press p).state = .busy (some sh.media) → s.loaded p sh.media = false →
      Undamaged stored e j i →
      takes (stored.setJob e (some { j with
        received := received
        starve := if ∀ k ∈ sh.pages, stored.pageIs e .complete k = true then none
          else some (j.starve.getD { elapsed := 0, limit := s.ret.schedule.starve * 1000 }) }))) ∧
    (∀ p, ends = true → BoundAlone s p e j → j.state = .printing p → (s.press p).state = .busy none →
      let moved : Job := { j with received := received }
      (∀ c, j.commit = some c → c.cursor = none → takes (stored.setJob e (some { moved with starve := none }))) ∧
      (∀ c i sh, j.commit = some c → c.cursor = some i → j.sheetOf i = some sh → s.loaded p sh.media = true →
        Undamaged stored e j i → (∃ k ∈ sh.pages, stored.pageIs e .complete k = false) →
        takes (stored.setJob e (some { moved with
          starve := some (j.starve.getD { elapsed := 0, limit := s.ret.schedule.starve * 1000 }) }))) ∧
      (SheetReady stored p e j →
        (NoStart s p → takes (stored.setJob e (some { moved with starve := none }))) ∧
        (∀ c i sh d' pg' bytes last, ¬ NoStart s p → (s.press p).line = none → (s.press p).txq = [] →
          j.commit = some c → c.cursor = some i → j.sheetOf i = some sh → sp.page e sh.side1 = some (d', pg') →
          sp.readBlock pg' 0 = .bytes bytes last →
          takes ((stored.modPress p fun x =>
            { x with
              credits := x.credits - 1, seq := x.seq + 1, line := some (.sheet x.seq sh.media sh.sides)
              txq := dataFrames x.seq 1 bytes last, send := .sending 1 bytes.length last
              path := x.path ++ [{ seq := x.seq, job := some (e, i), sides := sh.sides, media := sh.media
                                   state := .sending }] }).setJob e (some { moved with starve := none })))))

/-- A press fits a job when it has learned capabilities, and by them every run's media class is in some tray, LOADED or
EMPTY, a duplex run finds it duplex-capable and a run of a band above 0 colour-capable; the presses of a target are the
press it names, or those whose pool in force it names (R6): the pool table's entry, but for a press with a job bound
whose pool PRESS SET has changed, where the new pool applies once the binding has ended (R79). The checks of JOB COMMIT,
in order (R7). That these checks and the table's readers take the pool in force, and not the entry written, is the
model's choice (log entry 48). -/
def Obligations.CommitChecks : Prop :=
  (∀ (s : State) (p : PressNo) (j : Job),
    (s.fits p j = true ↔ ∃ c, (s.pressRec p).caps = some c ∧ ∀ r ∈ j.runs.getD [],
      (∃ t ∈ c.trays, t.media = r.media) ∧ (r.duplex = true → c.duplex = true) ∧ (0 < r.band → c.colour = true)) ∧
    (∀ t, s.isOf t p = true ↔ t = .press p ∨ ∃ q, t = .pool q ∧ s.poolInForce p = some q) ∧
    ((∀ e i, s.job e = some i → i.state.bound ≠ some p) ∨ (s.press p).heldPool = none →
      s.poolInForce p = (s.pressRec p).pool)) ∧
  ∀ (s : State) (h : Handle) (e : Entry) (j : Job), Names s h e j →
    (reqJobCommit h s).1.code =
      if j.state ≠ .opened then .state
      else if j.runs = none then .state
      else if (match j.target with
          | .press p => (s.pressRec p).caps.isNone
          | .pool q => decide (∀ p, s.poolInForce p ≠ some q)) = true then .target
      else if (∀ p, s.isOf j.target p = true → s.fits p j = false) then .target
      else if j.account ≠ 0 ∧ (s.account j.account).state ≠ .active then .state
      else .ok

/-- A filter matches a job when it is enabled and its four tests hold (R10): the account under the mask, media, colour,
size. Mask 0 matches every account; value 16 under mask F0h matches accounts 16 to 31, and value 0 under FFh account 0
alone. The outcome holds where a matching filter has HOLD, redirects to the pool of the lowest-numbered matching
REDIRECT where a press of that pool fits the job, and is flagged where a matching filter has FLAG or no press of that
pool fits (R11). That the pool of a HALTED press with a job bound is the one in force, and not the one PRESS SET has
written, is the model's choice (R79; log entry 48). At commit the job's target becomes the redirected-to pool, or stays
as it was, and one JOB_FLAGGED is raised for its serial when the outcome is flagged. -/
def Obligations.FilterMatches : Prop :=
  (∀ (f : Filter) (j : Job) (runs : List Run), j.runs = some runs →
    let account := ∀ i, f.mask.getLsbD i = true → (BitVec.ofFin j.account : Byte).getLsbD i = f.account.getLsbD i
    (f.matches j = true ↔
      f.enabled = true ∧ account ∧
      (f.media = 0 ∨ ∃ r ∈ runs, f.media.getLsbD r.media = true) ∧
      (match f.colour with
        | .any => True
        | .colourOnly => ∃ r ∈ runs, 0 < r.band
        | .monoOnly => ∀ r ∈ runs, r.band = 0) ∧
      f.minSheets ≤ j.copies * (runs.map fun r => if r.duplex then (r.pages + 1) / 2 else r.pages).sum) ∧
    (f.mask = 0 → account) ∧
    (f.mask = 0xF0 → f.account = 16 → (account ↔ 16 ≤ j.account.val ∧ j.account.val ≤ 31)) ∧
    (f.mask = 0xFF → f.account = 0 → (account ↔ j.account.val = 0))) ∧
  (∀ (s : State) (j : Job),
    let named (n : Fin 8) (act : FilterAction) := s.ret.filters[n].matches j = true ∧ s.ret.filters[n].action = act
    let redirect (n : Fin 8) (q : PoolNo) := named n (.redirect q) ∧ ∀ k < n, ∀ r, ¬ named k (.redirect r)
    let fits (q : PoolNo) := ∃ p, s.poolInForce p = some q ∧ s.fits p j = true
    let out := s.filterOutcome j
    (out.hold = true ↔ ∃ n, named n .hold) ∧
    (∀ q, out.redirected = some q ↔ (∃ n, redirect n q) ∧ fits q) ∧
    (out.flagged = true ↔ (∃ n, named n .flag) ∨ ∃ n q, redirect n q ∧ ¬ fits q) ∧
    (∀ e, ((s.quoteJob e j).job e).map (fun i => i.target) =
      some (match out.redirected with | some q => .pool q | none => j.target)) ∧
    (∀ e, (s.quoteJob e j).alerts =
      if out.flagged then (s.raise .jobFlagged (.job j.serial) none).alerts else s.alerts))

/-- JOB COMMIT (R8, R12, R135): the quote, its report pending if it is redirected (R22), JOB_FLAGGED if the outcome is
flagged, and then CREDIT_WAIT with its alert when the credit does not cover the estimate or an older job waits; else
the estimate goes on hold and the job to HELD under a hold outcome, or to QUEUED, which is the whole effect where no
press can be bound or woken. The admission test (R135): no job of the account waits, and the available credit covers
the estimate, or, for the house account, its hold total stays within 281,474,976,710,655. The reply's layout, the bytes
of the filter outcome among it, and that a REDIRECT to the pool the job has as its target makes the report pending too,
are the model's choices (log entries 8 and 46). -/
def Obligations.JobCommitted : Prop :=
  (∀ (s : State) (a : AccountNo) (est : Nat),
    s.admits a est = true ↔
      (∀ e j, s.job e = some j → j.account = a → j.state ≠ .creditWait) ∧
      (if a = 0 then (s.account a).holdTotal + est ≤ 281474976710655
        else (est : Int) ≤ ((s.account a).balance + (s.account a).limit) * 1000 - (s.account a).residue
          - (s.account a).holdTotal)) ∧
  (∀ (s : State) (tag : Byte) (h : Handle) (e : Entry) (j : Job), HostFree s → Names s h e j → j.hostHold = false →
    s.commitRefusal j = none →
    let out := s.filterOutcome j
    let est := s.ret.current.estimate (j.runs.getD []) j.copies
    let q : State := { s with commitCounter := s.commitCounter + 1 }
    let q := if out.redirected = none then q else q.mark (.job e)
    let q := if out.flagged then q.raise .jobFlagged (.job j.serial) none else q
    let reply (st : JobState) := okWith (le 1 st.code ++ le 4 (s.commitCounter + 1).toNat
      ++ le 1 s.ret.current.gen.toNat ++ le 6 est ++ out.bytes)
    let onHold := q.modAccount j.account fun a => { a with holdTotal := a.holdTotal + est }
    (s.admits j.account est = false →
      exec (.jobCommit tag h) s =
        .next ((((q.setJob e (some { committed s j with state := .creditWait })).mark (.job e)).raise .creditWait
          (.job j.serial) none).answered tag 0x04 (reply .creditWait))) ∧
    (s.admits j.account est = true → out.hold = true →
      exec (.jobCommit tag h) s =
        .next (((onHold.setJob e (some { committed s j with state := .held, hold := some est })).mark (.job e)).answered
          tag 0x04 (reply .held))) ∧
    (s.admits j.account est = true → out.hold = false → Still s →
      exec (.jobCommit tag h) s =
        .next (((onHold.setJob e (some { committed s j with state := .queued s.time, hold := some est })).mark
          (.job e)).answered tag 0x04 (reply (.queued s.time)))))

/-- JOB HOLD (R13) and JOB RELEASE (R14): in CREDIT_WAIT they set and clear the flags alone; a QUEUED job goes to HELD,
a STARVED one too with JOB_STARVED ended, a PRINTING one drains toward HELD while sheets are in its path, media wait
ending first (log entry 42), and a HELD one goes to QUEUED with both flags cleared; the last four are the whole effect
where no press can be bound or woken. A PRINTING one with an empty path is HELD at once (R19): its JAMMED or HALTED
press stays so, its BUSY press goes to IDLE after it (log entry 47), the whole effect where no other job is live and
nobody waits on demand. The bare replies are log entry 25. The decision of a released job that is eligible (R67). Where
wake demand has nobody to ask: the lowest-numbered idle fitting press without a calibration due flag takes it (R71),
the job PRINTING, the press BUSY, its FAIR pointer at the job's account in FAIR mode (R69); where all idle fitting
presses have a due flag, the lowest of them goes to CALIBRATING with CALIBRATE sent (R74); no sheet starts in either
while the press has no credit. Where no press is IDLE or waits on demand and no other job is QUEUED: the ASLEEP press
the job names (R76), or the lowest-numbered ASLEEP fitting press of its pool when no fitting press of it counts as
awake (R77), enters WAKE_WAIT with origin DEMAND at the tail of its circuit's queue, in which others wait. -/
def Obligations.JobHeldAndReleased : Prop :=
  ∀ (s : State) (tag : Byte) (h : Handle) (e : Entry) (j : Job), HostFree s → Names s h e j →
    (j.state = .creditWait →
      exec (.jobHold tag h) s =
        .next ((s.setJob e (some { j with hostHold := true })).answered tag 0x05 (okWith []))) ∧
    (j.state = .creditWait →
      exec (.jobRelease tag h) s = .next ((s.setJob e (some { j with
        hostHold := false
        commit := j.commit.map fun c => { c with filter := { c.filter with hold := false } } })).answered tag 0x06
          (okWith []))) ∧
    (Still s →
      (∀ t, j.state = .queued t →
        exec (.jobHold tag h) s =
          .next (((s.setJob e (some { j with hostHold := true, state := .held, starve := none })).mark (.job e)).answered
            tag 0x05 (okWith []))) ∧
      (j.state = .starved →
        exec (.jobHold tag h) s =
          .next ((((s.setJob e (some { j with hostHold := true, state := .held, starve := none })).mark
            (.job e)).endCondition .jobStarved (.job j.serial)).answered tag 0x05 (okWith []))) ∧
      (∀ p now, j.state = .printing p → (s.press p).path ≠ [] → (s.press p).state = .busy now →
        exec (.jobHold tag h) s =
          .next ((((s.mediaWaitEnded p now).setJob e (some
            { j with hostHold := true, state := .draining p .held, starve := none })).mark (.job e)).answered tag 0x05
              (okWith []))) ∧
      (∀ p, j.state = .printing p → (s.press p).path = [] →
        (s.press p).state = .jammed ∨ (∃ cause, (s.press p).state = .halted cause) →
        exec (.jobHold tag h) s =
          .next (((s.setJob e (some { j with hostHold := true, state := .held, starve := none })).mark (.job e)).answered
            tag 0x05 (okWith []))) ∧
      (j.state = .held →
        exec (.jobRelease tag h) s = .next (((s.setJob e (some { j with
          hostHold := false, state := .queued s.time, starve := none
          commit := j.commit.map fun c => { c with filter := { c.filter with hold := false } } })).mark (.job e)).answered
            tag 0x06 (okWith [])))) ∧
    (∀ p, j.state = .printing p → (s.press p).path = [] → (s.press p).state = .busy none → (s.press p).cover ≠ some true →
      (∀ d, d ≠ e → s.job d = none) → (∀ r, (s.press r).state ≠ .wakeWait .demand) →
      exec (.jobHold tag h) s =
        .next (((((s.setJob e (some { j with hostHold := true, state := .held, starve := none })).mark (.job e)).modPress p
          fun x => { x with state := .idle false 0 }).mark (.press p)).answered tag 0x05 (okWith []))) ∧
    (∀ p : PressNo, j.state = .held → s.isOf j.target p = true → s.fits p j = true → SheetWaits s p e j →
      let released (st : JobState) := (s.setJob e (some { j with
        hostHold := false, state := st, starve := none
        commit := j.commit.map fun c => { c with filter := { c.filter with hold := false } } })).mark (.job e)
      let takes (t : State) := exec (.jobRelease tag h) s = .next (t.answered tag 0x06 (okWith []))
      let free (q : PressNo) := (s.press q).state.isIdle = true ∧ s.isOf j.target q = true ∧ s.fits q j = true
      let due (q : PressNo) := (s.pressRec q).shortDue = true ∨ (s.pressRec q).longDue = true
      (Awake s → free p → (s.press p).cover ≠ some true → (s.press p).credits = 0 →
        (∀ d i, s.job d = some i → i.state.bound ≠ some p) →
        (¬ due p → (∀ q < p, free q → due q) →
          takes (((released (.printing p)).modPress p fun x =>
            { x with
              state := .busy none, heldPool := none
              fair := if s.ret.schedule.mode = .fair then j.account else x.fair }).mark (.press p))) ∧
        ((∀ q, free q → due q ∧ p ≤ q) → (s.press p).txq = [] → (s.press p).line = none →
          let long := (s.pressRec p).longDue
          let n := if long then 3 else 1
          takes (((released (.queued s.time)).modPress p fun x =>
            { x with
              state := .calibrating { long := long, count := n, started := 0 } 0, resumeMark := false
              line := some (.calibrate long n) }).mark (.press p)))) ∧
      ((∀ q, (s.press q).state.isIdle = false ∧ (s.press q).state ≠ .wakeWait .demand) →
        (∀ d i t, s.job d = some i → i.state ≠ .queued t) → (s.press p).state = .asleep →
        (s.circuit (s.pressRec p).circuit).queue ≠ [] →
        j.target = .press p ∨
          ((∃ k, j.target = .pool k) ∧ ∀ q, s.isOf j.target q = true → s.fits q j = true →
            (s.press q).state = .down ∨ (s.press q).state = .sleeping ∨ ((s.press q).state = .asleep ∧ p ≤ q)) →
        takes ((((released (.queued s.time)).modPress p fun x => { x with state := .wakeWait .demand }).mark
          (.press p)).modCircuit (s.pressRec p).circuit fun c => { c with queue := c.queue ++ [p] })))

/-- JOB CANCEL (R20, R21): a DRAINING job's target becomes CANCELLED; a PRINTING job with sheets in its path drains
toward CANCELLED, media wait ending first (log entry 42); a job that is not bound goes to FINISHED with outcome
CANCELLED, or FAULTED from FAULT, its hold released from its account's hold total and its pages freed. The last two are
the whole effect where no press can be bound or woken and no job waits for the account's credit. A PRINTING job with an
empty path is FINISHED at once (R19, R20): its JAMMED or HALTED press stays so, and its BUSY press goes to IDLE after
it (log entry 47), the whole effect where no other job is live and nobody waits on demand. -/
def Obligations.JobCancelled : Prop :=
  ∀ (s : State) (tag : Byte) (h : Handle) (e : Entry) (j : Job), HostFree s → Names s h e j →
    (∀ p t, j.state = .draining p t →
      exec (.jobCancel tag h) s =
        .next ((s.setJob e (some { j with state := .draining p .cancelled })).answered tag 0x07 (okWith (le 1 6)))) ∧
    (∀ p now, Still s → j.state = .printing p → (s.press p).path ≠ [] → (s.press p).state = .busy now →
      exec (.jobCancel tag h) s =
        .next ((((s.mediaWaitEnded p now).setJob e (some
          { j with state := .draining p .cancelled, starve := none })).mark (.job e)).answered tag 0x07
            (okWith (le 1 6)))) ∧
    (let o : JobOutcome := if j.state = .fault then .faulted else .cancelled
      let freed := { (s.setJob e (some { j with state := .finished o, hold := none, starve := none })) with
        spool := s.spool.freeJob e }
      let released := match j.hold with
        | some n => freed.modAccount j.account fun a => { a with holdTotal := a.holdTotal - n }
        | none => freed
      let takes (t : State) := exec (.jobCancel tag h) s = .next (t.answered tag 0x07 (okWith (le 1 9)))
      (Still s → (∀ o, j.state ≠ .finished o) → (j.hold = none ∨ s.waiting j.account = []) →
        (j.state.bound = none → takes (released.mark (.job e))) ∧
        (∀ p, j.state = .printing p → (s.press p).path = [] →
          (s.press p).state = .jammed ∨ (∃ cause, (s.press p).state = .halted cause) → takes (released.mark (.job e)))) ∧
      (∀ p, j.state = .printing p → (s.press p).path = [] → (s.press p).state = .busy none →
        (s.press p).cover ≠ some true → (∀ d, d ≠ e → s.job d = none) → (∀ r, (s.press r).state ≠ .wakeWait .demand) →
        takes (((released.mark (.job e)).modPress p fun x => { x with state := .idle false 0 }).mark (.press p))))

/-! ## Account and price requests -/

/-- ACCOUNT SET that passes its checks (R142), where no job waits for the credit: UNUSED clears the record's limit,
residue and lifetime counts, an account opened from UNUSED starts with every other field 0, and a limit is stored at
10,000,000 at most.
ACCOUNT ADJUST that passes its checks (R143), where no job waits for the credit or the amount is not positive: the
balance changes by the signed amount and nothing else does. The layout of the replies, the one-byte count of admitted
jobs among it, is the model's choice (log entry 8). -/
def Obligations.AccountsChanged : Prop :=
  (∀ (s : State) (tag : Byte) (a : AccountNo) (st : AccountState) (limit : BitVec 32), HostFree s →
    let x := s.account a
    let lim := min limit.toNat 10000000
    (a = 0 → st = .active) →
    (st = .unused → x.balance = 0 ∧ ∀ e j, s.job e = some j → j.account ≠ a) →
    (a ≠ 0 → st ≠ .unused → 0 ≤ (x.balance + lim) * 1000 - x.residue - x.holdTotal) →
    s.waiting a = [] →
    let y : Account :=
      if st = .unused then { x with state := .unused, limit := 0, residue := 0, lifeSheets := 0, lifeCharged := 0 }
      else if x.state = .unused then { Account.zero st with limit := lim }
      else { x with state := st, limit := lim }
    exec (.accountSet tag a.val (BitVec.ofNat 8 st.code) limit) s =
      .next ((s.modAccount a fun _ => y).answered tag 0x10
        (okWith (le 1 st.code ++ leInt 4 y.balance ++ le 4 y.limit ++ le 6 y.residue ++ le 6 y.holdTotal
          ++ le 4 y.lifeSheets ++ le 6 y.lifeCharged ++ leInt 8 y.available ++ le 1 0)))) ∧
  (∀ (s : State) (tag : Byte) (a : AccountNo) (amount : BitVec 32), HostFree s →
    let x := s.account a
    let y : Account := { x with balance := x.balance + amount.toInt }
    x.state ≠ .unused → -2000000000 ≤ y.balance → y.balance ≤ 2000000000 →
    (a ≠ 0 → amount.toInt < 0 → 0 ≤ y.available) → (s.waiting a = [] ∨ amount.toInt ≤ 0) →
    exec (.accountAdjust tag a.val amount) s =
      .next ((s.modAccount a fun _ => y).answered tag 0x11
        (okWith (leInt 4 y.balance ++ le 6 y.residue ++ le 6 y.holdTotal ++ leInt 8 y.available ++ le 1 0))))

/-- A payment that covers the only waiting job of its account admits it (R12, R136): its estimate goes on hold, a hold
flag takes it to HELD, its CREDIT_WAIT condition ends and the reply counts it. A payment that covers two waiting jobs
admits the older first (R136), and takes its decision before the younger is examined (R67; log entry 5): without a hold
flag and eligible, it is QUEUED and then bound to the lowest idle fitting press without a due flag (R71), its reports
pending ahead of the younger's, which a hold flag takes to HELD; the whole effect where wake demand has nobody to ask
and the press no credit. The reply's layout, the count's one byte among it, is the model's choice (log entry 8). -/
def Obligations.PaymentAdmits : Prop :=
  ∀ (s : State) (tag : Byte) (a : AccountNo) (amount : BitVec 32) (e : Entry) (j : Job) (c : Commit), HostFree s →
    let x := s.account a
    let y : Account := { x with balance := x.balance + amount.toInt }
    let z : Account := { y with holdTotal := y.holdTotal + c.estimate }
    a ≠ 0 → x.state ≠ .unused → 0 < amount.toInt → y.balance ≤ 2000000000 → -2000000000 ≤ y.balance →
    s.job e = some j → j.commit = some c →
    let reply (x : Account) (n : Nat) := okWith (leInt 4 x.balance ++ le 6 x.residue ++ le 6 x.holdTotal
      ++ leInt 8 x.available ++ le 1 n)
    (s.waiting a = [e] → (j.hostHold = true ∨ c.filter.hold = true) → (c.estimate : Int) ≤ y.available →
      exec (.accountAdjust tag a.val amount) s =
        .next (((((s.modAccount a fun _ => z).setJob e (some { j with hold := some c.estimate, state := .held })).mark
          (.job e)).endCondition .creditWait (.job j.serial)).answered tag 0x11 (reply z 1))) ∧
    (∀ (p : PressNo) (d : Entry) (i : Job) (k : Commit), s.waiting a = [e, d] ∨ s.waiting a = [d, e] →
      s.age i < s.age j →
      s.job d = some i → i.commit = some k → (i.hostHold = true ∨ k.filter.hold = true) → j.hostHold = false →
      c.filter.hold = false → ((c.estimate + k.estimate : Nat) : Int) ≤ y.available →
      let free (q : PressNo) := (s.press q).state.isIdle = true ∧ s.isOf j.target q = true ∧ s.fits q j = true
      let due (q : PressNo) := (s.pressRec q).shortDue = true ∨ (s.pressRec q).longDue = true
      Awake s → SheetWaits s p e j → free p → ¬ due p → (∀ q < p, free q → due q) → (s.press p).cover ≠ some true →
      (s.press p).credits = 0 → (∀ d i, s.job d = some i → i.state.bound ≠ some p) →
      let w : Account := { z with holdTotal := z.holdTotal + k.estimate }
      let older := (((s.modAccount a fun _ => w).setJob e (some
        { j with hold := some c.estimate, state := .printing p, starve := none })).mark (.job e)).endCondition
          .creditWait (.job j.serial)
      let bound := (older.modPress p fun x =>
        { x with
          state := .busy none, heldPool := none
          fair := if s.ret.schedule.mode = .fair then j.account else x.fair }).mark (.press p)
      exec (.accountAdjust tag a.val amount) s =
        .next ((((bound.setJob d (some { i with hold := some k.estimate, state := .held })).mark (.job d)).endCondition
          .creditWait (.job i.serial)).answered tag 0x11 (reply w 2)))

/-- PRICE WRITE while no live job is quoted under OTHER (R121, R122): OTHER keeps its generation, the group named
takes its values, each clamped, every other item stands (COPY takes CURRENT's contents), and nothing else changes.
That the values come as a list (log entry 9) and the reply's layout, fixed arrays without a count (log entry 8), are
the model's choices. -/
def Obligations.PriceWritten : Prop :=
  ∀ (s : State) (tag first : Byte), HostFree s → (∀ e j, s.job e = some j → j.quotedUnder s.ret.other.gen = false) →
    let o := s.ret.other
    let wrote (g f : Byte) (values : List Nat) (t : PriceTable) : Prop :=
      exec (.priceWrite tag g f values) s =
        .next (({ s with ret := { s.ret with other := t } } : State).answered tag 0x18
          (okWith (le 1 o.gen.toNat ++ t.bytes)))
    (∀ values : List Nat, values ≠ [] → first.toNat + values.length ≤ 16 →
      ∃ base : Vector Nat 16, wrote 0 first values { o with base := base } ∧
        ∀ i : Fin 16, base[i] = if first.toNat ≤ i.val ∧ i.val < first.toNat + values.length
          then min (values.getD (i.val - first.toNat) 0) 999999 else o.base[i]) ∧
    (∀ values : List Nat, values ≠ [] → first.toNat + values.length ≤ 4 →
      ∃ cf : Vector Nat 4, wrote 1 first values { o with cf := cf } ∧
        ∀ i : Fin 4, cf[i] = if first.toNat ≤ i.val ∧ i.val < first.toNat + values.length
          then min (values.getD (i.val - first.toNat) 0) 1023 else o.cf[i]) ∧
    (∀ v, wrote 2 first [v] { o with df := min v 256 }) ∧
    (∀ t1 t2 a b c, wrote 3 first [t1, t2, a, b, c]
      { o with t1 := min t1 2088960, t2 := min t2 2088960, tf0 := min a 256, tf1 := min b 256, tf2 := min c 256 }) ∧
    wrote 4 first [] { s.ret.current with gen := o.gen }

/-- PRICE COMMIT (R123): refused STATE while a live job is quoted under OTHER; else OTHER enters service with T2
clamped up to T1 and the generation after CURRENT's, the roles are exchanged, the reply counts the jobs quoted under
each table, and nothing else changes. The reply's layout, the counts' one byte among it, is the model's choice (log
entry 8). -/
def Obligations.PriceCommitted : Prop :=
  ∀ (s : State) (tag : Byte), HostFree s →
    let o := s.ret.other
    let c := { o with t2 := max o.t1 o.t2, gen := s.ret.current.gen + 1 }
    ((∃ e j, s.job e = some j ∧ j.quotedUnder o.gen = true) →
      exec (.priceCommit tag) s = .next (s.answered tag 0x19 { code := .state, figures := [] })) ∧
    ((∀ e j, s.job e = some j → j.quotedUnder o.gen = false) →
      let quoted (gen : BitVec 8) := (allEntries.filter fun e => (s.job e).any fun j => j.quotedUnder gen).length
      exec (.priceCommit tag) s =
        .next (({ s with ret := { s.ret with current := c, other := s.ret.current } } : State).answered tag 0x19
          (okWith (le 1 c.gen.toNat ++ c.bytes ++ le 1 s.ret.current.gen.toNat ++ le 1 (quoted c.gen)
            ++ le 1 (quoted s.ret.current.gen)))))

/-! ## Press requests -/

/-- PRESS SET (R64, R79, R105, R109 to R112) stores the six settings, each clamped, and sets the SHORT flag where the
sheet counter has reached the new interval. On a press that neither idles nor waits for a wake, of an unchanged pool or
with no work for the room, nothing else changes. A change of the pool or the circuit of a BUSY, JAMMED or CALIBRATING
press is refused STATE. A HALTED press with a job bound takes a new pool into the pool table, and its present pool stays
in force while the job is bound, which is the whole effect where no press can be bound or woken; with no job bound the
pool table's entry is the pool in force. An IDLE press, where there is no work: a new timeout that its idle timer has
reached sets SLEEP_PENDING, and with SLEEP_PENDING a new sleep point that is reached sends it to SLEEPING (R109, R110);
under a new pool it takes its best candidate of that pool at once where wake demand has nobody to ask (R66, R79; with no
due flag and no credit). A press that waits for a wake asked for by the host moves to the tail of a new circuit's queue,
where it is granted its wake if nobody waits there and the limits allow it (R105, R106); the whole effect where there is
no work and the queue it left has no wake to grant. One that waits on demand is withdrawn to ASLEEP by a change of pool
when no job is live (R78, R79). That the pool table's entry is written and read out at once is the model's choice (log
entry 48), the reply's repeated press number too (log entry 8). -/
def Obligations.PressSettingsStored : Prop :=
  ∀ (s : State) (tag : Byte) (p : PressNo) (pool : Option PoolNo) (c : CircuitNo) (f : PressSpec), HostFree s →
    s.restarting p = false → f.pool = BitVec.ofNat 8 (poolByte pool) → f.circuit.toNat = c.val →
    (((s.press p).state = .jammed ∨ (∃ m, (s.press p).state = .busy m) ∨ ∃ r t, (s.press p).state = .calibrating r t) →
      (s.pressRec p).pool ≠ pool ∨ (s.pressRec p).circuit ≠ c →
      exec (.pressSet tag (BitVec.ofNat 8 p.val) f) s =
        .next (s.answered tag 0x20 { code := .state, figures := [] })) ∧
    (let n := f.shortInterval.toNat
    let short := if n = 0 then 0 else if n < 250 then 250 else if 50000 < n then 50000 else n
    let r : PressRec := { s.pressRec p with
      pool := pool, circuit := c, idleTimeout := min f.idleTimeout.toNat 240, minAwake := min f.minAwake.toNat 60
      shortInterval := short, longThreshold := min f.longThreshold.toNat 24
      shortDue := (s.pressRec p).shortDue || (short != 0 && decide (short ≤ (s.pressRec p).sheetCount)) }
    let takes (t : State) := exec (.pressSet tag (BitVec.ofNat 8 p.val) f) s =
      .next (t.answered tag 0x20 (okWith (le 1 p.val ++ r.settingBytes)))
    let stored := s.modRec p fun _ => r
    ((s.press p).state.isIdle = false → (∀ o, (s.press p).state ≠ .wakeWait o) →
      ((s.pressRec p).pool = pool ∨ NoWork s) →
      ((s.press p).state.inUse = true → (s.pressRec p).pool = pool ∧ (s.pressRec p).circuit = c) → takes stored) ∧
    (∀ cause e j, Still s → (s.press p).state = .halted cause → BoundAlone s p e j → (s.pressRec p).pool ≠ pool →
      let t := stored.modPress p fun x => { x with heldPool := some (s.poolInForce p) }
      takes t ∧ t.poolInForce p = s.poolInForce p) ∧
    ((∀ e j, s.job e = some j → j.state.bound ≠ some p) → s.poolInForce p = (s.pressRec p).pool) ∧
    (∀ pending n since, (s.press p).state = .idle pending n → (s.press p).awakeSince = some since →
      let due := pending = false ∧ r.idleTimeout ≠ 0 ∧ r.idleTimeout * 60000 ≤ n
      let reached := r.minAwake * 60 ≤ (s.time - since).toNat
      (NoWork s →
        (pending = false → ¬ due → takes stored) ∧
        (pending = true → ¬ reached → takes stored) ∧
        (due → ¬ reached → takes ((stored.modPress p fun x => { x with state := .idle true 0 }).mark (.press p))) ∧
        (pending = true ∨ due → reached → (s.press p).txq = [] → (s.press p).line = none →
          takes ((stored.modPress p fun x => { x with state := .sleeping, line := some .sleep }).mark (.press p)))) ∧
      (∀ e j, (s.pressRec p).pool ≠ pool → Awake s → ¬ due → r.shortDue = false → r.longDue = false →
        (s.press p).cover ≠ some true → (s.press p).credits = 0 → stored.bestCandidate p = some e → s.job e = some j →
        SheetWaits s p e j → (∀ d i, s.job d = some i → i.state.bound ≠ some p) →
        takes ((((stored.setJob e (some { j with state := .printing p, starve := none })).mark (.job e)).modPress p
          fun x =>
            { x with
              state := .busy none, heldPool := none
              fair := if s.ret.schedule.mode = .fair then j.account else x.fair }).mark (.press p)))) ∧
    (let was := (s.pressRec p).circuit
    let gone (k : CircuitNo) (t : State) := t.modCircuit k fun x => { x with queue := x.queue.filter fun q => q != p }
    let opens (k : CircuitNo) := GrantOpen (s.settings k) (s.circuit k).ring s.time
    let quiet (k : CircuitNo) := (s.circuit k).queue.head? ≠ some p ∨ ¬ opens k ∨
      ((s.circuit k).queue.filter fun q => q != p) = []
    (NoWork s → (s.press p).state = .wakeWait .host →
      (was = c → takes stored) ∧
      (was ≠ c → quiet was →
        let joined := (gone was stored).modCircuit c fun x => { x with queue := x.queue ++ [p] }
        ((s.circuit c).queue ≠ [] ∨ ¬ opens c → takes joined) ∧
        ((s.circuit c).queue = [] → opens c → (s.press p).txq = [] → (s.press p).line = none →
          takes (joined.wakeGranted c p)))) ∧
    ((∀ e, s.job e = none) → (∀ q, (s.press q).state = .wakeWait .demand ↔ q = p) → was = c →
      (s.pressRec p).pool ≠ pool → quiet c → (∀ k, k ≠ c → (s.circuit k).queue.contains p = false) →
      takes (gone c ((stored.modPress p fun x => { x with state := .asleep }).mark (.press p))))))

/-- PRESS WAKE (R108): a waiting press's wake gains origin HOST; an IDLE press keeps awake, its idle timer from 0; an
ASLEEP press enters WAKE_WAIT with origin HOST at the tail of its circuit's queue, which is the whole effect when
others wait there and there is no work for the room.
PRESS SLEEP (R108, R110): an ASLEEP or SLEEPING press stays so; an IDLE press gains SLEEP_PENDING, and before its sleep
point that is the whole effect where there is no work; from the sleep point on it goes to SLEEPING with SLEEP sent; a
press that waits with origin HOST, not first in its circuit's queue, is withdrawn to ASLEEP. That both replies carry no
figure is the model's choice (log entry 25). -/
def Obligations.PressWokenAndSentToSleep : Prop :=
  (∀ (s : State) (tag : Byte) (p : PressNo), HostFree s → s.restarting p = false →
    let ok (t : State) := exec (.pressWake tag (BitVec.ofNat 8 p.val)) s = .next (t.answered tag 0x22 (okWith []))
    (∀ o, (s.press p).state = .wakeWait o → ok (s.modPress p fun x => { x with state := .wakeWait .host })) ∧
    (∀ b t, (s.press p).state = .idle b t →
      ok (let t := s.modPress p fun x => { x with state := .idle false 0 }
        if b then t.mark (.press p) else t)) ∧
    (NoWork s → (s.press p).state = .asleep → (s.circuit (s.pressRec p).circuit).queue ≠ [] →
      ok (((s.modPress p fun x => { x with state := .wakeWait .host }).mark (.press p)).modCircuit (s.pressRec p).circuit
        fun c => { c with queue := c.queue ++ [p] }))) ∧
  (∀ (s : State) (tag : Byte) (p : PressNo), HostFree s → s.restarting p = false →
    let ok (t : State) := exec (.pressSleep tag (BitVec.ofNat 8 p.val)) s = .next (t.answered tag 0x23 (okWith []))
    ((s.press p).state = .asleep ∨ (s.press p).state = .sleeping → ok s) ∧
    (∀ t since, (s.press p).state = .idle false t → (s.press p).awakeSince = some since →
      (s.time - since).toNat < (s.pressRec p).minAwake * 60 →
      ok ((s.modPress p fun x => { x with state := .idle true 0 }).mark (.press p))) ∧
    (∀ b t since, NoWork s → (s.press p).state = .idle b t → (s.press p).awakeSince = some since →
      (s.pressRec p).minAwake * 60 ≤ (s.time - since).toNat → (s.press p).txq = [] → (s.press p).line = none →
      ok ((s.modPress p fun x => { x with state := .sleeping, line := some .sleep }).mark (.press p))) ∧
    (∀ first rest, NoWork s → (s.press p).state = .wakeWait .host → first ≠ p →
      (∀ c, (s.circuit c).queue.contains p = true → c = (s.pressRec p).circuit) →
      (s.circuit (s.pressRec p).circuit).queue = first :: rest → p ∈ rest →
      ok (((s.modPress p fun x => { x with state := .asleep }).mark (.press p)).modCircuit (s.pressRec p).circuit
        fun c => { c with queue := c.queue.filter (· != p) })))

/-- PRESS CALIBRATE (R113) sets the due flag of its kind and, on a press that is not IDLE, nothing else; an IDLE press
with its cover closed goes to CALIBRATING with a run of its kind, 1 sheet SHORT or 3 sheets LONG, and CALIBRATE sent
(R98, R114), which is the whole effect where there is no work and no credit. With a credit, the supply NORMAL and a
tray LOADED the run's first pattern sheet starts behind CALIBRATE: one side, the class of the lowest-indexed LOADED
tray, the first 512 of its 2,048 bytes framed (R61, R114; the bytes are free values, log entry 11). That the reply
carries no figure is the model's choice (log entry 25). -/
def Obligations.PressCalibrates : Prop :=
  ∀ (s : State) (tag : Byte) (p : PressNo) (long : Bool), HostFree s → s.restarting p = false →
    let due := s.modRec p fun r =>
      { r with longDue := r.longDue || long, shortDue := r.shortDue || !long }
    let ok (t : State) := exec (.pressCalibrate tag (BitVec.ofNat 8 p.val) (BitVec.ofNat 8 long.toNat)) s =
      .next (t.answered tag 0x24 (okWith []))
    ((s.press p).state.isIdle = false → ok due) ∧
    (∀ b t, NoWork s → (s.press p).state = .idle b t → (s.press p).cover ≠ some true → (s.press p).txq = [] →
      (s.press p).line = none →
      let run := (s.pressRec p).longDue || long
      let n := if run then 3 else 1
      ((s.press p).credits = 0 →
        ok ((due.modPress p fun x =>
          { x with state := .calibrating { long := run, count := n, started := 0 } 0, resumeMark := false
                   line := some (.calibrate run n) }).mark (.press p))) ∧
      (∀ c tray, (s.pressRec p).caps = some c → c.trays.find? (fun t => t.loaded) = some tray → s.low = false →
        (s.press p).path = [] → (s.press p).send = .idle → 0 < (s.press p).credits → 1 ≤ c.depth →
        let bytes := (List.range 512).map fun i => Config.patternByte run 1 1 i
        ok ((due.modPress p fun x =>
          { x with
            state := .calibrating { long := run, count := n, started := 1 } 0, resumeMark := false
            line := some (.calibrate run n), seq := x.seq + 1
            txq := [.sheet x.seq tray.media 1, .data x.seq 1 (bytes.take 256), .data x.seq 1 (bytes.drop 256)]
            send := .sending 1 512 false
            path := [{ seq := x.seq, job := none, sides := 1, media := tray.media, state := .sending }] }).mark
              (.press p))))

/-- PRESS RESUME (R99) takes a press halted by a failed wake or calibration, its cover not OPEN, to IDLE, its idle
timer from 0, and is refused STATE in every other state. PRESS RESTART (R90) on a DOWN press with no restart in
progress begins the signal and the window, its receiver hunting (R80), with the sequence at 0 (the model's choice, log
entry 21). On a linked press it is a link down first, without LINK_DOWN (R89): DOWN, nothing to send, no credits, no
cover, COVER_OPEN and JAM ended, the whole effect on a press in no queue, not BUSY, with an empty path and no work; of
a press with a PRINTING job, where no press can be bound or woken, the path is lost, media wait ends and the job is
QUEUED from now (R57, R60). The PRESS REPORT pending ahead of those alerts (log entry 42), the frame on the line kept
to its end (log entry 20) and the replies that carry no figure (log entry 25) are the model's choices. While a restart
is in progress every request that names the press is refused BUSY and changes nothing. -/
def Obligations.PressResumesAndRestarts : Prop :=
  ∀ (s : State) (tag : Byte) (p : PressNo), HostFree s →
    (s.restarting p = false →
      (NoWork s → (s.press p).cover ≠ some true →
        (s.press p).state = .halted .wakeFail ∨ (s.press p).state = .halted .calFail →
        exec (.pressResume tag (BitVec.ofNat 8 p.val)) s =
          .next (((s.modPress p fun x => { x with state := .idle false 0 }).mark (.press p)).answered tag 0x25
            (okWith []))) ∧
      ((s.press p).state ≠ .halted .wakeFail → (s.press p).state ≠ .halted .calFail →
        exec (.pressResume tag (BitVec.ofNat 8 p.val)) s =
          .next (s.answered tag 0x25 { code := .state, figures := [] })) ∧
      ((s.press p).state = .down →
        exec (.pressRestart tag (BitVec.ofNat 8 p.val)) s =
          .next (((s.modPress p fun x =>
            { x with seq := 0, rx := none, restart := some { signal := true, elapsed := 0, atStart := false } }).mark
              (.press p)).answered tag 0x26 (okWith []))) ∧
      ((s.press p).state ≠ .down → (∀ c, (s.circuit c).queue.contains p = false) →
        let ends (t : State) := exec (.pressRestart tag (BitVec.ofNat 8 p.val)) s =
          .next (((t.endCondition .coverOpen (.press p)).endCondition .jam (.press p)).answered tag 0x26 (okWith []))
        (NoWork s → (∀ m, (s.press p).state ≠ .busy m) → (s.press p).path = [] →
          ends ((s.modPress p restarted).mark (.press p))) ∧
        (∀ e j, Still s → BoundAlone s p e j → j.state = .printing p → Rewinds s p e j →
          let t := (((s.modPress p restarted).setJob e (some
            { rewound (s.press p).path j with state := .queued s.time, starve := none })).mark (.job e)).mark (.press p)
          ends (match (s.press p).state with
            | .busy (some _) => t.endCondition .mediaOut (.press p)
            | _ => t)))) ∧
    (s.restarting p = true →
      (∀ c q, requestRow c = some q → q.req ∈ [.pressRead (BitVec.ofNat 8 p.val), .pressWake (BitVec.ofNat 8 p.val),
          .pressSleep (BitVec.ofNat 8 p.val), .pressCalibrate (BitVec.ofNat 8 p.val) 0,
          .pressCalibrate (BitVec.ofNat 8 p.val) 1, .pressResume (BitVec.ofNat 8 p.val),
          .pressRestart (BitVec.ofNat 8 p.val), .meterRead (BitVec.ofNat 8 p.val) 0,
          .meterRead (BitVec.ofNat 8 p.val) 1] →
        exec c s = .next (s.answered q.tag q.kind { code := .busy, figures := [] })) ∧
      (∀ f : PressSpec, f.pool.toNat < 4 ∨ f.pool = 0xFF → f.circuit.toNat < 4 →
        exec (.pressSet tag (BitVec.ofNat 8 p.val) f) s =
          .next (s.answered tag 0x20 { code := .busy, figures := [] })))

/-! ## Requests about the whole part -/

/-- CIRCUIT SET (R103) stores the settings, each clamped, W 1 to 4, Tw 0 or 10 to 300, Ts 0 to 60, and makes the grant
check by them (R104, R106). With an empty wake queue, or where the window or the spacing is closed, nothing else
changes; else, where there is no work, the head of the queue is granted its wake, alone where a spacing is set or nobody
waits behind it, and every press that waits is granted where neither window nor spacing is set. SCHEDULE SET (R63, R50,
R156, R157, R174) stores the six settings, each clamped. With the sense past no threshold of the new selection, every
alert that is due under the new interval (ACTIVE_UNACKED, below level 15, one interval since its last change) rises one
level from now, its report pending, and nothing else changes. Where none is due, a NORMAL supply below the new falling
threshold becomes LOW with SUPPLY_LOW raised, and a LOW one above the new rising threshold becomes NORMAL, SUPPLY_LOW
ending, which is the whole effect where no press has a job bound or calibrates. The layout of the reply of CIRCUIT SET
is the model's choice (log entry 8). -/
def Obligations.CircuitAndScheduleStored : Prop :=
  (∀ (s : State) (tag w ts : Byte) (c : CircuitNo) (tw : BitVec 16), HostFree s →
    let x : CircuitSettings :=
      { w := if w.toNat < 1 then 1 else if 4 < w.toNat then 4 else w.toNat
        tw := if tw.toNat = 0 then 0 else if tw.toNat < 10 then 10 else if 300 < tw.toNat then 300 else tw.toNat
        ts := if 60 < ts.toNat then 60 else ts.toNat }
    let stored : State := { s with ret := { s.ret with circuits := s.ret.circuits.set c x } }
    let takes (t : State) := exec (.circuitSet tag (BitVec.ofNat 8 c.val) w tw ts) s =
      .next (t.answered tag 0x28 (okWith (le 1 x.w ++ le 2 x.tw ++ le 1 x.ts
        ++ counted ((t.circuit c).queue.map fun p => le 1 p.val)
        ++ counted ((t.circuit c).ring.map fun t => le 4 t.toNat))))
    let ready (p : PressNo) := (s.press p).state = .wakeWait .host ∧ (s.press p).txq = [] ∧ (s.press p).line = none
    ((s.circuit c).queue = [] ∨ ¬ GrantOpen x (s.circuit c).ring s.time → takes stored) ∧
    (NoWork s → GrantOpen x (s.circuit c).ring s.time →
      (∀ p rest, (s.circuit c).queue = p :: rest → x.ts ≠ 0 ∨ rest = [] → ready p → takes (stored.wakeGranted c p)) ∧
      (x.tw = 0 → x.ts = 0 → (s.circuit c).queue.length ≤ 12 → (s.circuit c).queue.Nodup →
        (∀ p ∈ (s.circuit c).queue, ready p) →
        takes ((s.circuit c).queue.foldl (fun t p => t.wakeGranted c p) stored)))) ∧
  (∀ (s : State) (tag : Byte) (m : Mode) (f : ScheduleSpec), HostFree s → f.mode = BitVec.ofNat 8 m.code →
    let n := f.escalation.toNat
    let sel := min f.threshold.toNat 7
    let x : Schedule :=
      { mode := m, ageStep := max 1 (min f.ageStep.toNat 60), starve := max 5 (min f.starve.toNat 600)
        escalation := if n = 0 then 0 else max 10 (min n 900), buzzer := max 1 (min f.buzzer.toNat 16)
        threshold := sel }
    let stored : State := { s with ret := { s.ret with schedule := x } }
    let takes (t : State) := exec (.scheduleSet tag f) s = .next (t.answered tag 0x29 (okWith (le 1 m.code
      ++ le 1 x.ageStep ++ le 2 x.starve ++ le 2 x.escalation ++ le 1 x.buzzer ++ le 1 x.threshold)))
    let due (a : Alert) := x.escalation ≠ 0 ∧ a.state = .activeUnacked ∧ a.level < 15 ∧
      x.escalation ≤ (s.time - a.changedAt).toNat
    ((if s.low then s.sense ≤ 2990 + 40 * sel else 2920 + 40 * sel ≤ s.sense) →
      ((∀ k a, s.alert k = some a → ¬ due a) → takes stored) ∧
      ∃ (alerts : Vector (Option Alert) 32) (reports : List Report),
        takes { stored with alerts := alerts, reports := reports } ∧
        ∀ k : AlertNo, (s.alert k = none → alerts[k] = none) ∧
          ∀ a, s.alert k = some a →
            (¬ due a → alerts[k] = some a) ∧
            (due a → alerts[k] = some { a with level := a.level + 1, changedAt := s.time } ∧
              ∃ r ∈ reports, r.sameSubject (.alert k .escalated false) = true)) ∧
    ((∀ k a, s.alert k = some a → ¬ due a) →
      (s.low = false → s.sense < 2920 + 40 * sel →
        takes (({ stored with low := true } : State).raise .supplyLow .part none)) ∧
      (s.low = true → 2990 + 40 * sel < s.sense →
        (∀ p, s.boundJob p = none ∧ ∀ r t, (s.press p).state ≠ .calibrating r t) →
        takes (({ stored with low := false } : State).endCondition .supplyLow .part))))

/-- FILTER SET (R9) stores one entry, its minimum at most 2,088,960, and ALERT LEVELS (R149) twelve levels, each at
most 15; neither changes anything else, and no live job or alert is judged again. The layouts, the echo without its
number and the thirteen levels without a count, and that the pool byte is not looked at without REDIRECT, are the
model's choices (log entries 8, 9 and 52). -/
def Obligations.FilterAndLevelsStored : Prop :=
  ∀ (s : State) (tag : Byte), HostFree s →
    (∀ (n : Fin 8) (f : FilterSpec) (c : ColourCond) (act : FilterAction), f.enabled.toNat ≤ 1 →
      f.colour = BitVec.ofNat 8 c.code →
      (match act with
        | .hold => f.action = 0
        | .flag => f.action = 1
        | .redirect q => f.action = 2 ∧ f.pool = BitVec.ofNat 8 q.val) →
      let x : Filter :=
        { enabled := f.enabled == 1, account := f.account, mask := f.mask, media := f.media, colour := c
          minSheets := min f.minSheets.toNat 2088960, action := act }
      exec (.filterSet tag (BitVec.ofNat 8 n.val) f) s =
        .next (({ s with ret := { s.ret with filters := s.ret.filters.set n x } } : State).answered tag 0x2A
          (okWith x.bytes))) ∧
    (∀ values : List Byte, values.length = 12 →
      ∃ levels : Vector Nat 12, (∀ i : Fin 12, levels[i] = min (values.getD i.val 0).toNat 15) ∧
        exec (.alertLevels tag values) s =
          .next (({ s with ret := { s.ret with levels := levels } } : State).answered tag 0x30
            (okWith (values.map (fun v => BitVec.ofNat 8 (min v.toNat 15)) ++ [14]))))

/-- ALERT ACK of an entry that holds the kind and source carried (R153, R154): an ACTIVE_UNACKED condition becomes
ACTIVE_ACKED, changed at now; an ACTIVE_UNACKED event or a CLEARED_UNACKED entry is removed; an ACTIVE_ACKED one stays.
An entry that is free or holds another kind or source, a number beyond 31, and an undefined kind or source type code
are refused FIELD, the undefined code with ALL too (log entry 31); the source value of PART is 0 (log entry 49). ALL
does the same with every entry, and its reply counts those that were unacknowledged; nothing but the alert table and
the report queue changes. The replies' layout, the count's one byte among it, is the model's choice (log entry 8). -/
def Obligations.AlertAcknowledged : Prop :=
  ∀ (s : State) (tag kind : Byte) (n : AlertNo), HostFree s →
    (∀ (a : Alert) (sourceType : Byte) (source : BitVec 32), s.alert n = some a →
      a.source.bytes = sourceType :: le 4 source.toNat →
      exec (.alertAck tag (BitVec.ofNat 8 n.val) (BitVec.ofNat 8 a.kind.code) sourceType source) s = .next (
        match a.state with
        | .activeUnacked =>
          if a.kind.isCondition then
            (s.setAlert n (some { a with state := .activeAcked, changedAt := s.time }) .acked false).answered tag 0x32
              (okWith [1, 1, 1])
          else (s.setAlert n none .removed false).answered tag 0x32 (okWith [0, 0, 1])
        | .clearedUnacked => (s.setAlert n none .removed false).answered tag 0x32 (okWith [0, 0, 1])
        | .activeAcked => s.answered tag 0x32 (okWith [1, 1, 0]))) ∧
    (∀ (sourceType : Byte) (source : BitVec 32),
      (∀ a, s.alert n = some a → a.kind.code ≠ kind.toNat ∨ a.source.bytes ≠ sourceType :: le 4 source.toNat) →
      exec (.alertAck tag (BitVec.ofNat 8 n.val) kind sourceType source) s =
        .next (s.answered tag 0x32 { code := .field, figures := [] })) ∧
    (∀ (entry sourceType : Byte) (source : BitVec 32),
      (31 < entry.toNat ∧ entry ≠ 0xFF) ∨ 12 < kind.toNat ∨ 2 < sourceType.toNat →
      exec (.alertAck tag entry kind sourceType source) s =
        .next (s.answered tag 0x32 { code := .field, figures := [] })) ∧
    (∀ (sourceType : Byte) (source : BitVec 32), kind.toNat ≤ 12 → sourceType.toNat ≤ 2 →
      ∃ (alerts : Vector (Option Alert) 32) (reports : List Report),
        exec (.alertAck tag 0xFF kind sourceType source) s =
          .next (({ s with alerts := alerts, reports := reports } : State).answered tag 0x32 (okWith (
            le 1 ((List.finRange 32).filter fun m => (s.alert m).any fun a => a.state != .activeAcked).length))) ∧
        ∀ m : AlertNo, alerts[m] = (s.alert m).bind fun a =>
          match a.state with
          | .activeUnacked =>
            if a.kind.isCondition then some { a with state := .activeAcked, changedAt := s.time } else none
          | .clearedUnacked => none
          | .activeAcked => some a)

/-- METER READ with its clear flag reports the 16 rows of the press as they stood and sets them to 0 (R146); STATUS
with its clear flag reports the sticky fault set as it stood and empties it (R171, R180). Nothing else changes. The
layouts, rows without a count and the one-byte counts, are the model's choices (log entry 8). -/
def Obligations.ClearingReads : Prop :=
  ∀ (s : State) (tag : Byte), HostFree s →
    (∀ p : PressNo, s.restarting p = false →
      exec (.meterRead tag (BitVec.ofNat 8 p.val) 1) s =
        .next (({ s with ret := { s.ret with
          meters := s.ret.meters.set p (Vector.replicate 16
            { sheets := 0, mono := 0, colour := 0, service := 0, jams := 0 }) } } : State).answered tag 0x38
          (okWith ((List.finRange 16).flatMap fun m => (s.meter p m.val).bytes)))) ∧
    exec (.status tag 1) s =
      .next (({ s with ret := { s.ret with sticky := { spoolCheck := false, pressProtocol := false } } } : State).answered
        tag 0x40 (okWith (le 2 0x1216 ++ le 1 1 ++ le 4 s.time.toNat ++ le 1 s.rate ++ le 1 (s.cause.code s.lost)
          ++ le 1 s.low.toNat ++ le 1 (s.ret.sticky.spoolCheck.toNat + 2 * s.ret.sticky.pressProtocol.toNat)
          ++ le 2 s.spool.free.length ++ le 2 (8192 - s.spool.pool.length)
          ++ le 1 (allEntries.filter fun e => (s.job e).isNone).length ++ le 1 0 ++ le 1 s.reports.length)))

/-- FLUSH (R178): it is taken in every state; every entry is FREE, the spool all free and the hold totals 0; the outer
part stands but for the slot, whose one-byte count of the jobs that were live is the model's choice (log entry 8).
Where nobody waits for a wake on demand: no JOB REPORT is pending (R170); every press has an empty path list and
nothing of its sheets to send, and FLUSH PATH is given to each whose path held sheets, at once on a free line and else
behind its control frames, if some job was live (R62, R81; none otherwise, log entry 15); a BUSY, JAMMED or
CALIBRATING press goes to IDLE, its idle timer from 0, or to HALTED while its cover is OPEN, and every other keeps its
state (R100); the resume marks are clear. Under one alert for each kind and source, every alert of a job is removed,
in every state (R158); JAM of a JAMMED press and MEDIA_OUT of a press in media wait end; every other entry stands. -/
def Obligations.Flushed : Prop :=
  ∀ (s : State) (tag : Byte), HostFree s →
    let live := (allEntries.filter fun e => (s.job e).isSome).length
    ∃ t, exec (.flush tag) s = .next t ∧ (∀ e, t.job e = none) ∧ t.spool = Spool.fresh ∧
      (∀ a, (t.account a) = { s.account a with holdTotal := 0 }) ∧
      t.outer = { s.outer with slot := some (replyTo tag 0x41 (okWith (le 1 live))) } ∧
      ((∀ p, (s.press p).state ≠ .wakeWait .demand) →
        (∀ e, Report.job e ∉ t.reports) ∧
        (∀ p, ((s.press p).line = none → ∀ f ∈ (s.press p).txq, f.needsCredit = true) →
          let x := s.press p
          let kept := x.txq.filter fun f => !f.needsCredit
          let sent := x.path ≠ [] ∧ live ≠ 0
          t.press p =
            { x with
              path := [], resumeMark := false, send := if x.path = [] then x.send else .idle
              txq := if x.path = [] then x.txq else if sent ∧ x.line ≠ none then kept ++ [.flushPath] else kept
              line := if sent ∧ x.line = none then some .flushPath else x.line
              state :=
                match x.state with
                | .busy _ | .jammed | .calibrating _ _ => if x.cover = some true then .halted .cover else .idle false 0
                | st => st }) ∧
        (AlertsKeyed s → ∀ n,
          t.alert n =
            match s.alert n with
            | none => none
            | some a =>
              let ended : Bool :=
                match a.kind, a.source with
                | .jam, .press p => (s.press p).state == .jammed
                | .mediaOut, .press p => (match (s.press p).state with | .busy (some _) => true | _ => false)
                | _, _ => false
              match a.source, a.state with
              | .job _, _ => none
              | _, .activeUnacked => if ended then some { a with state := .clearedUnacked, changedAt := s.time } else some a
              | _, .activeAcked => if ended then none else some a
              | _, .clearedUnacked => some a))

/-- RESTART answers OK and starts nothing until its reply has been transmitted (R177). RETAINED CLEAR is refused STATE
while a job is live. With every entry FREE it sets the prices, filters, levels, circuits, schedule and press settings to
their defaults (R179) and touches nothing else of the outer part but the supply state; with every press DOWN, no press waiting, no
alert to escalate and the supply at rest under selection 3, its whole effect is every default, the learned capabilities
kept. That the two OK replies carry no figure is the model's choice (log entry 25). -/
def Obligations.RestartAndClear : Prop :=
  ∀ (s : State) (tag : Byte), HostFree s →
    exec (.restart tag) s = .next (({ s with restartPending := true } : State).answered tag 0x42 (okWith [])) ∧
    ((∃ e j, s.job e = some j) →
      exec (.retainedClear tag) s = .next (s.answered tag 0x43 { code := .state, figures := [] })) ∧
    ((∀ e, s.job e = none) →
      (∃ t, exec (.retainedClear tag) s = .next t ∧ (∀ e, t.job e = none) ∧
        t.outer = { s.outer with
          current := PriceTable.default 1, other := PriceTable.default 0
          filters := Vector.replicate 8 Filter.default, levels := defaultLevels
          circuits := Vector.replicate 4 { w := 2, tw := 60, ts := 8 }
          schedule := { mode := .cls, ageStep := 10, starve := 30, escalation := 120, buzzer := 12, threshold := 3 }
          settings := Vector.replicate 12
            { pool := some 0, circuit := 0, idleTimeout := 20, minAwake := 5, shortInterval := 5000, longThreshold := 8 }
          low := t.low
          slot := some (replyTo tag 0x43 (okWith [])) }) ∧
      ((∀ p, (s.press p).state = .down) → (∀ c, (s.circuit c).queue = []) →
        (∀ n a, s.alert n = some a → a.state ≠ .activeUnacked) →
        (if s.low then s.sense ≤ 3110 else 3040 ≤ s.sense) →
        exec (.retainedClear tag) s =
          .next (({ s with ret := { Retained.default with
            presses := s.ret.presses.map fun r => { PressRec.default with caps := r.caps } } } : State).answered tag 0x43
              (okWith []))))

/-! ## Press frames -/

/-- Every press frame and every timer of a running part completes, and touches nothing of the outer part: not the
supply, part time, the host link but for its report queue, the prices, the filters, the levels, or the settings of the
part, its circuits and its presses (R101, R103, R111). -/
def Obligations.PressSideFrame : Prop :=
  ∀ (s : State) (c : Instr), s.phase = .running →
    ((∃ p f, pressRow c = some (p, f)) ∨ (∃ p bytes err, c = .pressFrameDiscarded p bytes err) ∨
      (∃ p kind body, c = .unactedPressFrame p kind body) ∨ (∃ p, c = .pressFrameTransmitted p) ∨
      (∃ p, c = .heartbeatExpiry p ∨ c = .restartSignalEnd p ∨ c = .restartWindowExpiry p ∨ c = .wakeTimeout p ∨
        c = .calibrationTimeout p ∨ c = .idleTimerExpiry p ∨ c = .sleepPointReached p) ∨
      (∃ e, c = .starveExpiry e) ∨ (∃ k, c = .nextGrantTime k) ∨ (∃ n, c = .escalation n)) →
    ∃ t, exec c s = .next t ∧ t.outer = s.outer

/-- HELLO on a DOWN press whose line is not held brings the link up (R83): its capabilities replace the learned ones,
the credits and the sequence start at 0, the recorded cover is CLOSED, a restart ends, LINKED is sent, the press is
IDLE with its idle timer and awake-since time, or ASLEEP from now, and LINK_DOWN ends; the whole effect where there is
no work. HELLO on a live link is a whole link down and then a link up (R84, R89): LINK_DOWN is raised, COVER_OPEN and
JAM end, and LINK_DOWN ends again; the whole effect on a press that is not BUSY, with an empty path and in no queue,
with no work. That the PRESS REPORT is pending ahead of those alerts is the model's choice (log entry 42). -/
def Obligations.HelloLinksUp : Prop :=
  ∀ (s : State) (p : PressNo) (c : Caps) (asleep : Bool), s.phase = .running → Quiet s → NoWork s →
    (s.press p).held = false → (s.press p).line = none →
    1 ≤ c.depth → c.depth ≤ 8 → 1 ≤ c.trays.length → c.trays.length ≤ 6 → (∀ t ∈ c.trays, t.media ≤ 15) →
    let up (x : Press) : Press :=
      { x with
        credits := 0, seq := 0, cover := some false, heartbeat := 0, restart := none, line := some .linked
        state := if asleep then .asleep else .idle false 0
        awakeSince := if asleep then x.awakeSince else some s.time
        sleepStart := if asleep then some s.time else x.sleepStart }
    let learned := s.modRec p fun r => { r with caps := some c }
    ((s.press p).state = .down → (s.press p).txq = [] →
      exec (.hello p c.duplex c.colour c.depth c.trays asleep) s =
        .next (((learned.modPress p up).mark (.press p)).endCondition .linkDown (.press p))) ∧
    ((s.press p).state ≠ .down → (∀ m, (s.press p).state ≠ .busy m) → (s.press p).path = [] →
      (∀ c, (s.circuit c).queue.contains p = false) →
      exec (.hello p c.duplex c.colour c.depth c.trays asleep) s =
        .next ((((((learned.modPress p fun x =>
          { up x with txq := [], send := .idle, resumeMark := false, rx := none }).mark (.press p)).raise .linkDown
            (.press p) none).endCondition .coverOpen (.press p)).endCondition .jam (.press p)).endCondition .linkDown
              (.press p)))

/-- A frame that the press's state or its own fields give no action counts as heard and does nothing else (R82): it
sets the heartbeat timer back to 0. A DOWN press takes no frame but HELLO, a press whose line the restart signal holds
takes none (R90). At a hunting receiver, bytes other than the start byte, a frame whose check does not match, a frame
cut short by a framing error, and a length over 300 have no effect of any kind, and a frame begun is kept, byte for
byte, for the bytes that follow (R80; where an excess length and a framing error fall is log entry 4).
The command of a timer that is not due does nothing (log entry 3). -/
def Obligations.UnactedFramesAndTimers : Prop :=
  (∀ (s : State) (p : PressNo),
    (Linked s p →
      let heard := s.modPress p fun x => { x with heartbeat := 0 }
      let st := (s.press p).state
      (∀ o, (s.press p).cover = some o → exec (.beat p o) s = .next heard ∧ exec (.cover p o) s = .next heard) ∧
      (∀ l, 15 < l.toNat ∨ ((∀ m, st ≠ .busy m) ∧ st ≠ .jammed ∧ ∀ r t, st ≠ .calibrating r t) →
        exec (.jam p l) s = .next heard) ∧
      (st ≠ .jammed → exec (.clear p) s = .next heard) ∧
      (∀ i m b, ((s.pressRec p).caps.all fun c => decide (c.trays.length ≤ i.toNat)) = true ∨ 15 < m.toNat →
        exec (.tray p i m b) s = .next heard) ∧
      ((∀ t, st ≠ .waking t) → exec (.ready p) s = .next heard) ∧
      (st ≠ .sleeping → st.isIdle = false → exec (.asleep p) s = .next heard) ∧
      (∀ b, (∀ r t, st ≠ .calibrating r t) → exec (.caldone p b) s = .next heard) ∧
      (∀ d c depth trays a, depth < 1 ∨ 8 < depth ∨ trays = [] ∨ 6 < trays.length ∨ (∃ t ∈ trays, 15 < t.media) →
        exec (.hello p d c depth trays a) s = .next heard) ∧
      (∀ kind body, pressIn kind body = .junk → exec (.unactedPressFrame p kind body) s = .next heard)) ∧
    (∀ c f, s.phase = .running → pressRow c = some (p, f) →
      ((s.press p).held = true → exec c s = .next s) ∧
      ((s.press p).state = .down → (∀ d c depth trays a, f ≠ .hello d c depth trays a) → exec c s = .next s)) ∧
    (s.phase = .running → (s.press p).rx = none →
      (∀ b err, b ≠ 0x5A → exec (.pressFrameDiscarded p [b] err) s = .next s) ∧
      (∀ kind body check err, body.length ≤ 300 → check.length = 2 →
        check ≠ le 2 (crc16 (le 2 body.length ++ [kind] ++ body)).toNat →
        exec (.pressFrameDiscarded p ([0x5A] ++ (le 2 body.length ++ [kind] ++ body) ++ check) err) s = .next s) ∧
      (∀ n err, 300 < n → n < 65536 → exec (.pressFrameDiscarded p (0x5A :: le 2 n) err) s = .next s) ∧
      (∀ kind body n, body.length ≤ 300 → n < (pressFrame kind body).length →
        exec (.pressFrameDiscarded p ((pressFrame kind body).take n) true) s = .next s ∧
        (0 < n → exec (.pressFrameDiscarded p ((pressFrame kind body).take n) false) s =
          .next (s.modPress p fun x => { x with rx := some (((pressFrame kind body).take n).drop 1) }))))) ∧
  (∀ s : State, s.phase = .running → Quiet s →
    (∀ p, s.heartbeatDue p = false → exec (.heartbeatExpiry p) s = .next s) ∧
    (∀ p, s.signalDue p = false → exec (.restartSignalEnd p) s = .next s) ∧
    (∀ p, s.windowDue p = false → exec (.restartWindowExpiry p) s = .next s) ∧
    (∀ p, s.wakeDue p = false → exec (.wakeTimeout p) s = .next s) ∧
    (∀ p, s.calibrationDue p = false → exec (.calibrationTimeout p) s = .next s) ∧
    (∀ e, s.starveDue e = none → exec (.starveExpiry e) s = .next s) ∧
    (∀ p, s.idleExpired p = false → exec (.idleTimerExpiry p) s = .next s) ∧
    (∀ p, s.sleepDue p = false → exec (.sleepPointReached p) s = .next s) ∧
    (∀ c, s.grantDue c = false → exec (.nextGrantTime c) s = .next s) ∧
    (∀ n, s.escalationDue n = false → exec (.escalation n) s = .next s))

/-- CREDIT adds its count, held at 255 (R86), which is all with nothing to send or start; a SHEET or DATA frame that
waited, another behind it, is sent and takes one, a PRINTING job's starve timer running while a page is missing (R50).
On a BUSY press that prints, nothing to send: where R46 lets it a sheet starts (R47), SHEET on the line and the first
block's DATA frames behind it (R48); where no tray is LOADED with the sheet's class, media wait begins with MEDIA_OUT
raised (R51). TRAY replaces one tray of the capabilities held and no other item (R85), the press's report is pending,
for a TRAY that repeats the values held too (log entry 40), which is all with no work on a press that does not
calibrate. On a BUSY press that prints, where no press can be bound or woken: where a tray is then LOADED for the next
sheet media wait ends, MEDIA_OUT with it (R51), and the sheet starts where R46 lets it; where none is, media wait begins
or MEDIA_OUT is raised for another class. The end of a frame on a press's line (R81): a control frame goes ahead of
SHEET and DATA frames that wait for credit; a SHEET or DATA frame goes with a credit, and takes it, when its
transmission begins (log entry 7); else the line is free. When the last frame given of a sheet goes (R48): the next
block of the side, or side 2, is framed; a block whose check fails makes the page DAMAGED, sets SPOOL_CHECK, gives ABORT
SHEET, removes the entry and takes the job toward FAULT with SPOOL_FAULT (R18, R35, R49); at the end of the last side
the entry is SENT and the cursor advances (R43), and the next sheet of a PRINTING job, its pages COMPLETE and a tray
LOADED for it, starts behind it where the press and the supply let it (R46, R47). A pattern sheet goes the same way, its
bytes those of the run (R61, R114; free values, log entry 11); none follows it where the run has no more or no credit is
left. A side's bytes are cut into DATA frames of 256 bytes, the last of fewer. -/
def Obligations.CreditTrayAndTransmission : Prop :=
  (∀ (s : State) (p : PressNo) (n : Byte), Linked s p →
    let total := min ((s.press p).credits + n.toNat) 255
    ((s.press p).txq = [] → (∀ m, (s.press p).state ≠ .busy m) → (∀ r t, (s.press p).state ≠ .calibrating r t) →
      exec (.credit p n) s = .next (s.modPress p fun x => { x with heartbeat := 0, credits := total })) ∧
    (∀ f g rest, (s.press p).txq = f :: g :: rest → f.needsCredit = true → g.needsCredit = true →
      (s.press p).line = none → (s.press p).send ≠ .idle → 0 < total →
      let sent := s.modPress p fun x =>
        { x with heartbeat := 0, credits := total - 1, line := some f, txq := g :: rest }
      ((∀ m, (s.press p).state ≠ .busy m) ∨
        (∀ e j q, s.boundJob p = some e → s.job e = some j → j.state ≠ .printing q) →
        exec (.credit p n) s = .next sent) ∧
      (∀ e j, Waits s p e j →
        exec (.credit p n) s = .next (sent.setJob e (some { j with starve := s.starveOf e j })))) ∧
    (∀ e j c i sh, (s.press p).txq = [] → (s.press p).state = .busy none → BoundAlone s p e j → j.state = .printing p →
      j.commit = some c → c.cursor = some i → j.sheetOf i = some sh →
      (∀ d pg data last, (s.press p).line = none → (s.press p).send = .idle → 0 < total → s.low = false →
        (s.press p).path.length < s.depth p → s.loaded p sh.media = true →
        (∀ k ∈ sh.pages, s.pageIs e .complete k = true) → s.spool.page e sh.side1 = some (d, pg) →
        s.spool.readBlock pg 0 = .bytes data last →
        exec (.credit p n) s =
          .next ((s.modPress p fun x =>
            { x with
              heartbeat := 0, credits := total - 1, seq := x.seq + 1, line := some (.sheet x.seq sh.media sh.sides)
              txq := dataFrames x.seq 1 data last, send := .sending 1 data.length last
              path := x.path ++ [{ seq := x.seq, job := some (e, i), sides := sh.sides, media := sh.media
                                   state := .sending }] }).setJob e (some { j with starve := none }))) ∧
      (Undamaged s e j i → s.loaded p sh.media = false →
        let ready := ∀ k ∈ sh.pages, s.pageIs e .complete k = true
        let limit := s.ret.schedule.starve * 1000
        exec (.credit p n) s =
          .next ((((s.modPress p fun x =>
            { x with heartbeat := 0, credits := total, state := .busy (some sh.media) }).setJob e (some
              { j with starve := if ready then none else some (j.starve.getD { elapsed := 0, limit := limit }) })).mark
                (.press p)).raise .mediaOut (.press p) (some sh.media))))) ∧
  (∀ (s : State) (p : PressNo) (index media : Byte) (loaded : Bool) (c : Caps), Linked s p → NoWork s →
    (∀ r t, (s.press p).state ≠ .calibrating r t) → (s.pressRec p).caps = some c → index.toNat < c.trays.length →
    media.toNat ≤ 15 →
    exec (.tray p index media loaded) s =
      .next (((s.modPress p fun x => { x with heartbeat := 0 }).modRec p fun r =>
        { r with caps := some { c with trays := c.trays.set index.toNat { media := media.toNat, loaded := loaded } } }).mark
          (.press p))) ∧
  (∀ (s : State) (p : PressNo) (index media : Byte) (loaded : Bool) (c : Caps) (e : Entry) (j : Job) (now : Option Nat),
    Linked s p → Still s → (s.pressRec p).caps = some c → index.toNat < c.trays.length → media.toNat ≤ 15 →
    (s.press p).state = .busy now → BoundAlone s p e j → j.state = .printing p →
    let u := s.modRec p fun r =>
      { r with caps := some { c with trays := c.trays.set index.toNat { media := media.toNat, loaded := loaded } } }
    let told (starve : Option Starve) :=
      ((u.modPress p fun x => { x with heartbeat := 0 }).mark (.press p)).setJob e (some { j with starve := starve })
    let goes (t : State) := exec (.tray p index media loaded) s = .next t
    (j.cursorSheet = none ∨ (SheetReady u p e j ∧ NoStart u p) → goes ((told none).mediaWaitEnded p now)) ∧
    (∀ i sh data last, Starts u p e j i sh data last →
      goes (((told none).modPress p (started (some (e, i)) sh.media sh.sides data last)).mediaWaitEnded p now)) ∧
    (∀ i sh, j.cursorSheet = some (i, sh) → Undamaged s e j i →
      let t := told (s.starveOf e j)
      (u.loaded p sh.media = true → (∃ k ∈ sh.pages, s.pageIs e .complete k = false) → goes (t.mediaWaitEnded p now)) ∧
      (u.loaded p sh.media = false →
        goes (if now = some sh.media then t else
          (t.modPress p fun x => { x with state := .busy (some sh.media) }).raise .mediaOut (.press p)
            (some sh.media))))) ∧
  (∀ (s : State) (p : PressNo), s.phase = .running → Quiet s → (s.press p).line ≠ none →
    let done (f : Press → Press) := exec (.pressFrameTransmitted p) s = .next (s.modPress p f)
    ((s.press p).txq = [] → done fun x => { x with line := none }) ∧
    (∀ waiting f rest, (s.press p).txq = waiting ++ f :: rest → (∀ w ∈ waiting, w.needsCredit = true) →
      (waiting ≠ [] → (s.press p).credits = 0) → f.needsCredit = false →
      done fun x => { x with line := some f, txq := waiting ++ rest }) ∧
    (∀ f g rest, (s.press p).txq = f :: g :: rest → f.needsCredit = true → g.needsCredit = true →
      0 < (s.press p).credits →
      done fun x => { x with line := some f, txq := g :: rest, credits := x.credits - 1 }) ∧
    (∀ waiting, (s.press p).txq = waiting → (∀ w ∈ waiting, w.needsCredit = true) → (s.press p).credits = 0 →
      done fun x => { x with line := none })) ∧
  (∀ (s : State) (p : PressNo) (f : PFrame) (older : List PathEntry) (ent : PathEntry) (side framed : Nat) (ended : Bool)
    (e : Entry) (i : Nat) (j : Job) (c : Commit), s.phase = .running → Quiet s → (s.press p).line ≠ none →
    (s.press p).txq = [f] → f.needsCredit = true → 0 < (s.press p).credits → (s.press p).path = older ++ [ent] →
    (s.press p).send = .sending side framed ended → ent.job = some (e, i) → (s.press p).state = .busy none →
    BoundAlone s p e j → j.commit = some c →
    let goes (g : Press → Press) := s.modPress p fun x => g { x with line := some f, txq := [], credits := x.credits - 1 }
    let next : Nat := if ended then 2 else side
    let start : Nat := if ended then 0 else framed
    (∀ sh k d pg, ended = false ∨ (side = 1 ∧ ent.sides = 2) → j.sheetOf i = some sh →
      (if next = 1 then some sh.side1 else sh.side2) = some k → s.spool.page e k = some (d, pg) →
      (∀ data last, s.spool.readBlock pg start = .bytes data last →
        exec (.pressFrameTransmitted p) s = .next (goes fun x =>
          { x with txq := dataFrames ent.seq next data last, send := .sending next (start + data.length) last })) ∧
      (Still s → older ≠ [] → j.state = .printing p → s.spool.readBlock pg start = .failed →
        let t := goes fun x => { x with txq := [.abort ent.seq], path := older, send := .idle }
        exec (.pressFrameTransmitted p) s =
          .next (((({ t with
            spool := s.spool.damage d pg
            ret := { t.ret with sticky := { t.ret.sticky with spoolCheck := true } } } : State).setJob e (some
              { j with state := .draining p .fault, starve := none })).mark (.job e)).raise .spoolFault (.job j.serial)
                (some k)))) ∧
    (ended = true → ent.sides = side →
      let sent := goes fun x => { x with path := older ++ [{ ent with state := .sent }], send := .idle }
      let advanced : Job := { j with commit := some { c with cursor := if j.total ≤ i then none else some (i + 1) } }
      (j.state = .printing p → j.total ≤ i →
        exec (.pressFrameTransmitted p) s = .next (sent.setJob e (some { advanced with starve := none }))) ∧
      (∀ sh, j.state = .printing p → i < j.total → j.sheetOf (i + 1) = some sh → s.loaded p sh.media = true →
        (∀ k ∈ sh.pages, s.pageIs e .complete k = true) →
        ((s.press p).credits = 1 ∨ s.low = true ∨ s.depth p ≤ (s.press p).path.length →
          exec (.pressFrameTransmitted p) s = .next (sent.setJob e (some { advanced with starve := none }))) ∧
        (∀ d pg data last, 1 < (s.press p).credits → s.low = false → (s.press p).path.length < s.depth p →
          s.spool.page e sh.side1 = some (d, pg) → s.spool.readBlock pg 0 = .bytes data last →
          exec (.pressFrameTransmitted p) s =
            .next ((sent.modPress p fun x =>
              { x with
                seq := x.seq + 1, txq := .sheet x.seq sh.media sh.sides :: dataFrames x.seq 1 data last
                send := .sending 1 data.length last
                path := x.path ++ [{ seq := x.seq, job := some (e, i + 1), sides := sh.sides, media := sh.media
                                     state := .sending }] }).setJob e (some { advanced with starve := none })))) ∧
      (∀ target, j.state = .draining p target → (i < j.total → Undamaged s e j (i + 1)) →
        exec (.pressFrameTransmitted p) s = .next (sent.setJob e (some advanced))))) ∧
  (∀ (s : State) (p : PressNo) (f : PFrame) (older : List PathEntry) (ent : PathEntry) (side framed : Nat) (ended : Bool)
    (run : CalRun) (timer : Nat), s.phase = .running → Quiet s → (s.press p).line ≠ none →
    (s.press p).txq = [f] → f.needsCredit = true → 0 < (s.press p).credits → (s.press p).path = older ++ [ent] →
    (s.press p).send = .sending side framed ended → ent.job = none → (s.press p).state = .calibrating run timer →
    let goes (g : Press → Press) := exec (.pressFrameTransmitted p) s =
      .next (s.modPress p fun x => g { x with line := some f, txq := [], credits := x.credits - 1 })
    (ended = false ∨ (side = 1 ∧ ent.sides = 2) →
      let next : Nat := if ended then 2 else side
      let start : Nat := if ended then 0 else framed
      let data := (List.range (min 512 (2048 - start))).map fun i =>
        Config.patternByte run.long run.started next (start + i)
      goes fun x =>
        { x with
          txq := dataFrames ent.seq next data (decide (2048 ≤ start + 512))
          send := .sending next (start + data.length) (decide (2048 ≤ start + 512)) }) ∧
    (ended = true → ent.sides = side → run.count ≤ run.started ∨ (s.press p).credits = 1 →
      goes fun x => { x with path := older ++ [{ ent with state := .sent }], send := .idle })) ∧
  (∀ (q : Seq) (side : Nat) (bytes : List Byte) (last : Bool), ∃ parts : List (List Byte),
    dataFrames q side bytes last = parts.map (fun b => PFrame.data q side b) ∧ parts.flatten = bytes ∧
    (∀ k b, parts[k]? = some b → b.length ≤ 256 ∧ (k + 1 < parts.length → b.length = 256)) ∧
    (last = true → parts.length = bytes.length / 256 + 1 ∧ ∀ b ∈ parts.getLast?, b.length < 256))

/-- PICKED (R53) makes the SENT entry of its sequence PICKED and nothing else. A PICKED or DELIVERED that names no
sheet of an empty path list is a protocol fault (R53, R54, R56): PROTOCOL_FAULT is raised, PRESS_PROTOCOL is set, the
link is restarted and the frame is not acted on; the whole effect on a press that is not BUSY and in no queue, with no
work. The sequence set to 0 (log entry 21), the frame on the line kept to its end (log entry 20) and the PRESS REPORT
pending ahead of the ends of COVER_OPEN and JAM (log entry 42) are the model's choices. -/
def Obligations.PickedAndFault : Prop :=
  ∀ (s : State) (p : PressNo) (q : Seq), Linked s p →
    (∀ x, (s.press p).path.find? (fun x => x.seq == q) = some x → x.state = .sent →
      exec (.picked p q) s = .next (s.modPress p fun y =>
        { y with
          heartbeat := 0
          path := y.path.map fun x => if x.seq = q then { x with state := .picked } else x })) ∧
    (NoWork s → (s.press p).path = [] → (∀ m, (s.press p).state ≠ .busy m) →
      (∀ c, (s.circuit c).queue.contains p = false) →
      let raised := s.raise .protocolFault (.press p) none
      let marked := { raised with ret := { raised.ret with sticky := { raised.ret.sticky with pressProtocol := true } } }
      let t := (((((marked : State).modPress p restarted).mark (.press p)).endCondition .coverOpen (.press p)).endCondition
        .jam (.press p)).mark (.press p)
      exec (.picked p q) s = .next t ∧ exec (.delivered p q) s = .next t)

/-- DELIVERED of the PICKED head entry of a path list (R54, R61, R111, R129, R138, R145). A job sheet that is not its
job's last: the entry is removed; the charge of the position under the table of the job's generation moves from the
hold to the account; the sheet, its sides and the calibration counter count; the pages the position carries last are
released; delivered rises. That is all with sheets left in the path of a DRAINING job (R55), and of a PRINTING one with
its cursor at END; else the conditions of R46 are examined: the next sheet starts into the freed place, waits for the
press or the supply alone, has the starve timer run while a page is missing (R50), or waits for its media (R51). A
service sheet counts on its meter and touches nothing else. The delivery that empties the path and ends the binding,
with no other job live and nobody waiting on demand: after the last sheet the job is FINISHED with outcome COMPLETED,
PRINTING or DRAINING (R16, R19, R55); after the last sheet in the path of a DRAINING job it takes its drain target,
JOB_STARVED raised for STARVED (R17, R19); a finished job's hold is released and its pages freed (R21, R38); the press
is IDLE, its idle timer from 0. A job whose drain ends STARVED stays so while a page of the sheet at its cursor is not
COMPLETE; else it goes on to QUEUED and JOB_STARVED ends (R17), and, where no other press is IDLE and wake demand has
nobody to ask, an eligible job is bound to the press again if it is its candidate, fits it and has no due flag (R66,
R71; no sheet starts without a credit), and stays QUEUED where it is not eligible. That side 1's page is released
before side 2's (log entry 44), and that the job takes its target ahead of the press's release (log entry 47), are the
model's choices. -/
def Obligations.SheetDelivered : Prop :=
  ∀ (s : State) (p : PressNo) (q : Seq) (head : PathEntry) (rest : List PathEntry), Linked s p →
    (s.press p).path = head :: rest → head.seq = q → head.state = .picked →
    (∀ e n j c sh now, head.job = some (e, n) → s.boundJob p = some e → s.job e = some j →
      (s.press p).state = .busy now → j.commit = some c → j.sheetOf n = some sh →
      let charge := (if s.ret.current.gen = c.gen then s.ret.current else s.ret.other).sheetCharge sh n
      let charged (i : Job) := (s.modPress p fun x => { x with heartbeat := 0, path := rest }).setJob e (some i)
      let paid (released : Nat) (t : State) := t.modAccount j.account fun a =>
        let cents := (a.residue + charge) / 1000
        { a with
          holdTotal := a.holdTotal - charge - released
          balance := if j.account = 0 then max (a.balance - cents) (-2000000000) else a.balance - cents
          residue := (a.residue + charge) % 1000, lifeSheets := min (a.lifeSheets + 1) 4294967295
          lifeCharged := min (a.lifeCharged + charge) 281474976710655 }
      let tallied (t : State) := (t.modMeter p head.media fun m =>
        { m with
          sheets := min (m.sheets + 1) 4294967295
          mono := if sh.band = 0 then min (m.mono + head.sides) 4294967295 else m.mono
          colour := if sh.band = 0 then m.colour else min (m.colour + head.sides) 4294967295 }).modRec p fun r =>
        let n := min (r.sheetCount + 1) 4294967295
        { r with sheetCount := n, shortDue := r.shortDue || (r.shortInterval != 0 && decide (r.shortInterval ≤ n)) }
      let spool := if (n - 1) / j.perCopy + 1 = j.copies then sh.pages.foldl (fun sp k => sp.releasePage e k) s.spool
        else s.spool
      let moved : Job := { j with
        commit := some { c with charged := c.charged + charge }, hold := j.hold.map fun h => h - charge
        delivered := j.delivered + 1, starve := none }
      (j.delivered + 1 ≠ j.total →
        let u : State := { (s.modPress p fun x => { x with path := rest }) with spool := spool }
        let counted (starve : Option Starve) :=
          ({ tallied (paid 0 (charged { moved with starve := starve })) with spool := spool } : State).mark (.job e)
        let goes (t : State) := exec (.delivered p q) s = .next t
        (∀ target, j.state = .draining p target → rest ≠ [] → goes (counted j.starve)) ∧
        (j.state = .printing p →
          (now = none → c.cursor = none ∨ (SheetReady u p e j ∧ NoStart u p) → goes (counted none)) ∧
          (∀ i sh data last, now = none → Starts u p e j i sh data last →
            goes ((counted none).modPress p (started (some (e, i)) sh.media sh.sides data last))) ∧
          (∀ i sh, j.cursorSheet = some (i, sh) → Undamaged u e j i →
            let t := counted (u.starveOf e j)
            (now = none → s.loaded p sh.media = true → (∃ k ∈ sh.pages, u.pageIs e .complete k = false) → goes t) ∧
            (now = none ∨ now = some sh.media → s.loaded p sh.media = false →
              goes (if now = some sh.media then t else
                ((t.modPress p fun x => { x with state := .busy (some sh.media) }).mark (.press p)).raise .mediaOut
                  (.press p) (some sh.media)))))) ∧
      (∀ hold, now = none → rest = [] → (∀ d, d ≠ e → s.job d = none) → (∀ r, (s.press r).state ≠ .wakeWait .demand) →
        (s.press p).cover ≠ some true → j.state.bound = some p → j.hold = some hold →
        let idle (t : State) := (t.modPress p fun x => { x with state := .idle false 0 }).mark (.press p)
        let finished (o : JobOutcome) := exec (.delivered p q) s =
          .next (idle (({ tallied (paid (hold - charge) (charged { moved with
            state := .finished o, hold := none })) with spool := spool.freeJob e } : State).mark (.job e)))
        let stays (st : JobState) := ({ tallied (paid 0 (charged { moved with state := st })) with
          spool := spool } : State).mark (.job e)
        (j.delivered + 1 = j.total → finished .completed) ∧
        (j.delivered + 1 ≠ j.total →
          (j.state = .draining p .cancelled → finished .cancelled) ∧
          (j.state = .draining p .held → exec (.delivered p q) s = .next (idle (stays .held))) ∧
          (j.state = .draining p .fault → exec (.delivered p q) s = .next (idle (stays .fault))) ∧
          (j.state = .draining p .starved →
            let found (k : Nat) := ({ s with spool := spool } : State).pageIs e .complete k
            let starved := (stays .starved).raise .jobStarved (.job j.serial) none
            ((∀ m i, c.cursor = some m → j.sheetOf m = some i → ∃ k ∈ i.pages, found k = false) →
              exec (.delivered p q) s = .next (idle starved)) ∧
            (∀ m i, c.cursor = some m → j.sheetOf m = some i → (∀ k ∈ i.pages, found k = true) → Awake s →
              (∀ r, (s.press r).state.isIdle = false) →
              let queued := ((starved.setJob e (some { moved with state := .queued s.time })).mark (.job e)).endCondition
                .jobStarved (.job j.serial)
              (j.copies ≠ 1 → j.received ≠ j.pageCount → exec (.delivered p q) s = .next (idle queued)) ∧
              (j.copies = 1 ∨ j.received = j.pageCount →
                j.target = .press p ∨ (∃ k, j.target = .pool k ∧ (s.pressRec p).pool = some k) → s.fits p j = true →
                (s.pressRec p).longDue = false → (s.pressRec p).shortDue = false →
                (s.pressRec p).shortInterval = 0 ∨ (s.pressRec p).sheetCount + 1 < (s.pressRec p).shortInterval →
                s.loaded p i.media = true → (s.press p).credits = 0 →
                exec (.delivered p q) s =
                  .next (((queued.setJob e (some { moved with state := .printing p })).modPress p fun x =>
                    { x with
                      heldPool := none
                      fair := if s.ret.schedule.mode = .fair then j.account else x.fair }).mark (.press p)))))))) ∧
    (∀ run timer, head.job = none → (s.press p).state = .calibrating run timer → run.count ≤ run.started →
      exec (.delivered p q) s =
        .next ((s.modPress p fun x => { x with heartbeat := 0, path := rest }).modMeter p head.media fun m =>
          { m with service := min (m.service + 1) 4294967295 }))

/-- JAM (R57, R58, R95) on a BUSY press: the path is lost, the cursor returns to the oldest lost position and the lost
sheets count as reprints (none of that sheet's pages is DAMAGED), media wait ends, the starve timer stops, one jam
counts under that sheet's class, under class 0 with an empty path, the press is JAMMED and JAM is raised with its
location; a PRINTING job stays bound, a DRAINING one then takes its drain target (R19); the whole effect where no press
can be bound or woken. On a CALIBRATING press it takes the service sheets and sets the resume mark, with no work or no
press to bind or wake. On a JAMMED press it counts under class 0 and merges. CLEAR (R91, R95) ends the JAM condition
and takes the press to HALTED while its cover is OPEN; else to BUSY with its job, which is the whole effect where its
next sheet waits for the press or the supply alone (R46, R50), to CALIBRATING with a new run and CALIBRATE sent where
the resume mark is set (R98, R114), and to IDLE with no work. That the JOB REPORT is pending ahead of the PRESS REPORT
at a JAM, and the end of the JAM condition ahead of the PRESS REPORT at CLEAR, are the model's choices (log entry 42).
-/
def Obligations.JamAndClear : Prop :=
  ∀ (s : State) (p : PressNo) (l : Byte), Linked s p → l.toNat ≤ 15 →
    let oldest := ((s.press p).path.head?.map fun x => x.media).getD 0
    let jams (n : Nat) (t : State) := (t.modMeter p n fun m => { m with jams := min (m.jams + 1) 4294967295 }).raise .jam
      (.press p) (some l.toNat)
    let lost := s.modPress p fun x => { lostPath x with heartbeat := 0, state := .jammed }
    (∀ m e j, Still s → (s.press p).state = .busy m → s.boundJob p = some e → s.job e = some j → Rewinds s p e j →
      let i : Job := { rewound (s.press p).path j with starve := none }
      let t := lost.setJob e (some i)
      let t := (if (s.press p).path = [] then t else t.mark (.job e)).mark (.press p)
      let t := jams oldest (if m = none then t else t.endCondition .mediaOut (.press p))
      (j.state = .printing p → exec (.jam p l) s = .next t) ∧
      (∀ target, j.state = .draining p target → j.hold = none ∨ s.waiting j.account = [] →
        exec (.jam p l) s = .next (drained target e i t))) ∧
    (∀ run n, NoWork s ∨ Still s → (s.press p).state = .calibrating run n → (∀ x ∈ (s.press p).path, x.job = none) →
      exec (.jam p l) s =
        .next (jams oldest ((lost.modPress p fun x => { x with resumeMark := true }).mark (.press p)))) ∧
    ((s.press p).state = .jammed →
      exec (.jam p l) s = .next (jams 0 (s.modPress p fun x => { x with heartbeat := 0 })) ∧
      (let clears (st : PressState) := ((s.modPress p fun x => { x with heartbeat := 0, state := st }).endCondition .jam
        (.press p)).mark (.press p)
      (NoWork s ∨ Still s → (s.press p).cover = some true → exec (.clear p) s = .next (clears (.halted .cover))) ∧
      ((s.press p).cover ≠ some true →
        (NoWork s → (s.press p).resumeMark = false → exec (.clear p) s = .next (clears (.idle false 0))) ∧
        (NoWork s → (s.press p).resumeMark = true → (s.press p).credits = 0 → (s.press p).txq = [] →
          (s.press p).line = none →
          let long := (s.pressRec p).longDue
          let n := if long then 3 else 1
          exec (.clear p) s = .next ((clears (.calibrating { long := long, count := n, started := 0 } 0)).modPress p fun x =>
            { x with resumeMark := false, line := some (.calibrate long n) })) ∧
        (∀ e j, Still s → s.boundJob p = some e → s.job e = some j → j.state = .printing p → SheetReady s p e j →
          NoStart s p →
          exec (.clear p) s = .next ((clears (.busy none)).setJob e (some { j with starve := none }))))))

/-- COVER and BEAT with a cover that differs from the recorded one (R96, R97). OPEN raises COVER_OPEN, and takes an
IDLE press with no work, or one halted by a failed wake or calibration, to HALTED with cause COVER. A BUSY press goes
to HALTED too, its path lost as by a jam, which counts as one jam where the path held a sheet (R57, R59): a PRINTING
job stays bound, a DRAINING one then takes its drain target (R19); the whole effect where no press can be bound or
woken. A CALIBRATING press loses its service sheets and its resume mark is set; that an opening on an empty path counts
no jam there too is the model's choice (log entry 27). A press in another state keeps it. CLOSED ends COVER_OPEN, and
takes a press halted by its cover to BUSY with its job (R91), which is the whole effect where its next sheet waits for
the press or the supply alone (R46, R50), to CALIBRATING with a new run and CALIBRATE sent where the resume mark is set
(R98, R114), and to IDLE with no work. -/
def Obligations.CoverTaken : Prop :=
  ∀ (s : State) (p : PressNo) (c : Instr) (isOpen : Bool), Linked s p → c = .cover p isOpen ∨ c = .beat p isOpen →
    (s.press p).cover ≠ some isOpen →
    let t (st : PressState) := s.modPress p fun x => { x with heartbeat := 0, cover := some isOpen, state := st }
    let st := (s.press p).state
    (isOpen = true →
      ((st.isIdle = true ∧ NoWork s) ∨ (st = .halted .wakeFail ∧ NoWork s) ∨ (st = .halted .calFail ∧ NoWork s) →
        exec c s = .next (((t (.halted .cover)).raise .coverOpen (.press p) none).mark (.press p))) ∧
      (st = .asleep ∨ (∃ o, st = .wakeWait o) ∨ (∃ n, st = .waking n) ∨ st = .sleeping ∨ st = .jammed ∨
          st = .halted .cover →
        exec c s = .next (((t st).raise .coverOpen (.press p) none).mark (.press p))) ∧
      (let lost := (((t (.halted .cover)).modPress p lostPath).raise .coverOpen (.press p) none).mark (.press p)
      let jams (u : State) := match (s.press p).path with
        | [] => u
        | x :: _ => u.modMeter p x.media fun m => { m with jams := min (m.jams + 1) 4294967295 }
      (∀ m e j, Still s → st = .busy m → s.boundJob p = some e → s.job e = some j → Rewinds s p e j →
        let i : Job := { rewound (s.press p).path j with starve := none }
        let u := lost.setJob e (some i)
        let u := jams (if (s.press p).path = [] then u else u.mark (.job e))
        let u := if m = none then u else u.endCondition .mediaOut (.press p)
        (j.state = .printing p → exec c s = .next u) ∧
        (∀ target, j.state = .draining p target → j.hold = none ∨ s.waiting j.account = [] →
          exec c s = .next (drained target e i u))) ∧
      (∀ run n, NoWork s ∨ Still s → st = .calibrating run n → (∀ x ∈ (s.press p).path, x.job = none) →
        exec c s = .next (jams (lost.modPress p fun x => { x with resumeMark := true }))))) ∧
    (isOpen = false →
      let closes (st : PressState) := ((t st).endCondition .coverOpen (.press p)).mark (.press p)
      (st ≠ .halted .cover → exec c s = .next (closes st)) ∧
      (st = .halted .cover →
        (NoWork s → (s.press p).resumeMark = false → exec c s = .next (closes (.idle false 0))) ∧
        (NoWork s → (s.press p).resumeMark = true → (s.press p).credits = 0 → (s.press p).txq = [] →
          (s.press p).line = none →
          let long := (s.pressRec p).longDue
          let n := if long then 3 else 1
          exec c s = .next ((closes (.calibrating { long := long, count := n, started := 0 } 0)).modPress p fun x =>
            { x with resumeMark := false, line := some (.calibrate long n) })) ∧
        (∀ e j, Still s → s.boundJob p = some e → s.job e = some j → j.state = .printing p → SheetReady s p e j →
          NoStart s p →
          exec c s = .next ((closes (.busy none)).setJob e (some { j with starve := none })))))

/-- READY takes a WAKING press to IDLE, its LONG flag set after a sleep as long as its threshold (R92, R113); ASLEEP
takes a SLEEPING or IDLE press to ASLEEP from now (R93, R107); CALDONE PASS takes a CALIBRATING press to IDLE with its
counter 0 and its flags cleared, the LONG one only by a LONG run, and FAIL to HALTED with CAL_FAIL raised (R98, R115).
Each is the whole effect where there is no work; a press whose cover is OPEN goes to HALTED instead of IDLE (R91). The
decision of a press that enters IDLE (R66): with no due flag, where wake demand has nobody to ask, READY gives it the
candidate ranked first, and the job is bound (R71), its FAIR pointer at the job's account in FAIR mode (R69); no sheet
starts while it has no credit. A job is eligible while QUEUED with every page of the sheet at its cursor COMPLETE, for
one copy, or with all its pages received, for more (R15). The ranking (R65, R68 to R70): a candidate is eligible, of
the press's target, and fits; the one ranked first has the highest class, raised in AGED mode by one for each whole age
step since queued since and never above RUSH; within it, in FAIR mode, the account met first counting up from the one
after the FAIR pointer; then the oldest by commit sequence. -/
def Obligations.WakeSleepCalibrationEnds : Prop :=
  (∀ (s : State) (p : PressNo), Linked s p → NoWork s →
    let idle : PressState := if (s.press p).cover = some true then .halted .cover else .idle false 0
    let r := s.pressRec p
    (∀ n, (s.press p).state = .waking n →
      exec (.ready p) s =
        .next (((s.modRec p fun r => { r with
          longDue := r.longDue || (r.longThreshold != 0 && (s.press p).sleepStart.any fun t =>
            decide (r.longThreshold * 3600 ≤ (s.time - t).toNat)) }).modPress p fun x =>
          { x with heartbeat := 0, state := idle }).mark (.press p))) ∧
    ((s.press p).state = .sleeping ∨ (s.press p).state.isIdle = true →
      exec (.asleep p) s =
        .next ((s.modPress p fun x =>
          { x with heartbeat := 0, state := .asleep, sleepStart := some s.time }).mark (.press p))) ∧
    (∀ run n, (s.press p).state = .calibrating run n → (∀ x ∈ (s.press p).path, x.job = none) →
      let lost := s.modPress p fun x =>
        { x with heartbeat := 0, path := [], send := .idle, txq := x.txq.filter fun f => !f.needsCredit }
      exec (.caldone p true) s =
        .next (((lost.modRec p fun _ => { r with
          sheetCount := 0, shortDue := false, longDue := r.longDue && !run.long }).modPress p fun x =>
            { x with state := idle }).mark (.press p)) ∧
      exec (.caldone p false) s =
        .next (((lost.modPress p fun x => { x with state := .halted .calFail }).mark (.press p)).raise .calFail
          (.press p) none))) ∧
  (∀ (s : State) (p : PressNo) (n : Nat) (e : Entry) (j : Job), Linked s p → Awake s → (s.press p).state = .waking n →
    (s.press p).cover ≠ some true → (s.press p).credits = 0 →
    (s.pressRec p).shortDue = false → (s.pressRec p).longDue = false →
    ((s.pressRec p).longThreshold = 0 ∨
      ∀ t, (s.press p).sleepStart = some t → (s.time - t).toNat < (s.pressRec p).longThreshold * 3600) →
    s.bestCandidate p = some e → s.job e = some j → SheetWaits s p e j →
    (∀ d i, s.job d = some i → i.state.bound ≠ some p) →
    exec (.ready p) s =
      .next ((((s.modPress p fun x =>
        { x with
          heartbeat := 0, state := .busy none, heldPool := none
          fair := if s.ret.schedule.mode = .fair then j.account else x.fair }).setJob e (some
            { j with state := .printing p, starve := none })).mark (.press p)).mark (.job e))) ∧
  (∀ (s : State) (p : PressNo), Quiet s →
    let candidate (e : Entry) := ∃ j, s.job e = some j ∧ s.eligible e = true ∧ s.fits p j = true ∧
      (j.target = .press p ∨ ∃ q, j.target = .pool q ∧ s.poolInForce p = some q)
    let steps (j : Job) : Nat := match s.ret.schedule.mode, j.state with
      | .aged, .queued t => (s.time - t).toNat / (60 * s.ret.schedule.ageStep)
      | _, _ => 0
    let rank (j : Job) : Nat := min 2 ((match j.cls with | .rush => 2 | .normal => 1 | .bulk => 0) + steps j)
    let turn (j : Job) : Nat := if s.ret.schedule.mode = .fair then
      (j.account.val + 255 - (s.press p).fair.val) % 256 else 0
    let behind (j : Job) : Nat := (j.commit.map fun c => (s.commitCounter - c.seq).toNat).getD 0
    (∀ e j, s.job e = some j →
      (s.cursorReady e = true ↔ ∃ c n sh, j.commit = some c ∧ c.cursor = some n ∧ j.sheetOf n = some sh ∧
        ∀ k ∈ sh.pages, ∃ x, s.spool.page e k = some x ∧ x.2.state = .complete) ∧
      (s.eligible e = true ↔ (∃ t, j.state = .queued t) ∧
        if j.copies = 1 then s.cursorReady e = true
        else j.received = ((j.runs.getD []).map fun r => r.pages).sum)) ∧
    (s.bestCandidate p = none ↔ ∀ e, ¬ candidate e) ∧
    (∀ e, s.bestCandidate p = some e → candidate e ∧
      ∀ d i j, candidate d → s.job d = some i → s.job e = some j →
        rank i < rank j ∨ (rank i = rank j ∧
          (turn j < turn i ∨ (turn j = turn i ∧ behind i ≤ behind j)))))

/-! ## Timers and the panel -/

/-- The link's timers. A heartbeat of 5 s takes the link down (R88, R89): DOWN, its receiver hunting, nothing to send,
no credits, no path, no cover, LINK_DOWN raised, COVER_OPEN and JAM ended; the whole effect on a press that is not
BUSY, with an empty path and in no queue, with no work. On a BUSY press that prints, in no queue, where no press can be
bound or woken, its path is lost besides (R57, R60): the cursor returns to the oldest lost position, none of whose
pages is DAMAGED, the lost sheets count as reprints, no jam counts, and the job is QUEUED from now. That the PRESS
REPORT is pending ahead of those alerts (log entry 42) and that the frame on the line is kept to its end (log entry 20)
are the model's choices. The signal ends after 10 ms; the window after 10 s, with LINK_DOWN raised unless it began at
the start of the part on a press with no learned capabilities (R90). -/
def Obligations.LinkTimers : Prop :=
  ∀ (s : State) (p : PressNo), s.phase = .running → Quiet s →
    ((s.press p).state ≠ .down → 5000 ≤ (s.press p).heartbeat → (∀ c, (s.circuit c).queue.contains p = false) →
      let lost := s.modPress p fun x =>
        { x with
          state := .down, credits := 0, cover := none, heartbeat := 0, txq := [], path := [], send := .idle
          resumeMark := false, rx := none }
      let alerts (t : State) := ((t.raise .linkDown (.press p) none).endCondition .coverOpen (.press p)).endCondition .jam
        (.press p)
      (NoWork s → (∀ m, (s.press p).state ≠ .busy m) → (s.press p).path = [] →
        exec (.heartbeatExpiry p) s = .next (alerts (lost.mark (.press p)))) ∧
      (∀ head rest e n j c, Still s → (s.press p).state = .busy none → (s.press p).path = head :: rest →
        head.job = some (e, n) → BoundAlone s p e j → j.state = .printing p → j.commit = some c → Undamaged s e j n →
        exec (.heartbeatExpiry p) s =
          .next (alerts (((lost.setJob e (some { j with
            commit := some { c with cursor := some n }
            reprinted := min (j.reprinted + (rest.length + 1)) 4294967295, state := .queued s.time
            starve := none })).mark (.job e)).mark (.press p))))) ∧
    (∀ r, (s.press p).restart = some r → r.signal = true → 10 ≤ r.elapsed →
      exec (.restartSignalEnd p) s =
        .next (s.modPress p fun x => { x with restart := some { r with signal := false } })) ∧
    (∀ r, NoWork s ∨ Still s → (s.press p).restart = some r → 10000 ≤ r.elapsed →
      let ended := (s.modPress p fun x => { x with restart := none }).mark (.press p)
      exec (.restartWindowExpiry p) s =
        .next (if r.atStart = true ∧ (s.pressRec p).caps = none then ended
          else ended.raise .linkDown (.press p) none))

/-- The time-outs. A wake of 180 s takes the press to HALTED with WAKE_FAIL raised (R92); a calibration of 300 s to
HALTED with its service sheets removed and CAL_FAIL raised (R98, R115); a starve timer at its limit has the job drain
toward STARVED, media wait ending first (log entry 42), which is the whole effect while sheets are in its path (R17,
R50). -/
def Obligations.TimeOuts : Prop :=
  ∀ s : State, s.phase = .running → Quiet s →
    (∀ p n, NoWork s ∨ Still s → (s.press p).state = .waking n → 180000 ≤ n →
      exec (.wakeTimeout p) s =
        .next (((s.modPress p fun x => { x with state := .halted .wakeFail }).mark (.press p)).raise .wakeFail
          (.press p) none)) ∧
    (∀ p run n, NoWork s ∨ Still s → (s.press p).state = .calibrating run n → 300000 ≤ n →
      (∀ x ∈ (s.press p).path, x.job = none) →
      exec (.calibrationTimeout p) s =
        .next (((s.modPress p fun x =>
          { x with
            state := .halted .calFail, path := [], send := .idle
            txq := x.txq.filter fun f => !f.needsCredit }).mark (.press p)).raise .calFail (.press p) none)) ∧
    (∀ e j p t, Still s → s.job e = some j → j.state = .printing p → j.starve = some t → t.limit ≤ t.elapsed →
      ∀ now, (s.press p).state = .busy now → (s.press p).path ≠ [] →
      exec (.starveExpiry e) s =
        .next (((s.mediaWaitEnded p now).setJob e (some
          { j with state := .draining p .starved, starve := none })).mark (.job e)))

/-- Sleep and wake. An idle timer at the timeout sets SLEEP_PENDING, and before the sleep point that is the whole
effect (R109); at the sleep point a press with SLEEP_PENDING goes to SLEEPING with SLEEP sent (R110). At the next
grant time the head of a circuit's queue is granted its wake: it leaves the queue, the start joins the ring of 4, the
awake-since time is now, the press is WAKING and WAKE is sent; with a spacing above 0 no second grant follows (R104,
R106). -/
def Obligations.SleepAndGrant : Prop :=
  ∀ s : State, s.phase = .running → Quiet s →
    (∀ p n since, (s.press p).state = .idle false n → (s.pressRec p).idleTimeout ≠ 0 →
      (s.pressRec p).idleTimeout * 60000 ≤ n → (s.press p).awakeSince = some since →
      (s.time - since).toNat < (s.pressRec p).minAwake * 60 →
      exec (.idleTimerExpiry p) s =
        .next ((s.modPress p fun x => { x with state := .idle true 0 }).mark (.press p))) ∧
    (∀ p n since, NoWork s → (s.press p).state = .idle true n → (s.press p).awakeSince = some since →
      (s.pressRec p).minAwake * 60 ≤ (s.time - since).toNat → (s.press p).txq = [] → (s.press p).line = none →
      exec (.sleepPointReached p) s =
        .next ((s.modPress p fun x => { x with state := .sleeping, line := some .sleep }).mark (.press p))) ∧
    (∀ c p rest o, NoWork s → (s.circuit c).queue = p :: rest → (s.press p).state = .wakeWait o →
      (s.press p).txq = [] → (s.press p).line = none → (s.settings c).ts ≠ 0 →
      ((s.settings c).tw = 0 ∨ ((s.circuit c).ring.filter fun t =>
        decide ((s.time - t).toNat < (s.settings c).tw)).length < (s.settings c).w) →
      (∀ t ∈ (s.circuit c).ring.head?, (s.settings c).ts ≤ (s.time - t).toNat) →
      exec (.nextGrantTime c) s =
        .next ((((s.modCircuit c fun x => { ring := (s.time :: x.ring).take 4, queue := rest }).modPress p fun x =>
          { x with state := .waking 0, awakeSince := some s.time, line := some .wake }).mark (.press p))))

/-- What the raise of an alert, the end of a condition, an escalation and the panel button do to the alert table. A
raise (R150, R151) into the entry of its kind and source merges, or reopens a CLEARED_UNACKED one: occurrences rises to
at most 65,535, a detail carried replaces the old one, changed at is now. With no such entry it is suppressed where its
kind's level is 0 (R149); else it takes the lowest-numbered free ordinary entry at that level, ACTIVE_UNACKED; with
none free it replaces the ordinary CLEARED_UNACKED entry of the lowest level, then the earliest change, then the lowest
number; with none of those it counts as a raise of OVERFLOW in entry 31, at level 14. The end of a condition (R152)
makes an ACTIVE_UNACKED entry CLEARED_UNACKED and removes an ACTIVE_ACKED one. Each change makes the entry's report
pending with its action (R159). An ACTIVE_UNACKED entry below level 15 rises by one level after each interval (R156). A
press of the button acts on the unacknowledged entry of the highest level, then the earliest change, then the lowest
number (R155), once until it is released: an ACTIVE_UNACKED condition becomes ACTIVE_ACKED, every other is removed
(R153); with no unacknowledged entry the alert table stays. -/
def Obligations.EscalationAndButton : Prop :=
  (∀ (s : State) (k : AlertKind) (src : Source),
    let put (n : AlertNo) (a : Option Alert) (act : AlertAction) (replaces : Bool) : State :=
      ({ s with alerts := s.alerts.set n a } : State).mark (.alert n act replaces)
    let again (n : AlertNo) (a : Alert) (d : Option Nat) : State :=
      put n (some { a with
        occurrences := min (a.occurrences + 1) 65535, detail := if d = none then a.detail else d, changedAt := s.time
        state := if a.state = .clearedUnacked then .activeUnacked else a.state })
        (if a.state = .clearedUnacked then .reopened else .merged) false
    let new (k : AlertKind) (src : Source) (d : Option Nat) (level : Nat) : Option Alert := some
      { kind := k, source := src, detail := d, level := level, state := .activeUnacked, occurrences := 1
        raisedAt := s.time, changedAt := s.time }
    let keyed (n : AlertNo) (a : Alert) := s.alert n = some a ∧ a.kind = k ∧ a.source = src
    let first (n : AlertNo) (a : Alert) := keyed n a ∧ ∀ m < n, ∀ b, ¬ keyed m b
    let cleared (n : AlertNo) (a : Alert) := n < 31 ∧ s.alert n = some a ∧ a.state = .clearedUnacked
    let levels := s.ret.levels
    let level := match k with
      | .jam => levels[0] | .mediaOut => levels[1] | .coverOpen => levels[2] | .wakeFail => levels[3]
      | .linkDown => levels[4] | .spoolFault => levels[5] | .jobFlagged => levels[6] | .jobStarved => levels[7]
      | .creditWait => levels[8] | .supplyLow => levels[9] | .calFail => levels[10] | .protocolFault => levels[11]
      | .overflow => 14
    (∀ d : Option Nat, k ≠ .overflow →
      (∀ n a, first n a → s.raise k src d = again n a d) ∧
      ((∀ n a, ¬ keyed n a) →
        (level = 0 → s.raise k src d = s) ∧
        (level ≠ 0 →
          (∀ n, n < 31 → s.alert n = none → (∀ m < n, s.alert m ≠ none) →
            s.raise k src d = put n (new k src d level) .raised false) ∧
          ((∀ n, n < 31 → s.alert n ≠ none) →
            (∀ n a, cleared n a →
              (∀ m b, cleared m b → m ≠ n → a.level < b.level ∨ (a.level = b.level ∧
                ((s.time - b.changedAt).toNat < (s.time - a.changedAt).toNat ∨
                  ((s.time - b.changedAt).toNat = (s.time - a.changedAt).toNat ∧ n < m)))) →
              s.raise k src d = put n (new k src d level) .raised true) ∧
            ((∀ n a, ¬ cleared n a) →
              (∀ a, s.alert 31 = some a → s.raise k src d = again 31 a none) ∧
              (s.alert 31 = none → s.raise k src d = put 31 (new .overflow .part none 14) .raised false)))))) ∧
    ((∀ n a, ¬ keyed n a) → s.endCondition k src = s) ∧
    (∀ n a, first n a → s.endCondition k src =
      match a.state with
      | .activeUnacked => put n (some { a with state := .clearedUnacked, changedAt := s.time }) .cleared false
      | .activeAcked => put n none .removed false
      | .clearedUnacked => s) ∧
    ∀ n a act replaces, s.setAlert n a act replaces = put n a act replaces) ∧
  ∀ s : State, s.phase = .running →
    (∀ n a, s.alert n = some a → a.state = .activeUnacked → a.level < 15 → s.ret.schedule.escalation ≠ 0 →
      s.ret.schedule.escalation ≤ (s.time - a.changedAt).toNat →
      exec (.escalation n) s =
        .next (s.setAlert n (some { a with level := a.level + 1, changedAt := s.time }) .escalated false)) ∧
    (s.buttonArmed = true →
      let t : State := { s with buttonArmed := false }
      (∀ n a, s.alert n = some a → a.state ≠ .activeAcked →
        (∀ m b, s.alert m = some b → b.state ≠ .activeAcked → m ≠ n →
          b.level < a.level ∨ (b.level = a.level ∧ ((s.time - b.changedAt).toNat < (s.time - a.changedAt).toNat ∨
            ((s.time - b.changedAt).toNat = (s.time - a.changedAt).toNat ∧ n < m)))) →
        exec .ackButtonPress s =
          .next (if a.state = .activeUnacked ∧ a.kind.isCondition = true then
            t.setAlert n (some { a with state := .activeAcked, changedAt := s.time }) .acked false
          else t.setAlert n none .removed false)) ∧
      ((∀ n a, s.alert n = some a → a.state = .activeAcked) → exec .ackButtonPress s = .next t)) ∧
    (s.buttonArmed = false → exec .ackButtonPress s = .next s) ∧
    exec .ackButtonRelease s = .next { s with buttonArmed := true }

/-! ## Supply and starts -/

/-- The supply monitor of a running part (R174): below the falling threshold of the selection NORMAL becomes LOW and
SUPPLY_LOW is raised; above the rising threshold, 0.07 V higher, LOW becomes NORMAL and SUPPLY_LOW ends; between them
nothing but the sense changes. On the entry into NORMAL the conditions of R46 and R114 are examined on every press: on
a press whose PRINTING job's next sheet is ready the sheet starts, unless the press lets none start (R46, R52); on a
CALIBRATING one the next pattern sheet of the run does (bytes: free values, log entry 11); every other press stays as
it was, and a job's starve timer runs on while a page is missing (R50). A part that does not run only has its input
change.
The starts (R175, R176). The loss of the main supply ends the working state and keeps the retained domain; its validity
mark while the backup cell holds it; the cell's loss ends the mark while the supply is off, and the mark goes with the
supply after it; the supply's return starts the part with cause POWER, held while the reset input is asserted; the
reset input asserted on a running part ends its working state and holds it in start with cause RESET INPUT, which it
takes as its cause when it is released. The phases off, held and starting (log entry 28), and that a cell once lost
stays so (log entry 19), are the model's choices. -/
def Obligations.SupplyAndStarts : Prop :=
  (∀ (s : State) (mv : Nat), Quiet s →
    let falling := 2920 + 40 * s.ret.schedule.threshold
    let new : State := { s with sense := mv }
    let still := ∀ p, (s.boundJob p = none) ∧ ∀ r t, (s.press p).state ≠ .calibrating r t
    (s.phase = .running → mv < s.sense → s.low = false → mv < falling →
      exec (.supplyFall mv) s = .next (({ new with low := true } : State).raise .supplyLow .part none)) ∧
    (mv < s.sense → s.phase ≠ .running ∨ s.low = true ∧ mv ≤ falling + 70 ∨ s.low = false ∧ falling ≤ mv →
      exec (.supplyFall mv) s = .next new) ∧
    (s.phase = .running → s.sense < mv → s.low = true → falling + 70 < mv → still →
      exec (.supplyRise mv) s = .next (({ new with low := false } : State).endCondition .supplyLow .part)) ∧
    (s.phase = .running → s.sense < mv → s.low = true → falling + 70 < mv →
      let u : State := { new with low := false }
      let rests (p : PressNo) := (∀ r t, (s.press p).state ≠ .calibrating r t) ∧ (s.boundJob p = none ∨
        (∀ m, (s.press p).state ≠ .busy m) ∨ ∃ e j target, BoundAlone s p e j ∧ j.state = .draining p target)
      let tray (p : PressNo) := (s.pressRec p).caps.bind fun c => c.trays.find? fun t => t.loaded
      let begins (p : PressNo) (run : CalRun) (t : Tray) := (s.press p).line = none ∧ (s.press p).txq = [] ∧
        ¬ NoStart u p ∧ run.started < run.count ∧ tray p = some t
      (∀ p, rests p ∨
        (∃ e j, Waits s p e j ∧
          (¬ SheetReady s p e j ∨ NoStart u p ∨ ∃ i sh data last, Starts u p e j i sh data last)) ∨
        ∃ run t, (s.press p).state = .calibrating run t ∧
          (NoStart u p ∨ run.count ≤ run.started ∨ tray p = none ∨ ∃ t, begins p run t)) →
      ∃ (presses : Vector Press 12) (jobs : Vector (Option Job) 64),
        exec (.supplyRise mv) s =
          .next (({ u with presses := presses, jobs := jobs } : State).endCondition .supplyLow .part) ∧
        (∀ e : Entry, (∀ p j, ¬ Waits s p e j) → jobs[e] = s.job e) ∧
        (∀ p (e : Entry) j, Waits s p e j → jobs[e] = some { j with starve := s.starveOf e j }) ∧
        ∀ p : PressNo,
          (rests p ∨ NoStart u p ∨ (∃ e j, Waits s p e j ∧ ¬ SheetReady s p e j) → presses[p] = s.press p) ∧
          (∀ e j i sh data last, Waits s p e j → Starts u p e j i sh data last →
            presses[p] = started (some (e, i)) sh.media sh.sides data last (s.press p)) ∧
          (∀ run t, (s.press p).state = .calibrating run t →
            (run.count ≤ run.started ∨ tray p = none → presses[p] = s.press p) ∧
            ∀ t', begins p run t' →
              let n := run.started + 1
              let sides := if run.long = true ∧ n = 2 ∧ ((s.pressRec p).caps.any fun c => c.duplex) = true then 2 else 1
              presses[p] = started none t'.media sides ((List.range 512).map fun i =>
                Config.patternByte run.long n 1 i) false
                  { s.press p with state := .calibrating { run with started := n } t })) ∧
    (s.sense < mv → s.phase ≠ .running ∨ s.low = true ∧ mv ≤ falling + 70 ∨ s.low = false ∧ falling ≤ mv →
      exec (.supplyRise mv) s = .next new)) ∧
  (∀ s : State,
    (∃ t, exec .mainSupplyLoss s = .next t ∧ t.phase = .off ∧ t.ret = s.ret ∧ t.cellHolds = s.cellHolds ∧
      (t.retainedValid = true ↔ s.retainedValid = true ∧ s.cellHolds = true) ∧
      (∀ e, t.job e = none) ∧ t.spool = Spool.fresh ∧ (∀ n, t.alert n = none) ∧ t.intake = [] ∧ t.slot = none ∧
      t.reports = [] ∧ (∀ p, t.press p = Press.down)) ∧
    exec .backupCellLoss s = .next { s with
      cellHolds := false, retainedValid := if s.phase = .off then false else s.retainedValid } ∧
    (s.phase = .off → exec .supplyStart s =
      .next { s with phase := if s.resetPin then .held .power else .starting .power }) ∧
    (s.phase = .running → ∃ t, exec .resetInputAssert s = .next t ∧ t.phase = .held .resetInput ∧ t.resetPin = true ∧
      t.ret = s.ret ∧ t.retainedValid = s.retainedValid ∧ t.cellHolds = s.cellHolds ∧ (∀ e, t.job e = none) ∧
      t.spool = Spool.fresh ∧ t.reports = []) ∧
    (∀ c, s.phase = .starting c →
      exec .resetInputAssert s = .next { s with resetPin := true, phase := .held .resetInput }) ∧
    (∀ c, s.phase = .held c → exec .resetInputRelease s = .next { s with resetPin := false, phase := .starting c }))

/-- A start of the part (R175, R176): part time is 0 and the cause is recorded; every entry is FREE, the spool all
free, every press DOWN with its link restarted; a valid retained domain is kept but for its hold totals (R134), a lost
one takes its defaults and adds the RETAINED_LOST mark; the rate is the straps'; the supply is NORMAL only above the
rising threshold, and LOW raises SUPPLY_LOW at its level; the STARTUP REPORT is first in the queue. The phase starting
with the straps and the sense that START_OF_PART carries (log entry 28), and the host line at mark (log entry 26), are
the model's choices. -/
def Obligations.PartStarts : Prop :=
  ∀ (s : State) (c : ResetCause) (strap1 strap0 : Bool) (mv : Nat), s.phase = .starting c →
    let ret := if s.retainedValid then
      { s.ret with accounts := s.ret.accounts.map fun a => { a with holdTotal := 0 } } else Retained.default
    ∃ t, exec (.startOfPart strap1 strap0 mv) s = .next t ∧ t.phase = .running ∧ t.time = 0 ∧ t.cause = c ∧
      t.lost = !s.retainedValid ∧ t.retainedValid = true ∧ t.cellHolds = s.cellHolds ∧ t.ret = ret ∧ t.sense = mv ∧
      t.rate = (if strap1 then 2 else 0) + (if strap0 then 1 else 0) ∧
      t.low = decide (mv ≤ 2990 + 40 * ret.schedule.threshold) ∧
      (∀ e, t.job e = none) ∧ t.serialCounter = 1 ∧ t.spool = Spool.fresh ∧
      (∀ p, t.press p = { Press.down with restart := some { signal := true, elapsed := 0, atStart := true } }) ∧
      (∀ k, (t.circuit k).ring = [] ∧ (t.circuit k).queue = []) ∧
      t.framer = { bytes := none, atSpace := false } ∧ t.intake = [] ∧ t.slot = none ∧ t.reports.head? = some .start ∧
      t.pending = s.pending ∧
      (t.low = false → ∀ n, t.alert n = none) ∧
      (t.low = true → 0 < ret.levels[9] → t.alert 0 = some
        { kind := .supplyLow, source := .part, detail := none, level := ret.levels[9], state := .activeUnacked
          occurrences := 1, raisedAt := 0, changedAt := 0 })

/-! ## Prices, sheets, the spool -/

/-- The side price, and the nominal price of a sheet of one and of two sides. A duplex run's last sheet of an odd page
count and every sheet of a simplex run have one side. -/
def Obligations.SidePrice : Prop :=
  (∀ (t : PriceTable) (m : Fin 16) (b : Fin 4),
    let side := (t.base[m] * t.cf[b] + 128) / 256
    t.side m.val b.val = side ∧
    (t.cf[b] = 256 → side = t.base[m]) ∧ (t.base[m] = 0 → side = 0) ∧ (t.cf[b] = 0 → side = 0) ∧
    t.nominal m.val b.val 1 = side ∧
    t.nominal m.val b.val 2 = side + (side * t.df + 128) / 256 ∧
    (t.df = 256 → t.nominal m.val b.val 2 = 2 * t.nominal m.val b.val 1) ∧
    (t.df = 0 → t.nominal m.val b.val 2 = t.nominal m.val b.val 1)) ∧
  (∀ (r : Run) (f i : Nat), i < r.sheets →
    (r.sheet f i).sides = if r.duplex = true ∧ (i + 1 < r.sheets ∨ r.pages % 2 = 0) then 2 else 1)

/-- The sheet charge of a position (R128, R129): the nominal price of its type, scaled by the factor of the tier its
ordinal lies in; T1 of 0 empties tier 0, T2 at T1 tier 1, T2 of 2,088,960 tier 2 for every ordinal a job can have.
With thresholds of 0 every ordinal is in tier 2, and a factor of 256 leaves the nominal price unchanged. A delivered
position is charged under the table whose generation is its job's. -/
def Obligations.SheetCharge : Prop :=
  (∀ (s : State) (j : Job) (c : Commit) (sh : Sheet) (n : Nat), j.commit = some c → j.sheetOf n = some sh →
    s.ret.current.gen ≠ s.ret.other.gen →
    (c.gen = s.ret.current.gen → s.chargeOf j n = s.ret.current.sheetCharge sh n) ∧
    (c.gen = s.ret.other.gen → s.chargeOf j n = s.ret.other.sheetCharge sh n)) ∧
  ∀ (t : PriceTable) (sh : Sheet) (n : Nat),
    let factor := if n ≤ t.t1 then t.tf0 else if n ≤ t.t2 then t.tf1 else t.tf2
    t.sheetCharge sh n = (t.nominal sh.media sh.band sh.sides * factor + 128) / 256 ∧
    (1 ≤ n → t.t1 = 0 → t.tier n ≠ 0) ∧ (t.t2 = t.t1 → t.tier n ≠ 1) ∧
    (n ≤ 2088960 → t.t2 = 2088960 → t.tier n ≠ 2) ∧
    t.tier n = (if n ≤ t.t1 then 0 else if n ≤ t.t2 then 1 else 2) ∧
    (1 ≤ n → t.t1 = 0 → t.t2 = 0 → t.tier n = 2) ∧
    (t.tf2 = 256 → t.tier n = 2 → t.sheetCharge sh n = t.nominal sh.media sh.band sh.sides)

/-- The estimate that is formed by groups is the sum of the sheet charges of every position, 1 to total sheets (R131),
under a table in service, whose T2 is at or above T1 (R123). -/
def Obligations.EstimateIsSum : Prop :=
  ∀ (t : PriceTable) (j : Job) (runs : List Run), t.t1 ≤ t.t2 → j.runs = some runs →
    t.estimate runs j.copies =
      ((List.range j.total).map fun i => ((j.sheetOf (i + 1)).map fun sh => t.sheetCharge sh (i + 1)).getD 0).sum

/-- Each page of a run list is carried by one sheet of a copy (R36, R42). -/
def Obligations.PagesCarriedOnce : Prop :=
  ∀ (runs : List Run) (k : Nat), k < (runs.map fun r => r.pages).sum →
    ∃ i sh, sheetAt runs 0 i = some sh ∧ k ∈ sh.pages ∧ sh.pages.count k = 1 ∧
      ∀ i' sh', sheetAt runs 0 i' = some sh' → k ∈ sh'.pages → i' = i

/-- What intake, reading and freeing do to the spool. A page's chain runs from its first block on by the links, 8,192
blocks at most (R24). Bytes stored in an empty page read back in order (R24, R25, R30): they take the blocks from the
top of the free list, in that order, the chain holds them, every block but the last holds 512, and every full block is
closed with its check. A segment writes its page's descriptor alone; with END its page is COMPLETE and its last block,
if open, is closed with its check (R32). A read tests the check of the block at its place in the chain, and hands its
bytes with a mark where no block follows, or fails; past the chain, and of a page of no bytes, it hands none (R34,
R35). The release of a COMPLETE page returns its blocks to the top of the free list in chain order, and leaves it
RELEASED with no block (R26, R37); a page in another state stays. A finished job's pages are freed in page order (R38):
the blocks of each but the RELEASED ones return so, and every descriptor of the job is free. -/
def Obligations.PageReadsBack : Prop :=
  (∀ (sp : Spool) (pg : Page) (data : List Byte), pg.first = none → pg.last = none → pg.byteLen = 0 → sp.free.Nodup →
    (∀ b ∈ sp.free, sp.block b = none) → (data.length + 511) / 512 ≤ sp.free.length → data.length ≤ 4194304 →
    let n := (data.length + 511) / 512
    let r := storeBytes data.length data (sp, pg)
    r.1.chain r.2 = sp.free.take n ∧ r.1.free = sp.free.drop n ∧ r.2.byteLen = data.length ∧ r.1.pool = sp.pool ∧
    (((r.1.chain r.2).map fun b => ((r.1.block b).map (·.data)).getD []).flatten = data) ∧
    ∀ i b blk, (r.1.chain r.2)[i]? = some b → r.1.block b = some blk →
      (i + 1 < n → blk.data.length = 512) ∧ blk.data.length ≤ 512 ∧
      (blk.data.length = 512 → blk.check = some (crc16 blk.data)) ∧ (blk.data.length ≠ 512 → blk.check = none)) ∧
  (∀ (sp : Spool) (pg : Page),
    (sp.chain pg).length ≤ 8192 ∧ (sp.chain pg)[0]? = pg.first ∧
    ∀ i, i + 1 < 8192 → (sp.chain pg)[i + 1]? = (sp.chain pg)[i]?.bind fun b => (sp.block b).bind fun blk => blk.link) ∧
  (∀ (sp : Spool) (d : Nat) (pg : Page) (data : List Byte) (ends : Bool),
    let r := storeBytes data.length data (sp, pg)
    let t := sp.storeSegment d pg data ends
    t.free = r.1.free ∧
    (∀ i, t.pool.lookup i = if i = d then some { r.2 with state := if ends then .complete else r.2.state }
      else sp.pool.lookup i) ∧
    ∀ b, t.block b = if ends = true ∧ r.2.last = some b then
      (r.1.block b).map fun blk => if blk.check = none then { blk with check := some (crc16 blk.data) } else blk
      else r.1.block b) ∧
  (∀ (sp : Spool) (pg : Page) (framed : Nat),
    ((sp.chain pg)[framed / 512]? = none → sp.readBlock pg framed = .bytes [] true) ∧
    ∀ b blk, (sp.chain pg)[framed / 512]? = some b → sp.block b = some blk →
      (blk.check = some (crc16 blk.data) →
        sp.readBlock pg framed = .bytes blk.data (decide ((sp.chain pg).length ≤ framed / 512 + 1))) ∧
      (blk.check ≠ some (crc16 blk.data) → sp.readBlock pg framed = .failed)) ∧
  (∀ (sp : Spool) (e : Entry) (k : Nat),
    (∀ d pg, sp.page e k = some (d, pg) → pg.state = .complete →
      let t := sp.releasePage e k
      t.free = (sp.chain pg).reverse ++ sp.free ∧
      (∀ b, t.block b = if b ∈ sp.chain pg then none else sp.block b) ∧
      ∀ i, t.pool.lookup i = if i = d then some { pg with state := .released, first := none, last := none }
        else sp.pool.lookup i) ∧
    ((∀ x, sp.page e k = some x → x.2.state ≠ .complete) → sp.releasePage e k = sp)) ∧
  ∀ (sp : Spool) (e : Entry) (pages : List (Nat × Page)), sp.wf = true →
    (∀ k x, pages[k]? = some x → sp.page e k = some x) → (sp.pool.filter fun x => x.2.job == e).length = pages.length →
    let held := (pages.filter fun x => x.2.state != .released).flatMap fun x => sp.chain x.2
    held.Nodup →
    let t := sp.freeJob e
    t.free = held.reverse ++ sp.free ∧ t.pool = (sp.pool.filter fun x => x.2.job != e) ∧
      ∀ b, t.block b = if b ∈ held then none else sp.block b
end

