-- ==== Sys2Proof/Laws/State.lean ====
section
/-! SUPPORT. One lemma for each field of the state and each named update: the fields an update leaves alone, and what a
lookup gives after one. -/

namespace Sys2Proof.Machine

variable (s : State)

/-! ## setJob -/

@[simp] theorem State.setJob_phase (e : Entry) (j : Option Job) : (s.setJob e j).phase = s.phase := rfl
@[simp] theorem State.setJob_resetPin (e : Entry) (j : Option Job) : (s.setJob e j).resetPin = s.resetPin := rfl
@[simp] theorem State.setJob_retainedValid (e : Entry) (j : Option Job) : (s.setJob e j).retainedValid = s.retainedValid := rfl
@[simp] theorem State.setJob_cellHolds (e : Entry) (j : Option Job) : (s.setJob e j).cellHolds = s.cellHolds := rfl
@[simp] theorem State.setJob_ret (e : Entry) (j : Option Job) : (s.setJob e j).ret = s.ret := rfl
@[simp] theorem State.setJob_sense (e : Entry) (j : Option Job) : (s.setJob e j).sense = s.sense := rfl
@[simp] theorem State.setJob_low (e : Entry) (j : Option Job) : (s.setJob e j).low = s.low := rfl
@[simp] theorem State.setJob_cause (e : Entry) (j : Option Job) : (s.setJob e j).cause = s.cause := rfl
@[simp] theorem State.setJob_lost (e : Entry) (j : Option Job) : (s.setJob e j).lost = s.lost := rfl
@[simp] theorem State.setJob_time (e : Entry) (j : Option Job) : (s.setJob e j).time = s.time := rfl
@[simp] theorem State.setJob_ms (e : Entry) (j : Option Job) : (s.setJob e j).ms = s.ms := rfl
@[simp] theorem State.setJob_rate (e : Entry) (j : Option Job) : (s.setJob e j).rate = s.rate := rfl
@[simp] theorem State.setJob_framer (e : Entry) (j : Option Job) : (s.setJob e j).framer = s.framer := rfl
@[simp] theorem State.setJob_intake (e : Entry) (j : Option Job) : (s.setJob e j).intake = s.intake := rfl
@[simp] theorem State.setJob_slot (e : Entry) (j : Option Job) : (s.setJob e j).slot = s.slot := rfl
@[simp] theorem State.setJob_restartPending (e : Entry) (j : Option Job) : (s.setJob e j).restartPending = s.restartPending := rfl
@[simp] theorem State.setJob_txReport (e : Entry) (j : Option Job) : (s.setJob e j).txReport = s.txReport := rfl
@[simp] theorem State.setJob_reports (e : Entry) (j : Option Job) : (s.setJob e j).reports = s.reports := rfl
@[simp] theorem State.setJob_serialCounter (e : Entry) (j : Option Job) : (s.setJob e j).serialCounter = s.serialCounter := rfl
@[simp] theorem State.setJob_commitCounter (e : Entry) (j : Option Job) : (s.setJob e j).commitCounter = s.commitCounter := rfl
@[simp] theorem State.setJob_spool (e : Entry) (j : Option Job) : (s.setJob e j).spool = s.spool := rfl
@[simp] theorem State.setJob_presses (e : Entry) (j : Option Job) : (s.setJob e j).presses = s.presses := rfl
@[simp] theorem State.setJob_circuits (e : Entry) (j : Option Job) : (s.setJob e j).circuits = s.circuits := rfl
@[simp] theorem State.setJob_alerts (e : Entry) (j : Option Job) : (s.setJob e j).alerts = s.alerts := rfl
@[simp] theorem State.setJob_buttonArmed (e : Entry) (j : Option Job) : (s.setJob e j).buttonArmed = s.buttonArmed := rfl
@[simp] theorem State.setJob_agenda (e : Entry) (j : Option Job) : (s.setJob e j).agenda = s.agenda := rfl
@[simp] theorem State.setJob_demand (e : Entry) (j : Option Job) : (s.setJob e j).demand = s.demand := rfl
@[simp] theorem State.setJob_pending (e : Entry) (j : Option Job) : (s.setJob e j).pending = s.pending := rfl

/-! ## modJob -/

@[simp] theorem State.modJob_phase (e : Entry) (f : Job → Job) : (s.modJob e f).phase = s.phase := rfl
@[simp] theorem State.modJob_resetPin (e : Entry) (f : Job → Job) : (s.modJob e f).resetPin = s.resetPin := rfl
@[simp] theorem State.modJob_retainedValid (e : Entry) (f : Job → Job) : (s.modJob e f).retainedValid = s.retainedValid := rfl
@[simp] theorem State.modJob_cellHolds (e : Entry) (f : Job → Job) : (s.modJob e f).cellHolds = s.cellHolds := rfl
@[simp] theorem State.modJob_ret (e : Entry) (f : Job → Job) : (s.modJob e f).ret = s.ret := rfl
@[simp] theorem State.modJob_sense (e : Entry) (f : Job → Job) : (s.modJob e f).sense = s.sense := rfl
@[simp] theorem State.modJob_low (e : Entry) (f : Job → Job) : (s.modJob e f).low = s.low := rfl
@[simp] theorem State.modJob_cause (e : Entry) (f : Job → Job) : (s.modJob e f).cause = s.cause := rfl
@[simp] theorem State.modJob_lost (e : Entry) (f : Job → Job) : (s.modJob e f).lost = s.lost := rfl
@[simp] theorem State.modJob_time (e : Entry) (f : Job → Job) : (s.modJob e f).time = s.time := rfl
@[simp] theorem State.modJob_ms (e : Entry) (f : Job → Job) : (s.modJob e f).ms = s.ms := rfl
@[simp] theorem State.modJob_rate (e : Entry) (f : Job → Job) : (s.modJob e f).rate = s.rate := rfl
@[simp] theorem State.modJob_framer (e : Entry) (f : Job → Job) : (s.modJob e f).framer = s.framer := rfl
@[simp] theorem State.modJob_intake (e : Entry) (f : Job → Job) : (s.modJob e f).intake = s.intake := rfl
@[simp] theorem State.modJob_slot (e : Entry) (f : Job → Job) : (s.modJob e f).slot = s.slot := rfl
@[simp] theorem State.modJob_restartPending (e : Entry) (f : Job → Job) : (s.modJob e f).restartPending = s.restartPending := rfl
@[simp] theorem State.modJob_txReport (e : Entry) (f : Job → Job) : (s.modJob e f).txReport = s.txReport := rfl
@[simp] theorem State.modJob_reports (e : Entry) (f : Job → Job) : (s.modJob e f).reports = s.reports := rfl
@[simp] theorem State.modJob_serialCounter (e : Entry) (f : Job → Job) : (s.modJob e f).serialCounter = s.serialCounter := rfl
@[simp] theorem State.modJob_commitCounter (e : Entry) (f : Job → Job) : (s.modJob e f).commitCounter = s.commitCounter := rfl
@[simp] theorem State.modJob_spool (e : Entry) (f : Job → Job) : (s.modJob e f).spool = s.spool := rfl
@[simp] theorem State.modJob_presses (e : Entry) (f : Job → Job) : (s.modJob e f).presses = s.presses := rfl
@[simp] theorem State.modJob_circuits (e : Entry) (f : Job → Job) : (s.modJob e f).circuits = s.circuits := rfl
@[simp] theorem State.modJob_alerts (e : Entry) (f : Job → Job) : (s.modJob e f).alerts = s.alerts := rfl
@[simp] theorem State.modJob_buttonArmed (e : Entry) (f : Job → Job) : (s.modJob e f).buttonArmed = s.buttonArmed := rfl
@[simp] theorem State.modJob_agenda (e : Entry) (f : Job → Job) : (s.modJob e f).agenda = s.agenda := rfl
@[simp] theorem State.modJob_demand (e : Entry) (f : Job → Job) : (s.modJob e f).demand = s.demand := rfl
@[simp] theorem State.modJob_pending (e : Entry) (f : Job → Job) : (s.modJob e f).pending = s.pending := rfl

/-! ## modPress -/

@[simp] theorem State.modPress_phase (p : PressNo) (f : Press → Press) : (s.modPress p f).phase = s.phase := rfl
@[simp] theorem State.modPress_resetPin (p : PressNo) (f : Press → Press) : (s.modPress p f).resetPin = s.resetPin := rfl
@[simp] theorem State.modPress_retainedValid (p : PressNo) (f : Press → Press) : (s.modPress p f).retainedValid = s.retainedValid := rfl
@[simp] theorem State.modPress_cellHolds (p : PressNo) (f : Press → Press) : (s.modPress p f).cellHolds = s.cellHolds := rfl
@[simp] theorem State.modPress_ret (p : PressNo) (f : Press → Press) : (s.modPress p f).ret = s.ret := rfl
@[simp] theorem State.modPress_sense (p : PressNo) (f : Press → Press) : (s.modPress p f).sense = s.sense := rfl
@[simp] theorem State.modPress_low (p : PressNo) (f : Press → Press) : (s.modPress p f).low = s.low := rfl
@[simp] theorem State.modPress_cause (p : PressNo) (f : Press → Press) : (s.modPress p f).cause = s.cause := rfl
@[simp] theorem State.modPress_lost (p : PressNo) (f : Press → Press) : (s.modPress p f).lost = s.lost := rfl
@[simp] theorem State.modPress_time (p : PressNo) (f : Press → Press) : (s.modPress p f).time = s.time := rfl
@[simp] theorem State.modPress_ms (p : PressNo) (f : Press → Press) : (s.modPress p f).ms = s.ms := rfl
@[simp] theorem State.modPress_rate (p : PressNo) (f : Press → Press) : (s.modPress p f).rate = s.rate := rfl
@[simp] theorem State.modPress_framer (p : PressNo) (f : Press → Press) : (s.modPress p f).framer = s.framer := rfl
@[simp] theorem State.modPress_intake (p : PressNo) (f : Press → Press) : (s.modPress p f).intake = s.intake := rfl
@[simp] theorem State.modPress_slot (p : PressNo) (f : Press → Press) : (s.modPress p f).slot = s.slot := rfl
@[simp] theorem State.modPress_restartPending (p : PressNo) (f : Press → Press) : (s.modPress p f).restartPending = s.restartPending := rfl
@[simp] theorem State.modPress_txReport (p : PressNo) (f : Press → Press) : (s.modPress p f).txReport = s.txReport := rfl
@[simp] theorem State.modPress_reports (p : PressNo) (f : Press → Press) : (s.modPress p f).reports = s.reports := rfl
@[simp] theorem State.modPress_jobs (p : PressNo) (f : Press → Press) : (s.modPress p f).jobs = s.jobs := rfl
@[simp] theorem State.modPress_serialCounter (p : PressNo) (f : Press → Press) : (s.modPress p f).serialCounter = s.serialCounter := rfl
@[simp] theorem State.modPress_commitCounter (p : PressNo) (f : Press → Press) : (s.modPress p f).commitCounter = s.commitCounter := rfl
@[simp] theorem State.modPress_spool (p : PressNo) (f : Press → Press) : (s.modPress p f).spool = s.spool := rfl
@[simp] theorem State.modPress_circuits (p : PressNo) (f : Press → Press) : (s.modPress p f).circuits = s.circuits := rfl
@[simp] theorem State.modPress_alerts (p : PressNo) (f : Press → Press) : (s.modPress p f).alerts = s.alerts := rfl
@[simp] theorem State.modPress_buttonArmed (p : PressNo) (f : Press → Press) : (s.modPress p f).buttonArmed = s.buttonArmed := rfl
@[simp] theorem State.modPress_agenda (p : PressNo) (f : Press → Press) : (s.modPress p f).agenda = s.agenda := rfl
@[simp] theorem State.modPress_demand (p : PressNo) (f : Press → Press) : (s.modPress p f).demand = s.demand := rfl
@[simp] theorem State.modPress_pending (p : PressNo) (f : Press → Press) : (s.modPress p f).pending = s.pending := rfl

/-! ## modCircuit -/

@[simp] theorem State.modCircuit_phase (c : CircuitNo) (f : Circuit → Circuit) : (s.modCircuit c f).phase = s.phase := rfl
@[simp] theorem State.modCircuit_resetPin (c : CircuitNo) (f : Circuit → Circuit) : (s.modCircuit c f).resetPin = s.resetPin := rfl
@[simp] theorem State.modCircuit_retainedValid (c : CircuitNo) (f : Circuit → Circuit) : (s.modCircuit c f).retainedValid = s.retainedValid := rfl
@[simp] theorem State.modCircuit_cellHolds (c : CircuitNo) (f : Circuit → Circuit) : (s.modCircuit c f).cellHolds = s.cellHolds := rfl
@[simp] theorem State.modCircuit_ret (c : CircuitNo) (f : Circuit → Circuit) : (s.modCircuit c f).ret = s.ret := rfl
@[simp] theorem State.modCircuit_sense (c : CircuitNo) (f : Circuit → Circuit) : (s.modCircuit c f).sense = s.sense := rfl
@[simp] theorem State.modCircuit_low (c : CircuitNo) (f : Circuit → Circuit) : (s.modCircuit c f).low = s.low := rfl
@[simp] theorem State.modCircuit_cause (c : CircuitNo) (f : Circuit → Circuit) : (s.modCircuit c f).cause = s.cause := rfl
@[simp] theorem State.modCircuit_lost (c : CircuitNo) (f : Circuit → Circuit) : (s.modCircuit c f).lost = s.lost := rfl
@[simp] theorem State.modCircuit_time (c : CircuitNo) (f : Circuit → Circuit) : (s.modCircuit c f).time = s.time := rfl
@[simp] theorem State.modCircuit_ms (c : CircuitNo) (f : Circuit → Circuit) : (s.modCircuit c f).ms = s.ms := rfl
@[simp] theorem State.modCircuit_rate (c : CircuitNo) (f : Circuit → Circuit) : (s.modCircuit c f).rate = s.rate := rfl
@[simp] theorem State.modCircuit_framer (c : CircuitNo) (f : Circuit → Circuit) : (s.modCircuit c f).framer = s.framer := rfl
@[simp] theorem State.modCircuit_intake (c : CircuitNo) (f : Circuit → Circuit) : (s.modCircuit c f).intake = s.intake := rfl
@[simp] theorem State.modCircuit_slot (c : CircuitNo) (f : Circuit → Circuit) : (s.modCircuit c f).slot = s.slot := rfl
@[simp] theorem State.modCircuit_restartPending (c : CircuitNo) (f : Circuit → Circuit) : (s.modCircuit c f).restartPending = s.restartPending := rfl
@[simp] theorem State.modCircuit_txReport (c : CircuitNo) (f : Circuit → Circuit) : (s.modCircuit c f).txReport = s.txReport := rfl
@[simp] theorem State.modCircuit_reports (c : CircuitNo) (f : Circuit → Circuit) : (s.modCircuit c f).reports = s.reports := rfl
@[simp] theorem State.modCircuit_jobs (c : CircuitNo) (f : Circuit → Circuit) : (s.modCircuit c f).jobs = s.jobs := rfl
@[simp] theorem State.modCircuit_serialCounter (c : CircuitNo) (f : Circuit → Circuit) : (s.modCircuit c f).serialCounter = s.serialCounter := rfl
@[simp] theorem State.modCircuit_commitCounter (c : CircuitNo) (f : Circuit → Circuit) : (s.modCircuit c f).commitCounter = s.commitCounter := rfl
@[simp] theorem State.modCircuit_spool (c : CircuitNo) (f : Circuit → Circuit) : (s.modCircuit c f).spool = s.spool := rfl
@[simp] theorem State.modCircuit_presses (c : CircuitNo) (f : Circuit → Circuit) : (s.modCircuit c f).presses = s.presses := rfl
@[simp] theorem State.modCircuit_alerts (c : CircuitNo) (f : Circuit → Circuit) : (s.modCircuit c f).alerts = s.alerts := rfl
@[simp] theorem State.modCircuit_buttonArmed (c : CircuitNo) (f : Circuit → Circuit) : (s.modCircuit c f).buttonArmed = s.buttonArmed := rfl
@[simp] theorem State.modCircuit_agenda (c : CircuitNo) (f : Circuit → Circuit) : (s.modCircuit c f).agenda = s.agenda := rfl
@[simp] theorem State.modCircuit_demand (c : CircuitNo) (f : Circuit → Circuit) : (s.modCircuit c f).demand = s.demand := rfl
@[simp] theorem State.modCircuit_pending (c : CircuitNo) (f : Circuit → Circuit) : (s.modCircuit c f).pending = s.pending := rfl

/-! ## modAccount -/

@[simp] theorem State.modAccount_phase (a : AccountNo) (f : Account → Account) : (s.modAccount a f).phase = s.phase := rfl
@[simp] theorem State.modAccount_resetPin (a : AccountNo) (f : Account → Account) : (s.modAccount a f).resetPin = s.resetPin := rfl
@[simp] theorem State.modAccount_retainedValid (a : AccountNo) (f : Account → Account) : (s.modAccount a f).retainedValid = s.retainedValid := rfl
@[simp] theorem State.modAccount_cellHolds (a : AccountNo) (f : Account → Account) : (s.modAccount a f).cellHolds = s.cellHolds := rfl
@[simp] theorem State.modAccount_sense (a : AccountNo) (f : Account → Account) : (s.modAccount a f).sense = s.sense := rfl
@[simp] theorem State.modAccount_low (a : AccountNo) (f : Account → Account) : (s.modAccount a f).low = s.low := rfl
@[simp] theorem State.modAccount_cause (a : AccountNo) (f : Account → Account) : (s.modAccount a f).cause = s.cause := rfl
@[simp] theorem State.modAccount_lost (a : AccountNo) (f : Account → Account) : (s.modAccount a f).lost = s.lost := rfl
@[simp] theorem State.modAccount_time (a : AccountNo) (f : Account → Account) : (s.modAccount a f).time = s.time := rfl
@[simp] theorem State.modAccount_ms (a : AccountNo) (f : Account → Account) : (s.modAccount a f).ms = s.ms := rfl
@[simp] theorem State.modAccount_rate (a : AccountNo) (f : Account → Account) : (s.modAccount a f).rate = s.rate := rfl
@[simp] theorem State.modAccount_framer (a : AccountNo) (f : Account → Account) : (s.modAccount a f).framer = s.framer := rfl
@[simp] theorem State.modAccount_intake (a : AccountNo) (f : Account → Account) : (s.modAccount a f).intake = s.intake := rfl
@[simp] theorem State.modAccount_slot (a : AccountNo) (f : Account → Account) : (s.modAccount a f).slot = s.slot := rfl
@[simp] theorem State.modAccount_restartPending (a : AccountNo) (f : Account → Account) : (s.modAccount a f).restartPending = s.restartPending := rfl
@[simp] theorem State.modAccount_txReport (a : AccountNo) (f : Account → Account) : (s.modAccount a f).txReport = s.txReport := rfl
@[simp] theorem State.modAccount_reports (a : AccountNo) (f : Account → Account) : (s.modAccount a f).reports = s.reports := rfl
@[simp] theorem State.modAccount_jobs (a : AccountNo) (f : Account → Account) : (s.modAccount a f).jobs = s.jobs := rfl
@[simp] theorem State.modAccount_serialCounter (a : AccountNo) (f : Account → Account) : (s.modAccount a f).serialCounter = s.serialCounter := rfl
@[simp] theorem State.modAccount_commitCounter (a : AccountNo) (f : Account → Account) : (s.modAccount a f).commitCounter = s.commitCounter := rfl
@[simp] theorem State.modAccount_spool (a : AccountNo) (f : Account → Account) : (s.modAccount a f).spool = s.spool := rfl
@[simp] theorem State.modAccount_presses (a : AccountNo) (f : Account → Account) : (s.modAccount a f).presses = s.presses := rfl
@[simp] theorem State.modAccount_circuits (a : AccountNo) (f : Account → Account) : (s.modAccount a f).circuits = s.circuits := rfl
@[simp] theorem State.modAccount_alerts (a : AccountNo) (f : Account → Account) : (s.modAccount a f).alerts = s.alerts := rfl
@[simp] theorem State.modAccount_buttonArmed (a : AccountNo) (f : Account → Account) : (s.modAccount a f).buttonArmed = s.buttonArmed := rfl
@[simp] theorem State.modAccount_agenda (a : AccountNo) (f : Account → Account) : (s.modAccount a f).agenda = s.agenda := rfl
@[simp] theorem State.modAccount_demand (a : AccountNo) (f : Account → Account) : (s.modAccount a f).demand = s.demand := rfl
@[simp] theorem State.modAccount_pending (a : AccountNo) (f : Account → Account) : (s.modAccount a f).pending = s.pending := rfl
@[simp] theorem State.modAccount_ret_meters (a : AccountNo) (f : Account → Account) : (s.modAccount a f).ret.meters = s.ret.meters := rfl
@[simp] theorem State.modAccount_ret_current (a : AccountNo) (f : Account → Account) : (s.modAccount a f).ret.current = s.ret.current := rfl
@[simp] theorem State.modAccount_ret_other (a : AccountNo) (f : Account → Account) : (s.modAccount a f).ret.other = s.ret.other := rfl
@[simp] theorem State.modAccount_ret_filters (a : AccountNo) (f : Account → Account) : (s.modAccount a f).ret.filters = s.ret.filters := rfl
@[simp] theorem State.modAccount_ret_levels (a : AccountNo) (f : Account → Account) : (s.modAccount a f).ret.levels = s.ret.levels := rfl
@[simp] theorem State.modAccount_ret_presses (a : AccountNo) (f : Account → Account) : (s.modAccount a f).ret.presses = s.ret.presses := rfl
@[simp] theorem State.modAccount_ret_circuits (a : AccountNo) (f : Account → Account) : (s.modAccount a f).ret.circuits = s.ret.circuits := rfl
@[simp] theorem State.modAccount_ret_schedule (a : AccountNo) (f : Account → Account) : (s.modAccount a f).ret.schedule = s.ret.schedule := rfl
@[simp] theorem State.modAccount_ret_sticky (a : AccountNo) (f : Account → Account) : (s.modAccount a f).ret.sticky = s.ret.sticky := rfl

/-! ## modRec -/

@[simp] theorem State.modRec_phase (p : PressNo) (f : PressRec → PressRec) : (s.modRec p f).phase = s.phase := rfl
@[simp] theorem State.modRec_resetPin (p : PressNo) (f : PressRec → PressRec) : (s.modRec p f).resetPin = s.resetPin := rfl
@[simp] theorem State.modRec_retainedValid (p : PressNo) (f : PressRec → PressRec) : (s.modRec p f).retainedValid = s.retainedValid := rfl
@[simp] theorem State.modRec_cellHolds (p : PressNo) (f : PressRec → PressRec) : (s.modRec p f).cellHolds = s.cellHolds := rfl
@[simp] theorem State.modRec_sense (p : PressNo) (f : PressRec → PressRec) : (s.modRec p f).sense = s.sense := rfl
@[simp] theorem State.modRec_low (p : PressNo) (f : PressRec → PressRec) : (s.modRec p f).low = s.low := rfl
@[simp] theorem State.modRec_cause (p : PressNo) (f : PressRec → PressRec) : (s.modRec p f).cause = s.cause := rfl
@[simp] theorem State.modRec_lost (p : PressNo) (f : PressRec → PressRec) : (s.modRec p f).lost = s.lost := rfl
@[simp] theorem State.modRec_time (p : PressNo) (f : PressRec → PressRec) : (s.modRec p f).time = s.time := rfl
@[simp] theorem State.modRec_ms (p : PressNo) (f : PressRec → PressRec) : (s.modRec p f).ms = s.ms := rfl
@[simp] theorem State.modRec_rate (p : PressNo) (f : PressRec → PressRec) : (s.modRec p f).rate = s.rate := rfl
@[simp] theorem State.modRec_framer (p : PressNo) (f : PressRec → PressRec) : (s.modRec p f).framer = s.framer := rfl
@[simp] theorem State.modRec_intake (p : PressNo) (f : PressRec → PressRec) : (s.modRec p f).intake = s.intake := rfl
@[simp] theorem State.modRec_slot (p : PressNo) (f : PressRec → PressRec) : (s.modRec p f).slot = s.slot := rfl
@[simp] theorem State.modRec_restartPending (p : PressNo) (f : PressRec → PressRec) : (s.modRec p f).restartPending = s.restartPending := rfl
@[simp] theorem State.modRec_txReport (p : PressNo) (f : PressRec → PressRec) : (s.modRec p f).txReport = s.txReport := rfl
@[simp] theorem State.modRec_reports (p : PressNo) (f : PressRec → PressRec) : (s.modRec p f).reports = s.reports := rfl
@[simp] theorem State.modRec_jobs (p : PressNo) (f : PressRec → PressRec) : (s.modRec p f).jobs = s.jobs := rfl
@[simp] theorem State.modRec_serialCounter (p : PressNo) (f : PressRec → PressRec) : (s.modRec p f).serialCounter = s.serialCounter := rfl
@[simp] theorem State.modRec_commitCounter (p : PressNo) (f : PressRec → PressRec) : (s.modRec p f).commitCounter = s.commitCounter := rfl
@[simp] theorem State.modRec_spool (p : PressNo) (f : PressRec → PressRec) : (s.modRec p f).spool = s.spool := rfl
@[simp] theorem State.modRec_presses (p : PressNo) (f : PressRec → PressRec) : (s.modRec p f).presses = s.presses := rfl
@[simp] theorem State.modRec_circuits (p : PressNo) (f : PressRec → PressRec) : (s.modRec p f).circuits = s.circuits := rfl
@[simp] theorem State.modRec_alerts (p : PressNo) (f : PressRec → PressRec) : (s.modRec p f).alerts = s.alerts := rfl
@[simp] theorem State.modRec_buttonArmed (p : PressNo) (f : PressRec → PressRec) : (s.modRec p f).buttonArmed = s.buttonArmed := rfl
@[simp] theorem State.modRec_agenda (p : PressNo) (f : PressRec → PressRec) : (s.modRec p f).agenda = s.agenda := rfl
@[simp] theorem State.modRec_demand (p : PressNo) (f : PressRec → PressRec) : (s.modRec p f).demand = s.demand := rfl
@[simp] theorem State.modRec_pending (p : PressNo) (f : PressRec → PressRec) : (s.modRec p f).pending = s.pending := rfl
@[simp] theorem State.modRec_ret_accounts (p : PressNo) (f : PressRec → PressRec) : (s.modRec p f).ret.accounts = s.ret.accounts := rfl
@[simp] theorem State.modRec_ret_meters (p : PressNo) (f : PressRec → PressRec) : (s.modRec p f).ret.meters = s.ret.meters := rfl
@[simp] theorem State.modRec_ret_current (p : PressNo) (f : PressRec → PressRec) : (s.modRec p f).ret.current = s.ret.current := rfl
@[simp] theorem State.modRec_ret_other (p : PressNo) (f : PressRec → PressRec) : (s.modRec p f).ret.other = s.ret.other := rfl
@[simp] theorem State.modRec_ret_filters (p : PressNo) (f : PressRec → PressRec) : (s.modRec p f).ret.filters = s.ret.filters := rfl
@[simp] theorem State.modRec_ret_levels (p : PressNo) (f : PressRec → PressRec) : (s.modRec p f).ret.levels = s.ret.levels := rfl
@[simp] theorem State.modRec_ret_circuits (p : PressNo) (f : PressRec → PressRec) : (s.modRec p f).ret.circuits = s.ret.circuits := rfl
@[simp] theorem State.modRec_ret_schedule (p : PressNo) (f : PressRec → PressRec) : (s.modRec p f).ret.schedule = s.ret.schedule := rfl
@[simp] theorem State.modRec_ret_sticky (p : PressNo) (f : PressRec → PressRec) : (s.modRec p f).ret.sticky = s.ret.sticky := rfl

/-! ## modMeter -/

@[simp] theorem State.modMeter_phase (p : PressNo) (m : Nat) (f : Meter → Meter) : (s.modMeter p m f).phase = s.phase := rfl
@[simp] theorem State.modMeter_resetPin (p : PressNo) (m : Nat) (f : Meter → Meter) : (s.modMeter p m f).resetPin = s.resetPin := rfl
@[simp] theorem State.modMeter_retainedValid (p : PressNo) (m : Nat) (f : Meter → Meter) : (s.modMeter p m f).retainedValid = s.retainedValid := rfl
@[simp] theorem State.modMeter_cellHolds (p : PressNo) (m : Nat) (f : Meter → Meter) : (s.modMeter p m f).cellHolds = s.cellHolds := rfl
@[simp] theorem State.modMeter_sense (p : PressNo) (m : Nat) (f : Meter → Meter) : (s.modMeter p m f).sense = s.sense := rfl
@[simp] theorem State.modMeter_low (p : PressNo) (m : Nat) (f : Meter → Meter) : (s.modMeter p m f).low = s.low := rfl
@[simp] theorem State.modMeter_cause (p : PressNo) (m : Nat) (f : Meter → Meter) : (s.modMeter p m f).cause = s.cause := rfl
@[simp] theorem State.modMeter_lost (p : PressNo) (m : Nat) (f : Meter → Meter) : (s.modMeter p m f).lost = s.lost := rfl
@[simp] theorem State.modMeter_time (p : PressNo) (m : Nat) (f : Meter → Meter) : (s.modMeter p m f).time = s.time := rfl
@[simp] theorem State.modMeter_ms (p : PressNo) (m : Nat) (f : Meter → Meter) : (s.modMeter p m f).ms = s.ms := rfl
@[simp] theorem State.modMeter_rate (p : PressNo) (m : Nat) (f : Meter → Meter) : (s.modMeter p m f).rate = s.rate := rfl
@[simp] theorem State.modMeter_framer (p : PressNo) (m : Nat) (f : Meter → Meter) : (s.modMeter p m f).framer = s.framer := rfl
@[simp] theorem State.modMeter_intake (p : PressNo) (m : Nat) (f : Meter → Meter) : (s.modMeter p m f).intake = s.intake := rfl
@[simp] theorem State.modMeter_slot (p : PressNo) (m : Nat) (f : Meter → Meter) : (s.modMeter p m f).slot = s.slot := rfl
@[simp] theorem State.modMeter_restartPending (p : PressNo) (m : Nat) (f : Meter → Meter) : (s.modMeter p m f).restartPending = s.restartPending := rfl
@[simp] theorem State.modMeter_txReport (p : PressNo) (m : Nat) (f : Meter → Meter) : (s.modMeter p m f).txReport = s.txReport := rfl
@[simp] theorem State.modMeter_reports (p : PressNo) (m : Nat) (f : Meter → Meter) : (s.modMeter p m f).reports = s.reports := rfl
@[simp] theorem State.modMeter_jobs (p : PressNo) (m : Nat) (f : Meter → Meter) : (s.modMeter p m f).jobs = s.jobs := rfl
@[simp] theorem State.modMeter_serialCounter (p : PressNo) (m : Nat) (f : Meter → Meter) : (s.modMeter p m f).serialCounter = s.serialCounter := rfl
@[simp] theorem State.modMeter_commitCounter (p : PressNo) (m : Nat) (f : Meter → Meter) : (s.modMeter p m f).commitCounter = s.commitCounter := rfl
@[simp] theorem State.modMeter_spool (p : PressNo) (m : Nat) (f : Meter → Meter) : (s.modMeter p m f).spool = s.spool := rfl
@[simp] theorem State.modMeter_presses (p : PressNo) (m : Nat) (f : Meter → Meter) : (s.modMeter p m f).presses = s.presses := rfl
@[simp] theorem State.modMeter_circuits (p : PressNo) (m : Nat) (f : Meter → Meter) : (s.modMeter p m f).circuits = s.circuits := rfl
@[simp] theorem State.modMeter_alerts (p : PressNo) (m : Nat) (f : Meter → Meter) : (s.modMeter p m f).alerts = s.alerts := rfl
@[simp] theorem State.modMeter_buttonArmed (p : PressNo) (m : Nat) (f : Meter → Meter) : (s.modMeter p m f).buttonArmed = s.buttonArmed := rfl
@[simp] theorem State.modMeter_agenda (p : PressNo) (m : Nat) (f : Meter → Meter) : (s.modMeter p m f).agenda = s.agenda := rfl
@[simp] theorem State.modMeter_demand (p : PressNo) (m : Nat) (f : Meter → Meter) : (s.modMeter p m f).demand = s.demand := rfl
@[simp] theorem State.modMeter_pending (p : PressNo) (m : Nat) (f : Meter → Meter) : (s.modMeter p m f).pending = s.pending := rfl
@[simp] theorem State.modMeter_ret_accounts (p : PressNo) (m : Nat) (f : Meter → Meter) : (s.modMeter p m f).ret.accounts = s.ret.accounts := rfl
@[simp] theorem State.modMeter_ret_current (p : PressNo) (m : Nat) (f : Meter → Meter) : (s.modMeter p m f).ret.current = s.ret.current := rfl
@[simp] theorem State.modMeter_ret_other (p : PressNo) (m : Nat) (f : Meter → Meter) : (s.modMeter p m f).ret.other = s.ret.other := rfl
@[simp] theorem State.modMeter_ret_filters (p : PressNo) (m : Nat) (f : Meter → Meter) : (s.modMeter p m f).ret.filters = s.ret.filters := rfl
@[simp] theorem State.modMeter_ret_levels (p : PressNo) (m : Nat) (f : Meter → Meter) : (s.modMeter p m f).ret.levels = s.ret.levels := rfl
@[simp] theorem State.modMeter_ret_presses (p : PressNo) (m : Nat) (f : Meter → Meter) : (s.modMeter p m f).ret.presses = s.ret.presses := rfl
@[simp] theorem State.modMeter_ret_circuits (p : PressNo) (m : Nat) (f : Meter → Meter) : (s.modMeter p m f).ret.circuits = s.ret.circuits := rfl
@[simp] theorem State.modMeter_ret_schedule (p : PressNo) (m : Nat) (f : Meter → Meter) : (s.modMeter p m f).ret.schedule = s.ret.schedule := rfl
@[simp] theorem State.modMeter_ret_sticky (p : PressNo) (m : Nat) (f : Meter → Meter) : (s.modMeter p m f).ret.sticky = s.ret.sticky := rfl

/-! ## push -/

@[simp] theorem State.push_phase (t : Task) : (s.push t).phase = s.phase := rfl
@[simp] theorem State.push_resetPin (t : Task) : (s.push t).resetPin = s.resetPin := rfl
@[simp] theorem State.push_retainedValid (t : Task) : (s.push t).retainedValid = s.retainedValid := rfl
@[simp] theorem State.push_cellHolds (t : Task) : (s.push t).cellHolds = s.cellHolds := rfl
@[simp] theorem State.push_ret (t : Task) : (s.push t).ret = s.ret := rfl
@[simp] theorem State.push_sense (t : Task) : (s.push t).sense = s.sense := rfl
@[simp] theorem State.push_low (t : Task) : (s.push t).low = s.low := rfl
@[simp] theorem State.push_cause (t : Task) : (s.push t).cause = s.cause := rfl
@[simp] theorem State.push_lost (t : Task) : (s.push t).lost = s.lost := rfl
@[simp] theorem State.push_time (t : Task) : (s.push t).time = s.time := rfl
@[simp] theorem State.push_ms (t : Task) : (s.push t).ms = s.ms := rfl
@[simp] theorem State.push_rate (t : Task) : (s.push t).rate = s.rate := rfl
@[simp] theorem State.push_framer (t : Task) : (s.push t).framer = s.framer := rfl
@[simp] theorem State.push_intake (t : Task) : (s.push t).intake = s.intake := rfl
@[simp] theorem State.push_slot (t : Task) : (s.push t).slot = s.slot := rfl
@[simp] theorem State.push_restartPending (t : Task) : (s.push t).restartPending = s.restartPending := rfl
@[simp] theorem State.push_txReport (t : Task) : (s.push t).txReport = s.txReport := rfl
@[simp] theorem State.push_reports (t : Task) : (s.push t).reports = s.reports := rfl
@[simp] theorem State.push_jobs (t : Task) : (s.push t).jobs = s.jobs := rfl
@[simp] theorem State.push_serialCounter (t : Task) : (s.push t).serialCounter = s.serialCounter := rfl
@[simp] theorem State.push_commitCounter (t : Task) : (s.push t).commitCounter = s.commitCounter := rfl
@[simp] theorem State.push_spool (t : Task) : (s.push t).spool = s.spool := rfl
@[simp] theorem State.push_presses (t : Task) : (s.push t).presses = s.presses := rfl
@[simp] theorem State.push_circuits (t : Task) : (s.push t).circuits = s.circuits := rfl
@[simp] theorem State.push_alerts (t : Task) : (s.push t).alerts = s.alerts := rfl
@[simp] theorem State.push_buttonArmed (t : Task) : (s.push t).buttonArmed = s.buttonArmed := rfl
@[simp] theorem State.push_demand (t : Task) : (s.push t).demand = s.demand := rfl
@[simp] theorem State.push_pending (t : Task) : (s.push t).pending = s.pending := rfl

/-! ## wantDemand -/

@[simp] theorem State.wantDemand_phase : (s.wantDemand).phase = s.phase := rfl
@[simp] theorem State.wantDemand_resetPin : (s.wantDemand).resetPin = s.resetPin := rfl
@[simp] theorem State.wantDemand_retainedValid : (s.wantDemand).retainedValid = s.retainedValid := rfl
@[simp] theorem State.wantDemand_cellHolds : (s.wantDemand).cellHolds = s.cellHolds := rfl
@[simp] theorem State.wantDemand_ret : (s.wantDemand).ret = s.ret := rfl
@[simp] theorem State.wantDemand_sense : (s.wantDemand).sense = s.sense := rfl
@[simp] theorem State.wantDemand_low : (s.wantDemand).low = s.low := rfl
@[simp] theorem State.wantDemand_cause : (s.wantDemand).cause = s.cause := rfl
@[simp] theorem State.wantDemand_lost : (s.wantDemand).lost = s.lost := rfl
@[simp] theorem State.wantDemand_time : (s.wantDemand).time = s.time := rfl
@[simp] theorem State.wantDemand_ms : (s.wantDemand).ms = s.ms := rfl
@[simp] theorem State.wantDemand_rate : (s.wantDemand).rate = s.rate := rfl
@[simp] theorem State.wantDemand_framer : (s.wantDemand).framer = s.framer := rfl
@[simp] theorem State.wantDemand_intake : (s.wantDemand).intake = s.intake := rfl
@[simp] theorem State.wantDemand_slot : (s.wantDemand).slot = s.slot := rfl
@[simp] theorem State.wantDemand_restartPending : (s.wantDemand).restartPending = s.restartPending := rfl
@[simp] theorem State.wantDemand_txReport : (s.wantDemand).txReport = s.txReport := rfl
@[simp] theorem State.wantDemand_reports : (s.wantDemand).reports = s.reports := rfl
@[simp] theorem State.wantDemand_jobs : (s.wantDemand).jobs = s.jobs := rfl
@[simp] theorem State.wantDemand_serialCounter : (s.wantDemand).serialCounter = s.serialCounter := rfl
@[simp] theorem State.wantDemand_commitCounter : (s.wantDemand).commitCounter = s.commitCounter := rfl
@[simp] theorem State.wantDemand_spool : (s.wantDemand).spool = s.spool := rfl
@[simp] theorem State.wantDemand_presses : (s.wantDemand).presses = s.presses := rfl
@[simp] theorem State.wantDemand_circuits : (s.wantDemand).circuits = s.circuits := rfl
@[simp] theorem State.wantDemand_alerts : (s.wantDemand).alerts = s.alerts := rfl
@[simp] theorem State.wantDemand_buttonArmed : (s.wantDemand).buttonArmed = s.buttonArmed := rfl
@[simp] theorem State.wantDemand_agenda : (s.wantDemand).agenda = s.agenda := rfl
@[simp] theorem State.wantDemand_pending : (s.wantDemand).pending = s.pending := rfl

/-! ## mark -/

@[simp] theorem State.mark_phase (r : Report) : (s.mark r).phase = s.phase := rfl
@[simp] theorem State.mark_resetPin (r : Report) : (s.mark r).resetPin = s.resetPin := rfl
@[simp] theorem State.mark_retainedValid (r : Report) : (s.mark r).retainedValid = s.retainedValid := rfl
@[simp] theorem State.mark_cellHolds (r : Report) : (s.mark r).cellHolds = s.cellHolds := rfl
@[simp] theorem State.mark_ret (r : Report) : (s.mark r).ret = s.ret := rfl
@[simp] theorem State.mark_sense (r : Report) : (s.mark r).sense = s.sense := rfl
@[simp] theorem State.mark_low (r : Report) : (s.mark r).low = s.low := rfl
@[simp] theorem State.mark_cause (r : Report) : (s.mark r).cause = s.cause := rfl
@[simp] theorem State.mark_lost (r : Report) : (s.mark r).lost = s.lost := rfl
@[simp] theorem State.mark_time (r : Report) : (s.mark r).time = s.time := rfl
@[simp] theorem State.mark_ms (r : Report) : (s.mark r).ms = s.ms := rfl
@[simp] theorem State.mark_rate (r : Report) : (s.mark r).rate = s.rate := rfl
@[simp] theorem State.mark_framer (r : Report) : (s.mark r).framer = s.framer := rfl
@[simp] theorem State.mark_intake (r : Report) : (s.mark r).intake = s.intake := rfl
@[simp] theorem State.mark_slot (r : Report) : (s.mark r).slot = s.slot := rfl
@[simp] theorem State.mark_restartPending (r : Report) : (s.mark r).restartPending = s.restartPending := rfl
@[simp] theorem State.mark_txReport (r : Report) : (s.mark r).txReport = s.txReport := rfl
@[simp] theorem State.mark_jobs (r : Report) : (s.mark r).jobs = s.jobs := rfl
@[simp] theorem State.mark_serialCounter (r : Report) : (s.mark r).serialCounter = s.serialCounter := rfl
@[simp] theorem State.mark_commitCounter (r : Report) : (s.mark r).commitCounter = s.commitCounter := rfl
@[simp] theorem State.mark_spool (r : Report) : (s.mark r).spool = s.spool := rfl
@[simp] theorem State.mark_presses (r : Report) : (s.mark r).presses = s.presses := rfl
@[simp] theorem State.mark_circuits (r : Report) : (s.mark r).circuits = s.circuits := rfl
@[simp] theorem State.mark_alerts (r : Report) : (s.mark r).alerts = s.alerts := rfl
@[simp] theorem State.mark_buttonArmed (r : Report) : (s.mark r).buttonArmed = s.buttonArmed := rfl
@[simp] theorem State.mark_agenda (r : Report) : (s.mark r).agenda = s.agenda := rfl
@[simp] theorem State.mark_demand (r : Report) : (s.mark r).demand = s.demand := rfl
@[simp] theorem State.mark_pending (r : Report) : (s.mark r).pending = s.pending := rfl

/-! ## setAlert -/

@[simp] theorem State.setAlert_phase (n : AlertNo) (a : Option Alert) (act : AlertAction) (b : Bool) : (s.setAlert n a act b).phase = s.phase := rfl
@[simp] theorem State.setAlert_resetPin (n : AlertNo) (a : Option Alert) (act : AlertAction) (b : Bool) : (s.setAlert n a act b).resetPin = s.resetPin := rfl
@[simp] theorem State.setAlert_retainedValid (n : AlertNo) (a : Option Alert) (act : AlertAction) (b : Bool) : (s.setAlert n a act b).retainedValid = s.retainedValid := rfl
@[simp] theorem State.setAlert_cellHolds (n : AlertNo) (a : Option Alert) (act : AlertAction) (b : Bool) : (s.setAlert n a act b).cellHolds = s.cellHolds := rfl
@[simp] theorem State.setAlert_ret (n : AlertNo) (a : Option Alert) (act : AlertAction) (b : Bool) : (s.setAlert n a act b).ret = s.ret := rfl
@[simp] theorem State.setAlert_sense (n : AlertNo) (a : Option Alert) (act : AlertAction) (b : Bool) : (s.setAlert n a act b).sense = s.sense := rfl
@[simp] theorem State.setAlert_low (n : AlertNo) (a : Option Alert) (act : AlertAction) (b : Bool) : (s.setAlert n a act b).low = s.low := rfl
@[simp] theorem State.setAlert_cause (n : AlertNo) (a : Option Alert) (act : AlertAction) (b : Bool) : (s.setAlert n a act b).cause = s.cause := rfl
@[simp] theorem State.setAlert_lost (n : AlertNo) (a : Option Alert) (act : AlertAction) (b : Bool) : (s.setAlert n a act b).lost = s.lost := rfl
@[simp] theorem State.setAlert_time (n : AlertNo) (a : Option Alert) (act : AlertAction) (b : Bool) : (s.setAlert n a act b).time = s.time := rfl
@[simp] theorem State.setAlert_ms (n : AlertNo) (a : Option Alert) (act : AlertAction) (b : Bool) : (s.setAlert n a act b).ms = s.ms := rfl
@[simp] theorem State.setAlert_rate (n : AlertNo) (a : Option Alert) (act : AlertAction) (b : Bool) : (s.setAlert n a act b).rate = s.rate := rfl
@[simp] theorem State.setAlert_framer (n : AlertNo) (a : Option Alert) (act : AlertAction) (b : Bool) : (s.setAlert n a act b).framer = s.framer := rfl
@[simp] theorem State.setAlert_intake (n : AlertNo) (a : Option Alert) (act : AlertAction) (b : Bool) : (s.setAlert n a act b).intake = s.intake := rfl
@[simp] theorem State.setAlert_slot (n : AlertNo) (a : Option Alert) (act : AlertAction) (b : Bool) : (s.setAlert n a act b).slot = s.slot := rfl
@[simp] theorem State.setAlert_restartPending (n : AlertNo) (a : Option Alert) (act : AlertAction) (b : Bool) : (s.setAlert n a act b).restartPending = s.restartPending := rfl
@[simp] theorem State.setAlert_txReport (n : AlertNo) (a : Option Alert) (act : AlertAction) (b : Bool) : (s.setAlert n a act b).txReport = s.txReport := rfl
@[simp] theorem State.setAlert_jobs (n : AlertNo) (a : Option Alert) (act : AlertAction) (b : Bool) : (s.setAlert n a act b).jobs = s.jobs := rfl
@[simp] theorem State.setAlert_serialCounter (n : AlertNo) (a : Option Alert) (act : AlertAction) (b : Bool) : (s.setAlert n a act b).serialCounter = s.serialCounter := rfl
@[simp] theorem State.setAlert_commitCounter (n : AlertNo) (a : Option Alert) (act : AlertAction) (b : Bool) : (s.setAlert n a act b).commitCounter = s.commitCounter := rfl
@[simp] theorem State.setAlert_spool (n : AlertNo) (a : Option Alert) (act : AlertAction) (b : Bool) : (s.setAlert n a act b).spool = s.spool := rfl
@[simp] theorem State.setAlert_presses (n : AlertNo) (a : Option Alert) (act : AlertAction) (b : Bool) : (s.setAlert n a act b).presses = s.presses := rfl
@[simp] theorem State.setAlert_circuits (n : AlertNo) (a : Option Alert) (act : AlertAction) (b : Bool) : (s.setAlert n a act b).circuits = s.circuits := rfl
@[simp] theorem State.setAlert_buttonArmed (n : AlertNo) (a : Option Alert) (act : AlertAction) (b : Bool) : (s.setAlert n a act b).buttonArmed = s.buttonArmed := rfl
@[simp] theorem State.setAlert_agenda (n : AlertNo) (a : Option Alert) (act : AlertAction) (b : Bool) : (s.setAlert n a act b).agenda = s.agenda := rfl
@[simp] theorem State.setAlert_demand (n : AlertNo) (a : Option Alert) (act : AlertAction) (b : Bool) : (s.setAlert n a act b).demand = s.demand := rfl
@[simp] theorem State.setAlert_pending (n : AlertNo) (a : Option Alert) (act : AlertAction) (b : Bool) : (s.setAlert n a act b).pending = s.pending := rfl

/-! ## Lookups after an update -/

@[simp] theorem State.job_setJob_self (e : Entry) (j : Option Job) : (s.setJob e j).job e = j := by
  simp [State.job, State.setJob]

theorem State.job_setJob (d e : Entry) (j : Option Job) :
    (s.setJob e j).job d = if e = d then j else s.job d := by
  simp [State.job, State.setJob, Vector.getElem_set, Fin.ext_iff]

@[simp] theorem State.job_modJob_self (e : Entry) (f : Job → Job) : (s.modJob e f).job e = (s.job e).map f := by
  simp [State.job, State.modJob]

theorem State.job_modJob (d e : Entry) (f : Job → Job) :
    (s.modJob e f).job d = if e = d then (s.job e).map f else s.job d := by
  simp [State.job, State.modJob, Vector.getElem_set, Fin.ext_iff]

@[simp] theorem State.press_modPress_self (p : PressNo) (f : Press → Press) :
    (s.modPress p f).press p = f (s.press p) := by
  simp [State.press, State.modPress]

theorem State.press_modPress (p q : PressNo) (f : Press → Press) :
    (s.modPress p f).press q = if p = q then f (s.press p) else s.press q := by
  simp [State.press, State.modPress, Vector.getElem_set, Fin.ext_iff]

@[simp] theorem State.pressRec_modRec_self (p : PressNo) (f : PressRec → PressRec) :
    (s.modRec p f).pressRec p = f (s.pressRec p) := by
  simp [State.pressRec, State.modRec]

theorem State.pressRec_modRec (p q : PressNo) (f : PressRec → PressRec) :
    (s.modRec p f).pressRec q = if p = q then f (s.pressRec p) else s.pressRec q := by
  simp [State.pressRec, State.modRec, Vector.getElem_set, Fin.ext_iff]

@[simp] theorem State.circuit_modCircuit_self (c : CircuitNo) (f : Circuit → Circuit) :
    (s.modCircuit c f).circuit c = f (s.circuit c) := by
  simp [State.circuit, State.modCircuit]

theorem State.circuit_modCircuit (c d : CircuitNo) (f : Circuit → Circuit) :
    (s.modCircuit c f).circuit d = if c = d then f (s.circuit c) else s.circuit d := by
  simp [State.circuit, State.modCircuit, Vector.getElem_set, Fin.ext_iff]

@[simp] theorem State.account_modAccount_self (a : AccountNo) (f : Account → Account) :
    (s.modAccount a f).account a = f (s.account a) := by
  simp [State.account, State.modAccount]

theorem State.account_modAccount (a b : AccountNo) (f : Account → Account) :
    (s.modAccount a f).account b = if a = b then f (s.account a) else s.account b := by
  simp [State.account, State.modAccount, Vector.getElem_set, Fin.ext_iff]

@[simp] theorem State.alert_setAlert_self (n : AlertNo) (a : Option Alert) (act : AlertAction) (b : Bool) :
    (s.setAlert n a act b).alert n = a := by
  simp [State.alert, State.setAlert, State.mark]

theorem State.alert_setAlert (m n : AlertNo) (a : Option Alert) (act : AlertAction) (b : Bool) :
    (s.setAlert n a act b).alert m = if n = m then a else s.alert m := by
  simp [State.alert, State.setAlert, State.mark, Vector.getElem_set, Fin.ext_iff]

@[simp] theorem State.job_modPress (d : Entry) (p : PressNo) (f : Press → Press) : (s.modPress p f).job d = s.job d := rfl
@[simp] theorem State.job_modCircuit (d : Entry) (c : CircuitNo) (f : Circuit → Circuit) : (s.modCircuit c f).job d = s.job d := rfl
@[simp] theorem State.job_modAccount (d : Entry) (a : AccountNo) (f : Account → Account) : (s.modAccount a f).job d = s.job d := rfl
@[simp] theorem State.job_modRec (d : Entry) (p : PressNo) (f : PressRec → PressRec) : (s.modRec p f).job d = s.job d := rfl
@[simp] theorem State.job_modMeter (d : Entry) (p : PressNo) (m : Nat) (f : Meter → Meter) : (s.modMeter p m f).job d = s.job d := rfl
@[simp] theorem State.job_push (d : Entry) (t : Task) : (s.push t).job d = s.job d := rfl
@[simp] theorem State.job_wantDemand (d : Entry) : (s.wantDemand).job d = s.job d := rfl
@[simp] theorem State.job_mark (d : Entry) (r : Report) : (s.mark r).job d = s.job d := rfl
@[simp] theorem State.job_setAlert (d : Entry) (n : AlertNo) (a : Option Alert) (act : AlertAction) (b : Bool) : (s.setAlert n a act b).job d = s.job d := rfl

@[simp] theorem State.press_setJob (q : PressNo) (e : Entry) (j : Option Job) : (s.setJob e j).press q = s.press q := rfl
@[simp] theorem State.press_modJob (q : PressNo) (e : Entry) (f : Job → Job) : (s.modJob e f).press q = s.press q := rfl
@[simp] theorem State.press_modCircuit (q : PressNo) (c : CircuitNo) (f : Circuit → Circuit) : (s.modCircuit c f).press q = s.press q := rfl
@[simp] theorem State.press_modAccount (q : PressNo) (a : AccountNo) (f : Account → Account) : (s.modAccount a f).press q = s.press q := rfl
@[simp] theorem State.press_modRec (q : PressNo) (p : PressNo) (f : PressRec → PressRec) : (s.modRec p f).press q = s.press q := rfl
@[simp] theorem State.press_modMeter (q : PressNo) (p : PressNo) (m : Nat) (f : Meter → Meter) : (s.modMeter p m f).press q = s.press q := rfl
@[simp] theorem State.press_push (q : PressNo) (t : Task) : (s.push t).press q = s.press q := rfl
@[simp] theorem State.press_wantDemand (q : PressNo) : (s.wantDemand).press q = s.press q := rfl
@[simp] theorem State.press_mark (q : PressNo) (r : Report) : (s.mark r).press q = s.press q := rfl
@[simp] theorem State.press_setAlert (q : PressNo) (n : AlertNo) (a : Option Alert) (act : AlertAction) (b : Bool) : (s.setAlert n a act b).press q = s.press q := rfl

@[simp] theorem State.circuit_setJob (k : CircuitNo) (e : Entry) (j : Option Job) : (s.setJob e j).circuit k = s.circuit k := rfl
@[simp] theorem State.circuit_modJob (k : CircuitNo) (e : Entry) (f : Job → Job) : (s.modJob e f).circuit k = s.circuit k := rfl
@[simp] theorem State.circuit_modPress (k : CircuitNo) (p : PressNo) (f : Press → Press) : (s.modPress p f).circuit k = s.circuit k := rfl
@[simp] theorem State.circuit_modAccount (k : CircuitNo) (a : AccountNo) (f : Account → Account) : (s.modAccount a f).circuit k = s.circuit k := rfl
@[simp] theorem State.circuit_modRec (k : CircuitNo) (p : PressNo) (f : PressRec → PressRec) : (s.modRec p f).circuit k = s.circuit k := rfl
@[simp] theorem State.circuit_modMeter (k : CircuitNo) (p : PressNo) (m : Nat) (f : Meter → Meter) : (s.modMeter p m f).circuit k = s.circuit k := rfl
@[simp] theorem State.circuit_push (k : CircuitNo) (t : Task) : (s.push t).circuit k = s.circuit k := rfl
@[simp] theorem State.circuit_wantDemand (k : CircuitNo) : (s.wantDemand).circuit k = s.circuit k := rfl
@[simp] theorem State.circuit_mark (k : CircuitNo) (r : Report) : (s.mark r).circuit k = s.circuit k := rfl
@[simp] theorem State.circuit_setAlert (k : CircuitNo) (n : AlertNo) (a : Option Alert) (act : AlertAction) (b : Bool) : (s.setAlert n a act b).circuit k = s.circuit k := rfl

@[simp] theorem State.alert_setJob (i : AlertNo) (e : Entry) (j : Option Job) : (s.setJob e j).alert i = s.alert i := rfl
@[simp] theorem State.alert_modJob (i : AlertNo) (e : Entry) (f : Job → Job) : (s.modJob e f).alert i = s.alert i := rfl
@[simp] theorem State.alert_modPress (i : AlertNo) (p : PressNo) (f : Press → Press) : (s.modPress p f).alert i = s.alert i := rfl
@[simp] theorem State.alert_modCircuit (i : AlertNo) (c : CircuitNo) (f : Circuit → Circuit) : (s.modCircuit c f).alert i = s.alert i := rfl
@[simp] theorem State.alert_modAccount (i : AlertNo) (a : AccountNo) (f : Account → Account) : (s.modAccount a f).alert i = s.alert i := rfl
@[simp] theorem State.alert_modRec (i : AlertNo) (p : PressNo) (f : PressRec → PressRec) : (s.modRec p f).alert i = s.alert i := rfl
@[simp] theorem State.alert_modMeter (i : AlertNo) (p : PressNo) (m : Nat) (f : Meter → Meter) : (s.modMeter p m f).alert i = s.alert i := rfl
@[simp] theorem State.alert_push (i : AlertNo) (t : Task) : (s.push t).alert i = s.alert i := rfl
@[simp] theorem State.alert_wantDemand (i : AlertNo) : (s.wantDemand).alert i = s.alert i := rfl
@[simp] theorem State.alert_mark (i : AlertNo) (r : Report) : (s.mark r).alert i = s.alert i := rfl

@[simp] theorem State.account_setJob (b' : AccountNo) (e : Entry) (j : Option Job) : (s.setJob e j).account b' = s.account b' := rfl
@[simp] theorem State.account_modJob (b' : AccountNo) (e : Entry) (f : Job → Job) : (s.modJob e f).account b' = s.account b' := rfl
@[simp] theorem State.account_modPress (b' : AccountNo) (p : PressNo) (f : Press → Press) : (s.modPress p f).account b' = s.account b' := rfl
@[simp] theorem State.account_modCircuit (b' : AccountNo) (c : CircuitNo) (f : Circuit → Circuit) : (s.modCircuit c f).account b' = s.account b' := rfl
@[simp] theorem State.account_modRec (b' : AccountNo) (p : PressNo) (f : PressRec → PressRec) : (s.modRec p f).account b' = s.account b' := rfl
@[simp] theorem State.account_modMeter (b' : AccountNo) (p : PressNo) (m : Nat) (f : Meter → Meter) : (s.modMeter p m f).account b' = s.account b' := rfl
@[simp] theorem State.account_push (b' : AccountNo) (t : Task) : (s.push t).account b' = s.account b' := rfl
@[simp] theorem State.account_wantDemand (b' : AccountNo) : (s.wantDemand).account b' = s.account b' := rfl
@[simp] theorem State.account_mark (b' : AccountNo) (r : Report) : (s.mark r).account b' = s.account b' := rfl
@[simp] theorem State.account_setAlert (b' : AccountNo) (n : AlertNo) (a : Option Alert) (act : AlertAction) (b : Bool) : (s.setAlert n a act b).account b' = s.account b' := rfl

@[simp] theorem State.pressRec_setJob (q : PressNo) (e : Entry) (j : Option Job) : (s.setJob e j).pressRec q = s.pressRec q := rfl
@[simp] theorem State.pressRec_modJob (q : PressNo) (e : Entry) (f : Job → Job) : (s.modJob e f).pressRec q = s.pressRec q := rfl
@[simp] theorem State.pressRec_modPress (q : PressNo) (p : PressNo) (f : Press → Press) : (s.modPress p f).pressRec q = s.pressRec q := rfl
@[simp] theorem State.pressRec_modCircuit (q : PressNo) (c : CircuitNo) (f : Circuit → Circuit) : (s.modCircuit c f).pressRec q = s.pressRec q := rfl
@[simp] theorem State.pressRec_modAccount (q : PressNo) (a : AccountNo) (f : Account → Account) : (s.modAccount a f).pressRec q = s.pressRec q := rfl
@[simp] theorem State.pressRec_modMeter (q : PressNo) (p : PressNo) (m : Nat) (f : Meter → Meter) : (s.modMeter p m f).pressRec q = s.pressRec q := rfl
@[simp] theorem State.pressRec_push (q : PressNo) (t : Task) : (s.push t).pressRec q = s.pressRec q := rfl
@[simp] theorem State.pressRec_wantDemand (q : PressNo) : (s.wantDemand).pressRec q = s.pressRec q := rfl
@[simp] theorem State.pressRec_mark (q : PressNo) (r : Report) : (s.mark r).pressRec q = s.pressRec q := rfl
@[simp] theorem State.pressRec_setAlert (q : PressNo) (n : AlertNo) (a : Option Alert) (act : AlertAction) (b : Bool) : (s.setAlert n a act b).pressRec q = s.pressRec q := rfl

/-! ## The outer part -/

@[simp] theorem State.outer_setJob (e : Entry) (j : Option Job) : (s.setJob e j).outer = s.outer := rfl
@[simp] theorem State.outer_modJob (e : Entry) (f : Job → Job) : (s.modJob e f).outer = s.outer := rfl
@[simp] theorem State.outer_modPress (p : PressNo) (f : Press → Press) : (s.modPress p f).outer = s.outer := rfl
@[simp] theorem State.outer_modCircuit (c : CircuitNo) (f : Circuit → Circuit) : (s.modCircuit c f).outer = s.outer := rfl
@[simp] theorem State.outer_modAccount (a : AccountNo) (f : Account → Account) : (s.modAccount a f).outer = s.outer := rfl
@[simp] theorem State.outer_modMeter (p : PressNo) (m : Nat) (f : Meter → Meter) : (s.modMeter p m f).outer = s.outer := rfl
@[simp] theorem State.outer_push (t : Task) : (s.push t).outer = s.outer := rfl
@[simp] theorem State.outer_wantDemand : (s.wantDemand).outer = s.outer := rfl
@[simp] theorem State.outer_mark (r : Report) : (s.mark r).outer = s.outer := rfl
@[simp] theorem State.outer_setAlert (n : AlertNo) (a : Option Alert) (act : AlertAction) (b : Bool) : (s.setAlert n a act b).outer = s.outer := rfl

/-- A change of a press record that leaves its six settings leaves the outer part. -/
theorem State.outer_modRec (p : PressNo) {f : PressRec → PressRec} (h : ∀ r, (f r).settings = r.settings) :
    (s.modRec p f).outer = s.outer := by
  have settings : (s.modRec p f).ret.presses.map PressRec.settings = s.ret.presses.map PressRec.settings := by
    simp only [State.modRec]
    ext i hi
    rw [Vector.getElem_map, Vector.getElem_map, Vector.getElem_set]
    split
    · rename_i hp
      subst hp
      rw [h]
      rfl
    · rfl
  unfold State.outer
  rw [settings]
  rfl

@[simp] theorem PressRec.settings_testShort (r : PressRec) : r.testShort.settings = r.settings := by
  unfold PressRec.testShort
  split <;> rfl

@[simp] theorem PressRec.settings_countSheet (r : PressRec) : r.countSheet.settings = r.settings :=
  PressRec.settings_testShort _

end Sys2Proof.Machine
end

