-- ==== Sys2Proof/Laws/Local.lean ====
section
/-! SUPPORT. What a step inside the part can do, said once: every operation of the presses, of the jobs on them and of
dispatch is made of a few kinds of small change. A property that each small change keeps is kept by them all. -/

namespace Sys2Proof.Machine

/-- What happens to the spool inside the part: pages are damaged, released and freed. -/
inductive SpoolStep : Spool → Spool → Prop where
  | refl (sp : Spool) : SpoolStep sp sp
  | damage (sp : Spool) (e : Entry) (k d : Nat) (pg : Page) (h : sp.page e k = some (d, pg)) :
      SpoolStep sp (sp.damage d pg)
  | free (sp : Spool) (e : Entry) : SpoolStep sp (sp.freeJob e)
  | release (sp : Spool) (e : Entry) (k : Nat) : SpoolStep sp (sp.releasePage e k)
  | trans (a b c : Spool) (h : SpoolStep a b) (h' : SpoolStep b c) : SpoolStep a c

/-- A property that every small change inside the part keeps. -/
structure Local (P : State → Prop) : Prop where
  press : ∀ p f s, P s → P (s.modPress p f)
  record : ∀ p f s, (∀ r, (f r).settings = r.settings) → P s → P (s.modRec p f)
  circuit : ∀ c f s, P s → P (s.modCircuit c f)
  meter : ∀ p m f s, P s → P (s.modMeter p m f)
  account : ∀ a f s, (∀ x, (f x).state = x.state) → (∃ e j, s.job e = some j ∧ j.account = a) → P s →
    P (s.modAccount a f)
  job : ∀ e f s, (∀ j, (f j).serial = j.serial ∧ (f j).account = j.account) → P s → P (s.modJob e f)
  write : ∀ e j j' s, s.job e = some j → j'.serial = j.serial → j'.account = j.account → P s →
    P (s.setJob e (some j'))
  report : ∀ r s, P s → P (s.mark r)
  raise : ∀ k src d s, k ≠ .overflow → P s → P (s.raise k src d)
  ended : ∀ k src s, P s → P (s.endCondition k src)
  spool : ∀ sp s, SpoolStep s.spool sp → P s → P { s with spool := sp }
  sticky : ∀ x s, P s → P { s with ret := { s.ret with sticky := x } }
  agenda : ∀ l s, P s → P { s with agenda := l }
  demand : ∀ b s, P s → P { s with demand := b }

namespace Local

variable {P : State → Prop} (h : Local P) {s : State} {p : PressNo} {e : Entry}
include h

omit h in
/-- A fold of a kept operation keeps the property. -/
theorem fold {α : Type} {f : State → α → State} (l : List α) (hf : ∀ s a, P s → P (f s a)) :
    ∀ s, P s → P (l.foldl f s) := by
  induction l with
  | nil => exact fun s hs => hs
  | cons a l ih => exact fun s hs => ih _ (hf s a hs)

omit h in
/-- A choice between two kept states is kept. -/
theorem choose {c : Prop} [Decidable c] {a b : State} (ha : P a) (hb : P b) : P (if c then a else b) := by
  split <;> assumption

theorem push (t : Task) (hs : P s) : P (s.push t) := h.agenda _ _ hs

theorem wantDemand (hs : P s) : P s.wantDemand := h.demand _ _ hs

/-! ## Accounts -/

theorem enterAdmitted (hs : P s) : P (s.enterAdmitted e) := by
  unfold State.enterAdmitted
  split
  · exact hs
  · rename_i j hj
    split
    · exact h.report _ _ (h.write e j _ s hj rfl rfl hs)
    · exact h.wantDemand (h.push _ (h.report _ _ (h.write e j _ s hj rfl rfl hs)))

theorem reserve {j : Job} (n : Nat) (hj : s.job e = some j) (hs : P s) : P (s.reserve e j n) :=
  h.write e j _ _ (by simpa using hj) rfl rfl (h.account _ _ _ (fun _ => rfl) ⟨e, j, hj, rfl⟩ hs)

theorem admitJob (hs : P s) : P (s.admitJob e) := by
  unfold State.admitJob
  split
  · exact hs
  · rename_i j hj
    exact h.ended _ _ _ (h.enterAdmitted (h.reserve _ hj hs))

theorem applyCharge (c : Nat) (hs : P s) : P (s.applyCharge e c) := by
  unfold State.applyCharge
  split
  · exact hs
  · rename_i j hj
    exact h.account _ _ _ (fun _ => rfl) ⟨e, j.charge c, by simp, rfl⟩ (h.write e j _ s hj rfl rfl hs)

theorem countJam (m : Nat) (hs : P s) : P (s.countJam p m) := h.meter _ _ _ _ hs

/-! ## Press and job states -/

theorem putState (st : PressState) (hs : P s) : P (s.putState p st) :=
  h.wantDemand (h.report _ _ (h.press _ _ _ hs))

theorem stopStarve (hs : P s) : P (s.stopStarve p) := by
  unfold State.stopStarve
  split
  · exact h.job _ _ _ (fun _ => ⟨rfl, rfl⟩) hs
  · exact hs

theorem endMediaWait (hs : P s) : P (s.endMediaWait p) := by
  unfold State.endMediaWait
  split
  · exact h.ended _ _ _ (h.report _ _ (h.press _ _ _ hs))
  · exact hs

theorem leave (hs : P s) : P (s.leave p) := by
  unfold State.leave
  split
  · exact h.stopStarve (h.endMediaWait hs)
  · exact hs

theorem enter (st : PressState) (hs : P s) : P (s.enter p st) := h.putState st (h.leave hs)

theorem enterIdle (hs : P s) : P (s.enterIdle p) := by
  unfold State.enterIdle
  split
  · exact h.enter _ hs
  · exact h.push _ (h.enter _ hs)

theorem enterBusy (hs : P s) : P (s.enterBusy p) := by
  unfold State.enterBusy
  split
  · exact h.enter _ hs
  · exact h.push _ (h.enter _ hs)

theorem releasePress (hs : P s) : P (s.releasePress p) := by
  unfold State.releasePress
  split
  · exact h.enterIdle hs
  · exact hs

theorem moveJob (st : JobState) (hs : P s) : P (s.moveJob e st) :=
  h.wantDemand (h.report _ _ (h.job _ _ _ (fun _ => ⟨rfl, rfl⟩) hs))

theorem enterQueued (hs : P s) : P (s.enterQueued e) := h.push _ (h.moveJob _ hs)

theorem leaveStarved (hs : P s) : P (s.leaveStarved e) := by
  unfold State.leaveStarved
  split
  · exact hs
  · split
    · exact h.ended _ _ _ (h.enterQueued hs)
    · exact hs

theorem setTarget (t : DrainTarget) (hs : P s) : P (s.setTarget p e t) :=
  h.job _ _ _ (fun _ => ⟨rfl, rfl⟩) hs

theorem aimAtFault (hs : P s) : P (s.aimAtFault e) := by
  unfold State.aimAtFault
  split
  · exact hs
  · split
    · exact h.moveJob _ (h.endMediaWait hs)
    · exact h.setTarget _ hs
    · exact h.setTarget _ hs
    · exact hs

theorem endFaultDrain (hs : P s) : P (s.endFaultDrain p e) := by
  unfold State.endFaultDrain
  split
  · exact hs
  · split
    · exact h.releasePress (h.moveJob _ hs)
    · exact hs

theorem towardFault (hs : P s) : P (s.towardFault e) := by
  unfold State.towardFault
  split
  · exact h.endFaultDrain (h.aimAtFault hs)
  · exact hs

theorem raiseSpoolFault (k : Nat) (hs : P s) : P (s.raiseSpoolFault e k) := by
  unfold State.raiseSpoolFault
  split
  · exact h.raise _ _ _ _ (by decide) hs
  · exact hs

theorem faultAtCursor (hs : P s) : P (s.faultAtCursor e) := by
  unfold State.faultAtCursor
  split
  · exact h.raiseSpoolFault _ (h.towardFault hs)
  · exact hs

theorem faultRewound (hs : P s) : P (s.faultRewound e) := by
  unfold State.faultRewound
  split
  · exact h.raiseSpoolFault _ (h.aimAtFault hs)
  · exact hs

/-! ## Sending -/

theorem checkFailure (ent : PathEntry) {d k : Nat} {pg : Page} (hpg : s.spool.page e k = some (d, pg)) (hs : P s) :
    P (s.checkFailure p ent e d k pg) := by
  unfold State.checkFailure
  dsimp only
  have h1 : P { s with
      spool := s.spool.damage d pg
      ret := { s.ret with sticky := { s.ret.sticky with spoolCheck := true } } } :=
    h.sticky { s.ret.sticky with spoolCheck := true } _ (h.spool _ _ (.damage _ e k d pg hpg) hs)
  exact h.raiseSpoolFault _ (h.towardFault (h.press _ _ _ h1))

omit h in
/-- A fetch that fails names a page of the job's list. -/
theorem fetch_failed {ent : PathEntry} {side framed : Nat} {e : Entry} {d k : Nat} {pg : Page}
    (hf : s.fetch p ent side framed = .failed e d k pg) : s.spool.page e k = some (d, pg) := by
  unfold State.fetch at hf
  split at hf
  · cases hf
  · split at hf
    · cases hf
    · split at hf
      · cases hf
      · split at hf
        · cases hf
        · cases hf; assumption

theorem feedSide (ent : PathEntry) (side framed : Nat) (hs : P s) : P (s.feedSide p ent side framed) := by
  unfold State.feedSide
  split
  · exact h.press _ _ _ hs
  · rename_i hf
    exact h.checkFailure ent (Local.fetch_failed hf) hs

theorem sheetSent (ent : PathEntry) (hs : P s) : P (s.sheetSent p ent) := by
  unfold State.sheetSent
  refine h.push _ ?_
  split
  · exact h.press _ _ _ hs
  · refine h.faultAtCursor (h.job _ _ _ (fun j => ?_) (h.press _ _ _ hs))
    unfold Job.setCursor
    split <;> exact ⟨rfl, rfl⟩

theorem feed (hs : P s) : P (s.feed p) := by
  unfold State.feed
  split
  · exact hs
  · split
    · exact hs
    · split
      · exact hs
      · split
        · exact h.feedSide _ _ _ hs
        · split
          · exact h.feedSide _ _ _ hs
          · exact h.sheetSent _ hs

theorem pump (hs : P s) : P (s.pump p) := by
  unfold State.pump
  split
  · exact hs
  · split
    · exact hs
    · split
      · exact hs
      · dsimp only
        split
        · exact h.feed (h.press _ _ _ hs)
        · exact h.press _ _ _ hs

theorem give (f : PFrame) (hs : P s) : P (s.give p f) := h.pump (h.press _ _ _ hs)

theorem startSheet (job : Option (Entry × Nat)) (media sides : Nat) (hs : P s) :
    P (s.startSheet p job media sides) := by
  unfold State.startSheet
  dsimp only
  split
  · exact h.feedSide _ _ _ (h.press _ _ _ hs)
  · exact h.pump (h.press _ _ _ hs)

theorem updateMediaWait (need : Option Nat) (hs : P s) : P (s.updateMediaWait p need) := by
  unfold State.updateMediaWait
  split
  · split
    · exact h.endMediaWait hs
    · split
      · exact h.endMediaWait hs
      · split
        · exact hs
        · exact h.raise _ _ _ _ (by decide)
            (Local.choose (h.report _ _ (h.press _ _ _ hs)) (h.press _ _ _ hs))
  · exact hs

theorem updateStarve (waits : Bool) (hs : P s) : P (s.updateStarve e waits) :=
  h.job _ _ _ (fun _ => ⟨rfl, rfl⟩) hs

theorem examineJob (j : Job) (hs : P s) : P (s.examineJob p e j) := by
  unfold State.examineJob
  split
  · exact h.updateStarve _ (h.updateMediaWait _ hs)
  · split
    · exact h.faultAtCursor hs
    · dsimp only
      split
      · exact h.startSheet _ _ _ (h.updateStarve _ (h.updateMediaWait _ hs))
      · exact h.updateStarve _ (h.updateMediaWait _ hs)

theorem examinePattern (run : CalRun) (t : Nat) (hs : P s) : P (s.examinePattern p run t) := by
  unfold State.examinePattern
  split
  · exact hs
  · split
    · exact h.startSheet _ _ _ (h.press _ _ _ hs)
    · exact hs

theorem examine (hs : P s) : P (s.examine p) := by
  unfold State.examine
  split
  · split
    · exact hs
    · split
      · exact hs
      · split
        · exact h.examineJob _ hs
        · exact hs
  · exact h.examinePattern _ _ hs
  · exact hs

theorem losePath (hs : P s) : P (s.losePath p) := by
  unfold State.losePath
  dsimp only
  split
  · exact h.press _ _ _ hs
  · split
    · exact h.press _ _ _ hs
    · refine h.faultRewound (h.report _ _ (h.job _ _ _ (fun j => ?_) (h.press _ _ _ hs)))
      unfold Job.setCursor
      split <;> exact ⟨rfl, rfl⟩

theorem enterCalibrating (hs : P s) : P (s.enterCalibrating p) := by
  unfold State.enterCalibrating
  split
  · exact h.enter _ hs
  · exact h.push _ (h.give _ (h.press _ _ _ (h.enter _ hs)))

theorem recover (hs : P s) : P (s.recover p) := by
  unfold State.recover
  split
  · exact h.enterBusy hs
  · split
    · exact h.enterCalibrating hs
    · exact h.enterIdle hs

theorem sendSleep (hs : P s) : P (s.sendSleep p) := h.give _ (h.enter _ hs)

/-! ## Wakes and sleep -/

theorem grant (c : CircuitNo) (rest : List PressNo) (hs : P s) : P (s.grant c p rest) :=
  h.give _ (h.enter _ (h.press _ _ _ (h.circuit _ _ _ hs)))

theorem grantLoop (c : CircuitNo) (n : Nat) : ∀ s, P s → P (s.grantLoop c n) := by
  induction n with
  | zero => exact fun s hs => hs
  | succ n ih =>
    intro s hs
    unfold State.grantLoop
    split
    · exact hs
    · split
      · exact ih _ (h.grant _ _ hs)
      · exact hs

theorem grantCheck (c : CircuitNo) (hs : P s) : P (s.grantCheck c) := h.grantLoop c 12 s hs

theorem joinQueue (c : CircuitNo) (hs : P s) : P (s.joinQueue c p) := by
  unfold State.joinQueue
  dsimp only
  split
  · exact h.grantCheck _ (h.circuit _ _ _ hs)
  · exact h.circuit _ _ _ hs

theorem leaveQueue (c : CircuitNo) (hs : P s) : P (s.leaveQueue c p) := by
  unfold State.leaveQueue
  dsimp only
  split
  · exact h.grantCheck _ (h.circuit _ _ _ hs)
  · exact h.circuit _ _ _ hs

theorem leaveQueues (hs : P s) : P (s.leaveQueues p) := by
  refine Local.fold _ (fun s c hs => ?_) _ hs
  split
  · exact h.leaveQueue _ hs
  · exact hs

theorem requestWake (o : WakeOrigin) (hs : P s) : P (s.requestWake p o) := h.joinQueue _ (h.enter _ hs)

theorem withdraw (hs : P s) : P (s.withdraw p) := h.leaveQueues (h.enter _ hs)

theorem trySleep (hs : P s) : P (s.trySleep p) := by
  unfold State.trySleep
  split
  · split
    · exact h.sendSleep hs
    · exact hs
  · exact hs

theorem setSleepPending (hs : P s) : P (s.setSleepPending p) := by
  unfold State.setSleepPending
  split
  · exact h.trySleep (h.report _ _ (h.press _ _ _ hs))
  · exact h.trySleep hs

theorem keepAwake (hs : P s) : P (s.keepAwake p) := by
  unfold State.keepAwake
  split
  · dsimp only
    split
    · exact h.report _ _ (h.press _ _ _ hs)
    · exact h.press _ _ _ hs
  · exact hs

theorem expireIdle (hs : P s) : P (s.expireIdle p) := by
  unfold State.expireIdle
  split
  · exact h.setSleepPending hs
  · exact hs

theorem enterAsleep (hs : P s) : P (s.enterAsleep p) := h.press _ _ _ (h.enter _ hs)

/-! ## Dispatch -/

theorem bind (hs : P s) : P (s.bind p e) := by
  unfold State.bind
  split
  · exact hs
  · exact h.press _ _ _ (h.enterBusy (h.moveJob _ hs))

theorem decidePress (hs : P s) : P (s.decidePress p) := by
  unfold State.decidePress
  split
  · split
    · exact hs
    · split
      · exact h.enterCalibrating hs
      · exact h.bind hs
  · exact hs

theorem decideJob (hs : P s) : P (s.decideJob e) := by
  unfold State.decideJob
  split
  · exact hs
  · split
    · split
      · exact h.bind hs
      · split
        · exact h.enterCalibrating hs
        · exact h.wantDemand hs
    · exact hs

theorem wakeForPress (hs : P s) : P (s.wakeForPress p) := by
  unfold State.wakeForPress
  split
  · exact h.requestWake _ hs
  · exact hs

theorem wakeForPool (q : PoolNo) (n : Nat) : ∀ s, P s → P (s.wakeForPool q n) := by
  induction n with
  | zero => exact fun s hs => hs
  | succ n ih =>
    intro s hs
    unfold State.wakeForPool
    split
    · split
      · exact ih _ (h.requestWake _ hs)
      · exact hs
    · exact hs

theorem trimPool (q : PoolNo) (n : Nat) : ∀ s, P s → P (s.trimPool q n) := by
  induction n with
  | zero => exact fun s hs => hs
  | succ n ih =>
    intro s hs
    unfold State.trimPool
    split
    · exact ih _ (h.withdraw hs)
    · exact hs

theorem trimPress (hs : P s) : P (s.trimPress p) := by
  exact Local.choose (h.withdraw hs) hs

theorem keepWanted (hs : P s) : P (s.keepWanted p) := by
  unfold State.keepWanted
  split
  · split
    · exact hs
    · exact h.keepAwake hs
  · exact hs

theorem evalDemand (hs : P s) : P s.evalDemand := by
  unfold State.evalDemand
  dsimp only
  refine Local.fold _ (fun s p hs => h.keepWanted hs) _ ?_
  refine Local.fold _ (fun s p hs => h.trimPress hs) _ ?_
  refine Local.fold _ (fun s q hs => h.trimPool q _ s hs) _ ?_
  refine Local.fold _ (fun s p hs => ?_) _ ?_
  · split
    · exact h.trimPress hs
    · exact hs
  refine Local.fold _ (fun s q hs => h.wakeForPool q 12 s hs) _ ?_
  exact Local.fold _ (fun s p hs => h.wakeForPress hs) _ hs

theorem perform (t : Task) (hs : P s) : P (s.perform t) := by
  cases t with
  | decidePress p => exact h.decidePress hs
  | decideJob e => exact h.decideJob hs
  | examine p => exact h.examine hs

theorem settleLoop (n : Nat) : ∀ s, P s → P (s.settleLoop n) := by
  induction n with
  | zero => exact fun s hs => hs
  | succ n ih =>
    intro s hs
    unfold State.settleLoop
    split
    · exact ih _ (h.evalDemand (h.demand _ _ hs))
    · split
      · exact ih _ (h.agenda _ _ (h.perform _ (h.agenda _ _ hs)))
      · exact hs

/-- Settling a step keeps what every small change keeps. -/
theorem settle (hs : P s) : P s.settle := h.settleLoop 2048 s hs

/-! ## The end of jobs and of bindings -/

theorem recheckLoop (a : AccountNo) (n : Nat) : ∀ s, P s → P (s.recheckLoop a n) := by
  induction n with
  | zero => exact fun s hs => hs
  | succ n ih =>
    intro s hs
    unfold State.recheckLoop
    split
    · exact hs
    · split
      · exact ih _ (h.settle (h.admitJob hs))
      · exact hs

theorem recheck (a : AccountNo) (hs : P s) : P (s.recheck a) := h.recheckLoop a 64 s hs

theorem releaseHold (a : AccountNo) (n : Nat) (hj : ∃ e j, s.job e = some j ∧ j.account = a) (hs : P s) :
    P (s.releaseHold a n) := by
  unfold State.releaseHold
  have h1 := h.account a (fun x => { x with holdTotal := x.holdTotal - n }) s (fun _ => rfl) hj hs
  dsimp only
  split
  · exact h.recheck a h1
  · exact h1

theorem finishJob (o : JobOutcome) (hs : P s) : P (s.finishJob e o) := by
  unfold State.finishJob
  split
  · exact hs
  · rename_i j hj
    have h1 := h.write e j { j with state := .finished o, hold := none, starve := none } s hj rfl rfl hs
    refine h.wantDemand (h.report _ _ (h.spool _ _ (.free _ e) ?_))
    split
    · exact h.releaseHold _ _ ⟨e, _, State.job_setJob_self .., rfl⟩ h1
    · exact h1

theorem takeTarget (t : DrainTarget) (hs : P s) : P (s.takeTarget e t) := by
  unfold State.takeTarget
  split
  · exact hs
  · split
    · exact h.moveJob _ hs
    · exact h.leaveStarved (h.raise _ _ _ _ (by decide) (h.moveJob _ hs))
    · exact h.moveJob _ hs
    · exact h.finishJob _ hs

theorem endDrainIfEmpty (hs : P s) : P (s.endDrainIfEmpty p e) := by
  unfold State.endDrainIfEmpty
  split
  · exact hs
  · split
    · split
      · exact h.releasePress (h.takeTarget _ hs)
      · exact hs
    · exact hs

theorem startDrain (t : DrainTarget) (hs : P s) : P (s.startDrain p e t) :=
  h.endDrainIfEmpty (h.moveJob _ (h.endMediaWait hs))

theorem unbindLost (hs : P s) : P (s.unbindLost p) := by
  unfold State.unbindLost
  split
  · exact hs
  · split
    · exact hs
    · split
      · exact h.takeTarget _ hs
      · exact h.enterQueued hs

theorem endLostDrain (hs : P s) : P (s.endLostDrain p) := by
  unfold State.endLostDrain
  split
  · exact h.endDrainIfEmpty hs
  · exact hs

theorem transmit (hs : P s) : P (s.transmit p) := Local.choose (h.pump hs) (h.endLostDrain (h.pump hs))

/-! ## Press frames -/

theorem linkDown (b : Bool) (hs : P s) : P (s.linkDown p b) := by
  unfold State.linkDown
  dsimp only
  refine h.settle (h.ended _ _ _ (h.ended _ _ _ ?_))
  have h1 : P ((((((s.modPress p fun x => { x with txq := [], credits := 0, rx := none }).losePath p).unbindLost
      p).settle).enter p .down).modPress p fun x => { x with resumeMark := false, cover := none, heartbeat := 0 }) :=
    h.press _ _ _ (h.enter _ (h.settle (h.unbindLost (h.losePath (h.press _ _ _ hs)))))
  split
  · exact h.raise _ _ _ _ (by decide) (h.leaveQueues h1)
  · exact h.leaveQueues h1

theorem restartLink (hs : P s) : P (s.restartLink p) := by
  unfold State.restartLink
  dsimp only
  refine h.report _ _ (h.press _ _ _ ?_)
  split
  · exact hs
  · exact h.linkDown _ hs

theorem protocolFault (hs : P s) : P (s.protocolFault p) := by
  unfold State.protocolFault
  exact h.restartLink (h.sticky _ _ (h.raise _ _ _ _ (by decide) hs))

theorem linkUp (c : Caps) (b : Bool) (hs : P s) : P (s.linkUp p c b) := by
  unfold State.linkUp
  dsimp only
  refine h.ended _ _ _ ?_
  have h1 : P (((s.modRec p fun r => { r with caps := some c }).modPress p fun x =>
      { x with credits := 0, seq := 0, cover := some false, heartbeat := 0, restart := none }).give p .linked) :=
    h.give _ (h.press _ _ _ (h.record _ _ _ (fun _ => rfl) hs))
  split
  · exact h.enterAsleep h1
  · exact h.enterIdle (h.press _ _ _ h1)

theorem onHello (c : Caps) (b : Bool) (hs : P s) : P (s.onHello p c b) := by
  unfold State.onHello
  split
  · split
    · exact h.linkUp _ _ hs
    · exact h.linkUp _ _ (h.linkDown _ hs)
  · exact hs

theorem coverLoss (hs : P s) : P (s.coverLoss p) := by
  unfold State.coverLoss
  split
  · exact h.losePath hs
  · exact h.countJam _ (h.losePath hs)

theorem coverOpens (hs : P s) : P (s.coverOpens p) := by
  unfold State.coverOpens
  dsimp only
  have h1 := h.report (.press p) _ (h.raise .coverOpen (.press p) none _ (by decide)
    (h.press p (fun x => { x with cover := some true }) _ hs))
  split
  · exact h.enter _ h1
  · exact h.endLostDrain (h.enter _ (h.coverLoss h1))
  · exact h.enter _ (h.coverLoss (h.press _ _ _ h1))
  · exact h.enter _ h1
  · exact h.enter _ h1
  · exact h1

theorem coverCloses (hs : P s) : P (s.coverCloses p) := by
  unfold State.coverCloses
  dsimp only
  have h1 := h.report (.press p) _ (h.ended .coverOpen (.press p) _
    (h.press p (fun x => { x with cover := some false }) _ hs))
  split
  · exact h.recover h1
  · exact h1

theorem onCover (b : Bool) (hs : P s) : P (s.onCover p b) := by
  unfold State.onCover
  split
  · exact hs
  · split
    · exact h.coverOpens hs
    · exact h.coverCloses hs

theorem onPicked (q : Seq) (hs : P s) : P (s.onPicked p q) := by
  unfold State.onPicked
  split
  · split
    · exact h.press _ _ _ hs
    · exact h.protocolFault hs
  · exact h.protocolFault hs

omit h in
/-- Releasing the pages of a sheet is a change inside the spool. -/
theorem release_pages (ks : List Nat) : ∀ sp : Spool, SpoolStep sp (ks.foldl (fun sp k => sp.releasePage e k) sp) := by
  induction ks with
  | nil => exact fun sp => .refl sp
  | cons k ks ih => exact fun sp => .trans _ _ _ (.release sp e k) (ih _)

theorem releasePages (j : Job) (n : Nat) (hs : P s) : P (s.releasePages e j n) := by
  unfold State.releasePages
  split
  · split
    · exact h.spool _ _ (Local.release_pages _ _) hs
    · exact hs
  · exact hs

theorem afterDelivery (hs : P s) : P (s.afterDelivery p e) := by
  unfold State.afterDelivery
  split
  · exact hs
  · split
    · exact h.releasePress (h.finishJob _ hs)
    · exact h.push _ (h.endDrainIfEmpty hs)

theorem deliverJob (ent : PathEntry) (n : Nat) (hs : P s) : P (s.deliverJob p ent e n) := by
  unfold State.deliverJob
  split
  · exact hs
  · exact h.afterDelivery (h.report _ _ (h.job _ _ _ (fun _ => ⟨rfl, rfl⟩)
      (h.releasePages _ _ (h.record _ _ _ PressRec.settings_countSheet (h.meter _ _ _ _ (h.applyCharge _ hs))))))

theorem onDelivered (q : Seq) (hs : P s) : P (s.onDelivered p q) := by
  unfold State.onDelivered
  split
  · exact h.protocolFault hs
  · split
    · dsimp only
      split
      · exact h.deliverJob _ _ (h.press _ _ _ hs)
      · exact h.push _ (h.meter _ _ _ _ (h.press _ _ _ hs))
    · exact h.protocolFault hs

theorem onJam (location : Nat) (hs : P s) : P (s.onJam p location) := by
  unfold State.onJam
  dsimp only
  split
  · exact h.endLostDrain (h.raise _ _ _ _ (by decide) (h.countJam _ (h.enter _ (h.losePath hs))))
  · exact h.raise _ _ _ _ (by decide) (h.countJam _ (h.enter _ (h.losePath (h.press _ _ _ hs))))
  · exact h.raise _ _ _ _ (by decide) (h.countJam _ hs)
  · exact hs

theorem onClear (hs : P s) : P (s.onClear p) := by
  unfold State.onClear
  split
  · dsimp only
    split
    · exact h.enter _ (h.ended _ _ _ hs)
    · exact h.recover (h.ended _ _ _ hs)
  · exact hs

theorem onTray (index : Nat) (t : Tray) (hs : P s) : P (s.onTray p index t) := by
  unfold State.onTray
  split
  · exact hs
  · split
    · rename_i c _ _
      have h1 := h.push (.examine p) (h.evalDemand (h.report (.press p) _
        (h.record p (fun r => { r with caps := some { c with trays := c.trays.set index t } }) _ (fun _ => rfl) hs)))
      dsimp only
      split
      · exact h.push _ h1
      · exact h1
    · exact hs

theorem onReady (hs : P s) : P (s.onReady p) := by
  unfold State.onReady
  split
  · refine h.enterIdle ?_
    split
    · exact h.record _ _ _ (fun _ => rfl) hs
    · exact hs
  · exact hs

theorem onAsleep (hs : P s) : P (s.onAsleep p) := by
  unfold State.onAsleep
  split
  · exact h.enterAsleep hs
  · exact h.enterAsleep hs
  · exact hs

theorem failRun (hs : P s) : P (s.failRun p) := h.raise _ _ _ _ (by decide) (h.enter _ (h.losePath hs))

theorem onCaldone (b : Bool) (hs : P s) : P (s.onCaldone p b) := by
  unfold State.onCaldone
  split
  · split
    · exact h.enterIdle (h.record _ _ _ (fun _ => rfl) (h.losePath hs))
    · exact h.failRun hs
  · exact hs

theorem onCredit (n : Nat) (hs : P s) : P (s.onCredit p n) := h.push _ (h.transmit (h.press _ _ _ hs))

theorem frameAct (f : PressIn) (hs : P s) : P (s.frameAct p f) := by
  cases f with
  | hello d c depth trays a => exact h.onHello _ _ hs
  | beat b => exact h.onCover _ hs
  | credit n => exact h.onCredit _ hs
  | picked q => exact h.onPicked _ hs
  | delivered q => exact h.onDelivered _ hs
  | jam l =>
    unfold State.frameAct
    dsimp only
    split
    · exact h.onJam _ hs
    · exact hs
  | clear => exact h.onClear hs
  | tray i m l => exact h.onTray _ _ hs
  | cover b => exact h.onCover _ hs
  | ready => exact h.onReady hs
  | asleep => exact h.onAsleep hs
  | caldone b => exact h.onCaldone _ hs
  | junk => exact hs

/-- Taking any press frame keeps what every small change keeps. -/
theorem takeFrame (f : PressIn) (hs : P s) : P (s.takeFrame p f) := by
  unfold State.takeFrame
  split
  · exact hs
  · split
    · split
      · exact h.settle (h.frameAct _ hs)
      · exact hs
    · exact h.settle (h.frameAct _ (h.press _ _ _ hs))

theorem feedPress (b : Byte) (hs : P s) : P (s.feedPress p b) := by
  unfold State.feedPress
  split
  · split
    · exact h.press _ _ _ hs
    · exact hs
  · dsimp only
    split
    · exact h.press _ _ _ hs
    · split
      · split
        · exact h.takeFrame _ (h.press _ _ _ hs)
        · exact h.press _ _ _ hs
      · exact h.press _ _ _ hs

/-- Feeding bytes to the receiver of a press's link keeps what every small change keeps. -/
theorem feedPressBytes (bytes : List Byte) (hs : P s) : P (s.feedPressBytes p bytes) :=
  Local.fold _ (fun _ b hs => h.feedPress b hs) _ hs

theorem frameDone (hs : P s) : P (s.frameDone p) := by
  unfold State.frameDone
  split
  · exact hs
  · exact h.settle (h.transmit (h.press _ _ _ hs))

end Local

end Sys2Proof.Machine
end

