-- ==== Sys2Proof/Laws/Outer.lean ====
section
/-! SUPPORT. The outer part of the state is left alone by everything inside the part (presses, the jobs on them,
dispatch). -/

namespace Sys2Proof.Machine

variable (s : State)

@[simp] theorem State.outer_overflowRaise : s.overflowRaise.outer = s.outer := by
  unfold State.overflowRaise
  split <;> rfl

@[simp] theorem State.outer_raise (k : AlertKind) (src : Source) (d : Option Nat) :
    (s.raise k src d).outer = s.outer := by
  unfold State.raise
  split
  · split <;> rfl
  · split
    · rfl
    · dsimp only
      split
      · rfl
      · split
        · rfl
        · exact s.outer_overflowRaise

@[simp] theorem State.outer_endCondition (k : AlertKind) (src : Source) : (s.endCondition k src).outer = s.outer := by
  unfold State.endCondition
  split
  · rfl
  · split
    · rfl
    · split <;> rfl

/-- Having one outer part is a property that every small change inside the part keeps. -/
theorem outer_local (o : Outer) : Local fun s => s.outer = o where
  press _ _ _ h := h
  record _ _ s hf h := (s.outer_modRec _ hf).trans h
  circuit _ _ _ h := h
  meter _ _ _ _ h := h
  account _ _ _ _ _ h := h
  job _ _ _ _ h := h
  write _ _ _ _ _ _ _ h := h
  report _ _ h := h
  raise k src d s _ h := (s.outer_raise k src d).trans h
  ended k src s h := (s.outer_endCondition k src).trans h
  spool _ _ _ h := h
  sticky _ _ h := h
  agenda _ _ h := h
  demand _ _ h := h

/-- With no job live, that none is live and what the accounts hold are kept by every small change inside the part. -/
theorem noJobs_local (x : Vector Account 256) : Local fun s => (∀ e, s.job e = none) ∧ s.ret.accounts = x where
  press _ _ _ h := h
  record _ _ _ _ h := h
  circuit _ _ _ h := h
  meter _ _ _ _ h := h
  account a f s _ hj h := by
    obtain ⟨e, j, hj, -⟩ := hj
    exact absurd hj (by simp [h.1 e])
  job e f s _ h := by
    refine ⟨fun d => ?_, h.2⟩
    rw [State.job_modJob]
    split <;> simp [h.1]
  write e j j' s hj _ _ h := absurd hj (by simp [h.1 e])
  report _ _ h := h
  raise k src d s _ h := by
    unfold State.raise State.overflowRaise State.setAlert State.mark
    repeat' split
    all_goals exact h
  ended k src s h := by
    unfold State.endCondition State.setAlert State.mark
    repeat' split
    all_goals exact h
  spool _ _ _ h := h
  sticky _ _ h := h
  agenda _ _ h := h
  demand _ _ h := h

/-- What happens to the spool inside the part leaves a fresh one as it is. -/
theorem SpoolStep.fresh {a b : Spool} (h : SpoolStep a b) : a = Spool.fresh → b = Spool.fresh := by
  induction h with
  | refl => exact id
  | damage sp e k d pg hp =>
    rintro rfl
    simp [Spool.page, Spool.fresh] at hp
  | free sp e =>
    rintro rfl
    simp [Spool.freeJob, Spool.pageCount, Spool.fresh]
  | release sp e k =>
    rintro rfl
    simp [Spool.releasePage, Spool.page, Spool.fresh]
  | trans a b c _ _ ih1 ih2 => exact ih2 ∘ ih1

/-- Being fresh is a property of the spool that every small change inside the part keeps. -/
theorem fresh_local : Local fun s => s.spool = Spool.fresh where
  press _ _ _ h := h
  record _ _ _ _ h := h
  circuit _ _ _ h := h
  meter _ _ _ _ h := h
  account _ _ _ _ _ h := h
  job _ _ _ _ h := h
  write _ _ _ _ _ _ _ h := h
  report _ _ h := h
  raise k src d s _ h := by
    unfold State.raise State.overflowRaise State.setAlert State.mark
    repeat' split
    all_goals exact h
  ended k src s h := by
    unfold State.endCondition State.setAlert State.mark
    repeat' split
    all_goals exact h
  spool _ _ hs h := hs.fresh h
  sticky _ _ h := h
  agenda _ _ h := h
  demand _ _ h := h

@[simp] theorem State.outer_settle : s.settle.outer = s.outer := (outer_local s.outer).settle rfl

@[simp] theorem State.outer_takeFrame (p : PressNo) (f : PressIn) : (s.takeFrame p f).outer = s.outer :=
  (outer_local s.outer).takeFrame f rfl

@[simp] theorem State.outer_frameDone (p : PressNo) : (s.frameDone p).outer = s.outer :=
  (outer_local s.outer).frameDone rfl

@[simp] theorem State.outer_finishJob (e : Entry) (o : JobOutcome) : (s.finishJob e o).outer = s.outer :=
  (outer_local s.outer).finishJob o rfl

@[simp] theorem State.outer_startDrain (p : PressNo) (e : Entry) (t : DrainTarget) :
    (s.startDrain p e t).outer = s.outer := (outer_local s.outer).startDrain t rfl

@[simp] theorem State.outer_recheck (a : AccountNo) : (s.recheck a).outer = s.outer :=
  (outer_local s.outer).recheck a rfl

@[simp] theorem State.outer_linkDown (p : PressNo) (b : Bool) : (s.linkDown p b).outer = s.outer :=
  (outer_local s.outer).linkDown b rfl

@[simp] theorem State.outer_grantCheck (c : CircuitNo) : (s.grantCheck c).outer = s.outer :=
  (outer_local s.outer).grantCheck c rfl

/-- The parts of the outer part, each from the equation of the whole. -/
theorem State.outer_eq {s t : State} (h : t.outer = s.outer) :
    t.phase = s.phase ∧ t.time = s.time ∧ t.slot = s.slot ∧ t.intake = s.intake ∧ t.framer = s.framer
      ∧ t.txReport = s.txReport ∧ t.pending = s.pending ∧ t.ret.current = s.ret.current
      ∧ t.ret.other = s.ret.other ∧ t.ret.schedule = s.ret.schedule := by
  simp only [State.outer, Outer.mk.injEq] at h
  tauto

end Sys2Proof.Machine
end

