-- ==== Sys2Proof/Laws/Settle.lean ====
section
/-! SUPPORT. When settling a step does nothing: nothing raised; no work; no press that a decision could move. -/

namespace Sys2Proof.Machine

/-- Settling does nothing when nothing is left to settle. -/
theorem State.settle_quiet {s : State} (h : Quiet s) : s.settle = s := by
  unfold State.settle State.settleLoop
  simp [State.demandNext, h.1, h.2]

section NoWork

variable {s : State} (h : ∀ e, s.job e = none)
include h

theorem State.eligible_noJobs (e : Entry) : s.eligible e = false := by simp [State.eligible, h e]

theorem State.offered_noJobs (e : Entry) : s.offered e = false := by simp [State.offered, State.eligible_noJobs h]

theorem State.isCandidate_noJobs (p : PressNo) (e : Entry) : s.isCandidate p e = false := by
  simp [State.isCandidate, State.offered_noJobs h]

theorem State.candidates_noJobs (p : PressNo) : s.candidates p = [] := by
  simp [State.candidates, State.isCandidate_noJobs h]

/-- A press with no candidate stays as it is at its decision point (R66). -/
theorem State.decidePress_noJobs (p : PressNo) : s.decidePress p = s := by
  simp [State.decidePress, State.bestCandidate, State.candidates_noJobs h, pickMax]

theorem State.decideJob_noJobs (e : Entry) : s.decideJob e = s := by simp [State.decideJob, h e]

theorem State.boundJob_noJobs (p : PressNo) : s.boundJob p = none := by
  simp [State.boundJob, h]

theorem State.pressDemand_noJobs (p : PressNo) : s.pressDemand p = false := by
  simp [State.pressDemand, State.offered_noJobs h]

theorem State.poolJobs_noJobs (q : PoolNo) : s.poolJobs q = [] := by
  simp [State.poolJobs, State.offered_noJobs h]

theorem State.poolWanted_noJobs (q : PoolNo) : s.poolWanted q = 0 := by
  simp [State.poolWanted, State.poolJobs_noJobs h]

theorem State.wakeForPress_noJobs (p : PressNo) : s.wakeForPress p = s := by
  simp [State.wakeForPress, State.pressDemand_noJobs h]

theorem State.wakeForPool_noJobs (q : PoolNo) (n : Nat) : s.wakeForPool q n = s := by
  cases n with
  | zero => rfl
  | succ n => simp [State.wakeForPool, State.poolWanted_noJobs h]

theorem State.keepWanted_noJobs (p : PressNo) : s.keepWanted p = s := by
  unfold State.keepWanted
  split <;> simp [State.candidates_noJobs h]

end NoWork

/-- A press that waits for no wake on demand is not withdrawn (R78). -/
theorem State.withdrawable_nobody {s : State} {p : PressNo} (h : (s.press p).state ≠ .wakeWait .demand) :
    s.withdrawable p = false := by
  simp [State.withdrawable, h]

theorem State.trimPress_nobody {s : State} {p : PressNo} (h : (s.press p).state ≠ .wakeWait .demand) :
    s.trimPress p = s := by
  unfold State.trimPress
  simp only [State.withdrawable_nobody h, Bool.false_and]
  rfl

theorem State.trimPool_nobody {s : State} (h : ∀ p, (s.press p).state ≠ .wakeWait .demand) (q : PoolNo) (n : Nat) :
    s.trimPool q n = s := by
  cases n with
  | zero => rfl
  | succ n =>
    have h1 : ∀ l : List PressNo, l.find? s.withdrawable = none := by
      simp [State.withdrawable_nobody (h _)]
    simp [State.trimPool, h1]

/-- A fold of operations that each do nothing does nothing. -/
theorem foldl_same {α β : Type} (f : β → α → β) {b : β} (l : List α) (h : ∀ a, f b a = b) : l.foldl f b = b := by
  induction l with
  | nil => rfl
  | cons a l ih => simp [h a, ih]

/-- The withdrawals of wake demand do nothing when nobody waits on demand (R78). -/
theorem State.trim_nobody {s : State} (h : ∀ p, (s.press p).state ≠ .wakeWait .demand)
    (hk : ∀ p, s.keepWanted p = s) :
    (allPresses.foldl (fun s p => State.keepWanted p s)
      (allPresses.foldl (fun s p => State.trimPress p s)
        ((List.finRange 4).foldl (fun s q => State.trimPool q (s.poolAwake q - s.poolWanted q) s)
          (allPresses.foldl (fun s p => if (s.poolInForce p).isNone then State.trimPress p s else s) s)))) = s := by
  have h1 : ∀ p, (if (s.poolInForce p).isNone then State.trimPress p s else s) = s := fun p => by
    rw [State.trimPress_nobody (h p)]; split <;> rfl
  rw [foldl_same (fun (s : State) p => if (s.poolInForce p).isNone then State.trimPress p s else s) _ h1,
    foldl_same (fun (s : State) q => State.trimPool q (s.poolAwake q - s.poolWanted q) s) _
      fun q => State.trimPool_nobody h q _,
    foldl_same (fun s p => State.trimPress p s) _ fun p => State.trimPress_nobody (h p)]
  exact foldl_same (fun s p => State.keepWanted p s) _ hk

/-- Wake demand asks for nothing and withdraws nothing when there is no work (R76 to R78). -/
theorem State.evalDemand_noWork {s : State} (h : NoWork s) : s.evalDemand = s := by
  unfold State.evalDemand
  dsimp only
  rw [foldl_same (fun s p => State.wakeForPress p s) _ (State.wakeForPress_noJobs h.free),
    foldl_same (fun s q => State.wakeForPool q 12 s) _ fun q => State.wakeForPool_noJobs h.free q 12]
  exact State.trim_nobody h.nobody (State.keepWanted_noJobs h.free)

/-- Wake demand does nothing when no press is IDLE, ASLEEP or waiting (R76 to R78, R109). -/
theorem State.evalDemand_still {s : State} (h : Still s) : s.evalDemand = s := by
  have asleep : ∀ q, (s.poolPresses q).find? (fun p => (s.press p).state == .asleep) = none := by
    intro q
    simp [(h _).2.1]
  have pool : ∀ q n, s.wakeForPool q n = s := by
    intro q n
    cases n with
    | zero => rfl
    | succ n => simp [State.wakeForPool, asleep]
  have press : ∀ p, s.wakeForPress p = s := by
    intro p
    simp [State.wakeForPress, (h p).2.1]
  have keep : ∀ p, s.keepWanted p = s := by
    intro p
    unfold State.keepWanted
    have := (h p).1
    split
    · simp_all [PressState.isIdle]
    · rfl
  have nobody : ∀ p, (s.press p).state ≠ .wakeWait .demand := fun p => (h p).2.2 .demand
  unfold State.evalDemand
  dsimp only
  rw [foldl_same (fun s p => State.wakeForPress p s) _ press,
    foldl_same (fun s q => State.wakeForPool q 12 s) _ fun q => pool q 12]
  exact State.trim_nobody nobody keep

/-- A press that is not IDLE is not bound at a decision point (R66). -/
theorem State.decidePress_busy {s : State} {p : PressNo} (h : (s.press p).state.isIdle = false) :
    s.decidePress p = s := by
  simp [State.decidePress, h]

/-- With no IDLE press a job's decision point leaves it QUEUED and has wake demand evaluated, if anything (R67). -/
theorem State.decideJob_still {s : State} (h : ∀ p, (s.press p).state.isIdle = false) (e : Entry) :
    s.decideJob e = s ∨ s.decideJob e = s.wantDemand := by
  unfold State.decideJob
  split
  · exact .inl rfl
  · rename_i j hj
    have h1 : s.idleFitting j = [] := by simp [State.idleFitting, h]
    split
    · simp [h1]
    · exact .inl rfl

/-- Examining the sheet conditions of a press that neither prints nor calibrates does nothing (R46, R114). -/
theorem State.examine_other {s : State} {p : PressNo} (hb : ∀ m, (s.press p).state ≠ .busy m)
    (hc : ∀ r t, (s.press p).state ≠ .calibrating r t) : s.examine p = s := by
  unfold State.examine
  split
  · rename_i h; exact absurd h (hb _)
  · rename_i h; exact absurd h (hc _ _)
  · rfl

/-- Examining the sheet conditions of a press with no bound job that does not calibrate does nothing (R46). -/
theorem State.examine_unbound {s : State} {p : PressNo} (hb : s.boundJob p = none)
    (hc : ∀ r t, (s.press p).state ≠ .calibrating r t) : s.examine p = s := by
  unfold State.examine
  split
  · simp [hb]
  · rename_i h; exact absurd h (hc _ _)
  · rfl

/-- Settling takes the piece of work in front when no evaluation of demand comes first. -/
theorem State.settleLoop_cons {s : State} {t : Task} {rest : List Task} (n : Nat) (h : s.agenda = t :: rest)
    (hd : s.demandNext = false) :
    s.settleLoop (n + 1) = ((({ s with agenda := rest } : State).perform t).newFirst rest.length).settleLoop n := by
  conv => lhs; unfold State.settleLoop
  simp [h, hd]

/-- Settling evaluates wake demand when it comes first (R75). -/
theorem State.settleLoop_demand {s : State} (n : Nat) (h : s.demandNext = true) :
    s.settleLoop (n + 1) = ({ s with demand := false } : State).evalDemand.settleLoop n := by
  conv => lhs; unfold State.settleLoop
  simp [h]

/-- Settling ends with nothing on the agenda and no demand to evaluate. -/
theorem State.settleLoop_nil {s : State} (n : Nat) (h : Quiet s) : s.settleLoop (n + 1) = s := by
  unfold State.settleLoop
  simp [State.demandNext, h.1, h.2]

/-- Settling an agenda each piece of which does nothing, with wake demand that asks for nothing. -/
theorem State.settleLoop_idle (l : List Task) : ∀ (n : Nat) (s : State), s.agenda = l → l.length + 1 < n →
    (∀ t ∈ l, ∀ rest, ({ s with agenda := rest, demand := false } : State).perform t =
      { s with agenda := rest, demand := false }) →
    (∀ t ∈ l, ∀ rest, ({ s with agenda := rest } : State).perform t = { s with agenda := rest }) →
    (∀ rest, ({ s with agenda := rest, demand := false } : State).evalDemand =
      { s with agenda := rest, demand := false }) →
    s.settleLoop (n + 1) = { s with agenda := [], demand := false } := by
  have quiet : ∀ (l : List Task) (n : Nat) (s : State), s.agenda = l → s.demand = false → l.length < n →
      (∀ t ∈ l, ∀ rest, ({ s with agenda := rest, demand := false } : State).perform t =
        { s with agenda := rest, demand := false }) →
      s.settleLoop n = { s with agenda := [], demand := false } := by
    intro l
    induction l with
    | nil =>
      intro n s hl hd hn _
      obtain ⟨m, rfl⟩ : ∃ m, n = m + 1 := ⟨n - 1, by simp at hn; omega⟩
      rw [State.settleLoop_nil _ ⟨hl, hd⟩]
      cases s; simp_all
    | cons t l ih =>
      intro n s hl hd hn ht
      obtain ⟨m, rfl⟩ : ∃ m, n = m + 1 := ⟨n - 1, by simp at hn; omega⟩
      have h0 : ({ s with agenda := l } : State) = { s with agenda := l, demand := false } := by cases s; simp_all
      have h1 : ({ s with agenda := l, demand := false } : State).newFirst l.length =
          { s with agenda := l, demand := false } := by simp [State.newFirst]
      rw [State.settleLoop_cons _ hl (by simp [State.demandNext, hd]), h0, ht t (by simp) l, h1]
      exact ih m { s with agenda := l, demand := false } rfl rfl (by simp at hn; omega)
        fun u hu rest => ht u (List.mem_cons_of_mem _ hu) rest
  induction l with
  | nil =>
    intro n s hl hn ht _ hd
    cases hq : s.demand with
    | false => exact quiet [] _ s hl hq (by simp) ht
    | true =>
      have h0 : ({ s with demand := false } : State) = { s with agenda := [], demand := false } := by
        cases s; simp_all
      rw [State.settleLoop_demand _ (by simp [State.demandNext, hl, hq]), h0, hd]
      exact quiet [] _ _ rfl rfl (by omega) (by simp)
  | cons t l ih =>
    intro n s hl hn ht ht' hd
    cases hq : s.demandNext with
    | true =>
      have h0 : ({ s with demand := false } : State) = { s with agenda := t :: l, demand := false } := by
        cases s; simp_all
      rw [State.settleLoop_demand _ hq, h0, hd]
      exact quiet (t :: l) n _ rfl rfl (by omega) ht
    | false =>
      obtain ⟨m, rfl⟩ : ∃ m, n = m + 1 := ⟨n - 1, by omega⟩
      have h0 : ({ s with agenda := l } : State).newFirst l.length = { s with agenda := l } := by simp [State.newFirst]
      rw [State.settleLoop_cons _ hl hq, ht' t (by simp) l, h0]
      exact ih m { s with agenda := l } rfl (by simp at hn; omega)
        (fun u hu rest => ht u (List.mem_cons_of_mem _ hu) rest)
        (fun u hu rest => ht' u (List.mem_cons_of_mem _ hu) rest) hd

/-- Settling does nothing but forget what was raised, when each piece of the agenda and wake demand do nothing. -/
theorem State.settle_idle {s : State} (hn : s.agenda.length < 2046)
    (ht : ∀ t ∈ s.agenda, ∀ rest d, ({ s with agenda := rest, demand := d } : State).perform t =
      { s with agenda := rest, demand := d })
    (hd : ∀ rest, ({ s with agenda := rest, demand := false } : State).evalDemand =
      { s with agenda := rest, demand := false }) : s.settle = { s with agenda := [], demand := false } :=
  State.settleLoop_idle s.agenda 2047 s rfl (by omega) (fun t h rest => ht t h rest false)
    (fun t h rest => ht t h rest s.demand) hd

/-- With no live job and nobody waiting on demand, a step with nothing on its agenda but decisions and examinations
of presses that do not calibrate settles as it stands. -/
theorem State.settle_noWork {s : State} (h : NoWork s) (hn : s.agenda.length < 2046)
    (hx : ∀ p, Task.examine p ∈ s.agenda → ∀ r t, (s.press p).state ≠ .calibrating r t) :
    s.settle = { s with agenda := [], demand := false } := by
  refine State.settle_idle hn (fun t ht rest d => ?_) fun _ => State.evalDemand_noWork ⟨h.free, h.nobody⟩
  cases t with
  | decidePress p => exact State.decidePress_noJobs (s := { s with agenda := rest, demand := d }) h.free p
  | decideJob e => exact State.decideJob_noJobs (s := { s with agenda := rest, demand := d }) h.free e
  | examine p =>
    exact State.examine_unbound (s := { s with agenda := rest, demand := d })
      (State.boundJob_noJobs (s := { s with agenda := rest, demand := d }) h.free p) (hx p ht)

/-- The demand of a state with no press IDLE, ASLEEP or waiting is settled by forgetting it. -/
theorem State.settle_still {s : State} (h : Still s) (ha : s.agenda = []) :
    s.settle = { s with agenda := [], demand := false } :=
  State.settle_idle (by simp [ha]) (by simp [ha]) fun _ => State.evalDemand_still h

/-- With no press IDLE, ASLEEP or waiting, the decisions of jobs settle by being forgotten: each job stays QUEUED and
wake demand asks for nothing (R67, R76, R77). -/
theorem State.settleLoop_stillJobs (l : List Task) : ∀ (n : Nat) (s : State), s.agenda = l →
    (∀ t ∈ l, ∃ e, t = .decideJob e) → Still s → 2 * l.length + 2 ≤ n →
    s.settleLoop n = { s with agenda := [], demand := false } := by
  induction l with
  | nil =>
    intro n s hl _ hs hn
    obtain ⟨m, rfl⟩ : ∃ m, n = m + 2 := ⟨n - 2, by omega⟩
    cases hq : s.demand with
    | false =>
      rw [State.settleLoop_nil _ ⟨hl, hq⟩]
      cases s; simp_all
    | true =>
      have h0 : ({ s with demand := false } : State) = { s with agenda := [], demand := false } := by
        cases s; simp_all
      have h1 : Still ({ s with agenda := [], demand := false } : State) := hs
      rw [State.settleLoop_demand _ (by simp [State.demandNext, hl, hq]), h0, State.evalDemand_still h1,
        State.settleLoop_nil _ ⟨rfl, rfl⟩]
  | cons t l ih =>
    intro n s hl ht hs hn
    obtain ⟨e, rfl⟩ := ht t (by simp)
    have step : ∀ (m : Nat) (s : State), s.agenda = .decideJob e :: l → s.demand = false → Still s →
        2 * l.length + 3 ≤ m → s.settleLoop m = { s with agenda := [], demand := false } := by
      intro m s hl hd hs hm
      obtain ⟨k, rfl⟩ : ∃ k, m = k + 1 := ⟨m - 1, by omega⟩
      rw [State.settleLoop_cons _ hl (by simp [State.demandNext, hd])]
      have hi : ∀ p, (({ s with agenda := l } : State).press p).state.isIdle = false := fun p => (hs p).1
      rcases State.decideJob_still hi e with h | h
      · have h1 : (({ s with agenda := l } : State).perform (.decideJob e)).newFirst l.length = { s with agenda := l } := by
          simp [State.perform, h, State.newFirst]
        rw [h1, ih k { s with agenda := l } rfl (fun u hu => ht u (List.mem_cons_of_mem _ hu)) hs (by omega)]
      · have h1 : (({ s with agenda := l } : State).perform (.decideJob e)).newFirst l.length =
            { s with agenda := l, demand := true } := by
          simp [State.perform, h, State.newFirst, State.wantDemand]
        rw [h1, ih k { s with agenda := l, demand := true } rfl (fun u hu => ht u (List.mem_cons_of_mem _ hu)) hs
          (by omega)]
    simp only [List.length_cons] at hn
    cases hq : s.demand with
    | false => exact step n s hl hq hs (by omega)
    | true =>
      obtain ⟨m, rfl⟩ : ∃ m, n = m + 1 := ⟨n - 1, by omega⟩
      rw [State.settleLoop_demand _ (by simp [State.demandNext, hl, hq, Task.isDecision])]
      have h0 : Still ({ s with demand := false } : State) := hs
      rw [State.evalDemand_still h0, step m { s with demand := false } hl rfl h0 (by omega)]

/-- With no press IDLE, ASLEEP or waiting, a step that raises only decisions of jobs settles by forgetting them. -/
theorem State.settle_stillJobs {s : State} (h : Still s) (hj : ∀ t ∈ s.agenda, ∃ e, t = .decideJob e)
    (hn : s.agenda.length < 1023) : s.settle = { s with agenda := [], demand := false } :=
  State.settleLoop_stillJobs s.agenda 2048 s rfl hj h (by omega)

end Sys2Proof.Machine
end

