-- ==== Sys2Proof/Laws/Receiver.lean ====
section
/-! SUPPORT. What the receiver of a press's link does with bytes (R80): one lemma for each case of a byte, and what whole
frames, frames with another check, lengths over 300 and frames cut short come to. -/

namespace Sys2Proof.Machine

@[simp] theorem length_le (k n : Nat) : (le k n).length = k := by
  induction k generalizing n with
  | zero => rfl
  | succ k ih => simp [le, ih]

/-- The number that the low bytes of a number spell is the number, as far as they reach. -/
theorem ofLe_le (k n : Nat) : ofLe (le k n) = n % 256 ^ k := by
  induction k generalizing n with
  | zero => simp [le, ofLe, Nat.mod_one]
  | succ k ih =>
    rw [le, ofLe, ih, pow_succ', Nat.mod_mul]
    simp

/-- Two bytes spell a number below 65,536. -/
theorem le_two (n : Nat) : le 2 n = [BitVec.ofNat 8 n, BitVec.ofNat 8 (n / 256)] := rfl

variable {s : State} {p : PressNo}

/-- Two changes of one press are one. -/
theorem State.modPress_modPress (f g : Press → Press) :
    (s.modPress p f).modPress p g = s.modPress p fun x => g (f x) := by
  unfold State.modPress
  simp [State.press]

/-- A change that leaves a press as it is changes nothing. -/
theorem State.modPress_same {f : Press → Press} (h : f (s.press p) = s.press p) : s.modPress p f = s := by
  unfold State.modPress
  rw [h]
  simp [State.press]

@[simp] theorem State.feedPressBytes_nil : s.feedPressBytes p [] = s := rfl

@[simp] theorem State.feedPressBytes_cons (b : Byte) (bs : List Byte) :
    s.feedPressBytes p (b :: bs) = (s.feedPress p b).feedPressBytes p bs := rfl

theorem State.feedPressBytes_append (a b : List Byte) :
    s.feedPressBytes p (a ++ b) = (s.feedPressBytes p a).feedPressBytes p b := List.foldl_append

/-- A hunting receiver begins a frame at a start byte and passes over every other byte. -/
theorem State.feedPress_hunting (h : (s.press p).rx = none) (b : Byte) :
    s.feedPress p b = if b = 0x5A then s.modPress p fun x => { x with rx := some [] } else s := by
  simp [State.feedPress, h]

/-- A receiver within a frame, with the bytes `g` of it, on its next byte: a length over 300 discards the frame, the
last byte has it taken or discarded by its check, and any other byte joins it. -/
theorem State.feedPress_within {g : List Byte} (h : (s.press p).rx = some g) (b : Byte) :
    s.feedPress p b =
      if (g ++ [b]).length = 2 ∧ Config.maxPressBody < fieldAt (g ++ [b]) 0 2 then s.dropPressFrame p
      else if (g ++ [b]).length = 5 + fieldAt (g ++ [b]) 0 2 then
        if fieldAt (g ++ [b]) (3 + fieldAt (g ++ [b]) 0 2) 2 =
            (crc16 ((g ++ [b]).take (3 + fieldAt (g ++ [b]) 0 2))).toNat then
          (s.dropPressFrame p).takeFrame p
            (pressIn (byteAt (g ++ [b]) 2) (((g ++ [b]).drop 3).take (fieldAt (g ++ [b]) 0 2)))
        else s.dropPressFrame p
      else s.modPress p fun x => { x with rx := some (g ++ [b]) } := by
  simp only [State.feedPress, h, State.dropPressFrame, Bool.and_eq_true, decide_eq_true_eq]

/-- Discarding the frame in progress of a hunting receiver changes nothing. -/
theorem State.dropPressFrame_hunting (h : (s.press p).rx = none) : s.dropPressFrame p = s :=
  State.modPress_same (by simp [← h])

/-- Discarding the frame that bytes have begun leaves the receiver hunting. -/
theorem State.dropPressFrame_begun (h : (s.press p).rx = none) (g : Option (List Byte)) :
    (s.modPress p fun x => { x with rx := g }).dropPressFrame p = s := by
  rw [State.dropPressFrame, State.modPress_modPress]
  exact State.modPress_same (by simp [← h])

/-- Bytes that do not end the frame join it, once its length is known. -/
theorem State.feedPressBytes_within (bs : List Byte) : ∀ (g : List Byte),
    2 ≤ g.length → (g ++ bs).length < 5 + fieldAt g 0 2 →
    (s.modPress p fun x => { x with rx := some g }).feedPressBytes p bs =
      s.modPress p fun x => { x with rx := some (g ++ bs) } := by
  induction bs with
  | nil => intro g _ _; simp
  | cons b bs ih =>
    intro g hg hl
    have hf : fieldAt (g ++ [b]) 0 2 = fieldAt g 0 2 := by
      simp [fieldAt, List.take_append_of_le_length hg]
    simp only [List.length_append, List.length_cons] at hl
    rw [State.feedPressBytes_cons, State.feedPress_within (by simp; rfl), hf, if_neg (by simp; omega),
      if_neg (by simp; omega), State.modPress_modPress]
    have := ih (g ++ [b]) (by simp; omega) (by simp [hf]; omega)
    simpa using this

/-- The start byte and two bytes of a length at most 300 begin a frame. -/
theorem State.feedPressBytes_begin (h : (s.press p).rx = none) {n : Nat} (hn : n ≤ 300) :
    s.feedPressBytes p (0x5A :: le 2 n) = s.modPress p fun x => { x with rx := some (le 2 n) } := by
  have hf : fieldAt (le 2 n) 0 2 = n := by
    simp only [fieldAt, List.drop_zero, List.take_of_length_le (Nat.le_of_eq (length_le 2 n)), ofLe_le]
    omega
  rw [State.feedPressBytes_cons, State.feedPress_hunting h, if_pos rfl, le_two, State.feedPressBytes_cons,
    State.feedPress_within (by simp; rfl), if_neg (by simp), if_neg (by simp; omega), State.modPress_modPress,
    State.feedPressBytes_cons, State.feedPress_within (by simp; rfl)]
  simp only [List.nil_append, List.cons_append, ← le_two, hf, length_le, State.feedPressBytes_nil]
  rw [if_neg (by simp [Config.maxPressBody]; omega), if_neg (by omega), State.modPress_modPress]

/-- A length over 300 is discarded as soon as it is known. -/
theorem State.feedPressBytes_long (h : (s.press p).rx = none) {n : Nat} (hn : 300 < n) (hn' : n < 65536) :
    s.feedPressBytes p (0x5A :: le 2 n) = s := by
  have hf : fieldAt (le 2 n) 0 2 = n := by
    simp only [fieldAt, List.drop_zero, List.take_of_length_le (Nat.le_of_eq (length_le 2 n)), ofLe_le]
    omega
  rw [State.feedPressBytes_cons, State.feedPress_hunting h, if_pos rfl, le_two, State.feedPressBytes_cons,
    State.feedPress_within (by simp; rfl), if_neg (by simp), if_neg (by simp; omega), State.modPress_modPress,
    State.feedPressBytes_cons, State.feedPress_within (by simp; rfl)]
  simp only [List.nil_append, List.cons_append, ← le_two, hf, length_le, State.feedPressBytes_nil]
  rw [if_pos (by simp [Config.maxPressBody]; omega)]
  exact State.dropPressFrame_begun h _

/-- The bytes of a whole frame: with a matching check the frame is taken, with another it is discarded. -/
theorem State.feedPressBytes_frame (h : (s.press p).rx = none) (kind : Byte) (body check : List Byte)
    (hb : body.length ≤ 300) (hc : check.length = 2) :
    s.feedPressBytes p (0x5A :: (le 2 body.length ++ [kind] ++ body) ++ check) =
      if ofLe check = (crc16 (le 2 body.length ++ [kind] ++ body)).toNat then s.takeFrame p (pressIn kind body)
      else s := by
  obtain ⟨c0, c1, rfl⟩ : ∃ c0 c1, check = [c0, c1] := by
    match check, hc with
    | [a, b], _ => exact ⟨a, b, rfl⟩
  have hl : (le 2 body.length).length = 2 := length_le 2 _
  have hf0 : ∀ x : List Byte, fieldAt (le 2 body.length ++ x) 0 2 = body.length := by
    intro x
    simp only [fieldAt, List.drop_zero, List.take_append_of_le_length (Nat.le_of_eq hl.symm),
      List.take_of_length_le (Nat.le_of_eq hl), ofLe_le]
    omega
  have e1 : (0x5A : Byte) :: (le 2 body.length ++ [kind] ++ body) ++ [c0, c1] =
      (0x5A :: le 2 body.length) ++ (([kind] ++ body ++ [c0]) ++ [c1]) := by simp
  have hf1 : fieldAt (le 2 body.length) 0 2 = body.length := by simpa using hf0 []
  rw [e1, State.feedPressBytes_append, State.feedPressBytes_append, State.feedPressBytes_begin h hb,
    State.feedPressBytes_within _ _ (Nat.le_of_eq hl.symm)
      (by rw [hf1]; simp only [List.length_append, hl, List.length_cons, List.length_nil]; omega),
    State.feedPressBytes_cons, State.feedPressBytes_nil,
    State.feedPress_within (g := le 2 body.length ++ ([kind] ++ body ++ [c0])) (by simp)]
  have e2 : le 2 body.length ++ ([kind] ++ body ++ [c0]) ++ [c1] =
      le 2 body.length ++ ([kind] ++ body ++ [c0, c1]) := by simp
  have e3 : le 2 body.length ++ ([kind] ++ body ++ [c0, c1]) =
      (le 2 body.length ++ [kind] ++ body) ++ [c0, c1] := by simp
  have hlen : (le 2 body.length ++ [kind] ++ body).length = 3 + body.length := by
    simp only [List.length_append, hl, List.length_cons, List.length_nil]
  have ht : (le 2 body.length ++ ([kind] ++ body ++ [c0, c1])).take (3 + body.length) =
      le 2 body.length ++ [kind] ++ body := by
    rw [e3, List.take_append_of_le_length (Nat.le_of_eq hlen.symm), List.take_of_length_le (Nat.le_of_eq hlen)]
  have hck : fieldAt (le 2 body.length ++ ([kind] ++ body ++ [c0, c1])) (3 + body.length) 2 = ofLe [c0, c1] := by
    rw [fieldAt, e3, List.drop_append_of_le_length (Nat.le_of_eq hlen.symm), List.drop_of_length_le (Nat.le_of_eq hlen)]
    rfl
  have hk : byteAt (le 2 body.length ++ ([kind] ++ body ++ [c0, c1])) 2 = kind := by simp [byteAt, le_two]
  have hbd : ((le 2 body.length ++ ([kind] ++ body ++ [c0, c1])).drop 3).take body.length = body := by
    simp [le_two]
  rw [e2, hf0, if_neg (by simp only [List.length_append, hl, List.length_cons, List.length_nil]; omega),
    if_pos (by simp only [List.length_append, hl, List.length_cons, List.length_nil]; omega), ht, hck, hk, hbd,
    State.dropPressFrame_begun h]

/-- A frame cut short leaves its bytes with the receiver, which a framing error then discards. -/
theorem State.feedPressBytes_cut (h : (s.press p).rx = none) (kind : Byte) (body : List Byte) (hb : body.length ≤ 300)
    {n : Nat} (hn : n < (pressFrame kind body).length) :
    (s.feedPressBytes p ((pressFrame kind body).take n)).dropPressFrame p = s := by
  have hl : (le 2 body.length).length = 2 := length_le 2 _
  have hf1 : fieldAt (le 2 body.length) 0 2 = body.length := by
    simp only [fieldAt, List.drop_zero, List.take_of_length_le (Nat.le_of_eq hl), ofLe_le]
    omega
  have e1 : pressFrame kind body = (0x5A :: le 2 body.length) ++ ([kind] ++ body ++
      le 2 (crc16 (le 2 body.length ++ [kind] ++ body)).toNat) := by simp [pressFrame]
  have hlen : (pressFrame kind body).length = 6 + body.length := by
    rw [e1]; simp only [List.length_append, List.length_cons, List.length_nil, length_le]; omega
  rw [hlen] at hn
  by_cases h3 : 3 ≤ n
  · rw [e1, List.take_append, List.take_of_length_le (by simp only [List.length_cons, hl]; omega),
      State.feedPressBytes_append, State.feedPressBytes_begin h hb,
      State.feedPressBytes_within _ _ (Nat.le_of_eq hl.symm) ?_, State.dropPressFrame_begun h]
    rw [hf1]
    simp only [List.length_append, hl, List.length_take, List.length_cons, List.length_nil]
    omega
  · have : n = 0 ∨ n = 1 ∨ n = 2 := by omega
    rw [e1, le_two]
    rcases this with rfl | rfl | rfl
    · exact State.dropPressFrame_hunting h
    · simp only [List.cons_append, List.take_succ_cons, List.take_zero, State.feedPressBytes_cons,
        State.feedPressBytes_nil, State.feedPress_hunting h, if_true]
      exact State.dropPressFrame_begun h _
    · simp only [List.cons_append, List.take_succ_cons, List.take_zero, State.feedPressBytes_cons,
        State.feedPressBytes_nil, State.feedPress_hunting h, if_true]
      rw [State.feedPress_within (by simp; rfl), if_neg (by simp), if_neg (by simp; omega), State.modPress_modPress]
      exact State.dropPressFrame_begun h _

end Sys2Proof.Machine
end

