-- ==== Sys2Proof/Laws/Spool.lean ====
section
/-! SUPPORT. The laws of the spool: reading after writing a sparse table, and every operation keeps the canonical form. -/

namespace Sys2Proof.Machine

/-! ## Sparse tables -/

section Sparse

variable {α : Type} {m : List (Nat × α)} {k n bound : Nat} {v : α}

theorem ssorted_iff : ssorted bound m = true ↔ (m.Pairwise fun x y => x.1 < y.1) ∧ ∀ x ∈ m, x.1 < bound := by
  simp [ssorted]

theorem mem_sput {x : Nat × α} (h : x ∈ sput k v m) : x = (k, v) ∨ x ∈ m := by
  induction m with
  | nil => simpa [sput] using h
  | cons y m ih =>
    unfold sput at h
    split at h
    · simpa using h
    · split at h
      · have := List.mem_cons.mp h
        tauto
      · rcases List.mem_cons.mp h with h | h
        · simp [h]
        · rcases ih h with h | h <;> simp [h]

theorem pairwise_sput (h : m.Pairwise fun x y => x.1 < y.1) : (sput k v m).Pairwise fun x y => x.1 < y.1 := by
  induction m with
  | nil => simp [sput]
  | cons y m ih =>
    obtain ⟨h1, h2⟩ := List.pairwise_cons.mp h
    unfold sput
    split
    · rename_i hk
      refine List.pairwise_cons.mpr ⟨fun z hz => ?_, h⟩
      rcases List.mem_cons.mp hz with rfl | hz
      · exact hk
      · exact Nat.lt_trans hk (h1 z hz)
    · split
      · rename_i hk hk'
        subst hk'
        exact List.pairwise_cons.mpr ⟨h1, h2⟩
      · rename_i hk hk'
        refine List.pairwise_cons.mpr ⟨fun z hz => ?_, ih h2⟩
        rcases mem_sput hz with rfl | hz
        · exact lt_of_le_of_ne (Nat.le_of_not_lt hk) (Ne.symm hk')
        · exact h1 z hz

/-- Writing a record in range keeps a sparse table's form. -/
theorem ssorted_sput (h : ssorted bound m = true) (hk : k < bound) : ssorted bound (sput k v m) = true := by
  rw [ssorted_iff] at h ⊢
  refine ⟨pairwise_sput h.1, fun x hx => ?_⟩
  rcases mem_sput hx with rfl | hx
  · exact hk
  · exact h.2 x hx

theorem mem_sdel {x : Nat × α} (h : x ∈ sdel k m) : x ∈ m := (List.mem_filter.mp h).1

/-- Removing a record keeps a sparse table's form. -/
theorem ssorted_sdel (h : ssorted bound m = true) : ssorted bound (sdel k m) = true := by
  rw [ssorted_iff] at h ⊢
  exact ⟨h.1.filter _, fun x hx => h.2 x (mem_sdel hx)⟩

theorem mem_of_lookup (h : m.lookup k = some v) : (k, v) ∈ m := by
  induction m with
  | nil => simp at h
  | cons y m ih =>
    obtain ⟨k', v'⟩ := y
    rw [List.lookup_cons] at h
    split at h
    · rename_i hk
      simp_all
    · exact List.mem_cons_of_mem _ (ih h)

/-- A record reads back as written. -/
theorem lookup_sput_self : (sput k v m).lookup k = some v := by
  induction m with
  | nil => simp [sput]
  | cons y m ih =>
    obtain ⟨k', v'⟩ := y
    simp only [sput]
    split
    · simp
    · split
      · simp
      · rename_i h'
        have : (k == k') = false := by simpa using h'
        simp [List.lookup_cons, this, ih]

/-- A write leaves every other record as it reads. -/
theorem lookup_sput_other (h : n ≠ k) : (sput k v m).lookup n = m.lookup n := by
  have hk : (n == k) = false := by simpa using h
  induction m with
  | nil => simp [sput, List.lookup_cons, hk]
  | cons y m ih =>
    obtain ⟨k', v'⟩ := y
    simp only [sput]
    split
    · simp [List.lookup_cons, hk]
    · split
      · rename_i _ hk'
        subst hk'
        simp [List.lookup_cons, hk]
      · simp [List.lookup_cons, ih]

/-- A removed record is gone. -/
theorem lookup_sdel_self : (sdel k m).lookup k = none := by
  induction m with
  | nil => rfl
  | cons y m ih =>
    obtain ⟨k', v'⟩ := y
    unfold sdel at ih ⊢
    by_cases h : k' = k
    · simpa [List.filter_cons, h] using ih
    · have hk : (k == k') = false := by simpa using Ne.symm h
      rw [List.filter_cons, if_pos (by simpa using h), List.lookup_cons, hk]
      exact ih

/-- A removal leaves every other record as it reads. -/
theorem lookup_sdel_other (h : n ≠ k) : (sdel k m).lookup n = m.lookup n := by
  induction m with
  | nil => rfl
  | cons y m ih =>
    obtain ⟨k', v'⟩ := y
    unfold sdel at ih ⊢
    by_cases h' : k' = k
    · subst h'
      have hk : (n == k') = false := by simpa using h
      rw [List.filter_cons, if_neg (by simp), List.lookup_cons, hk]
      exact ih
    · rw [List.filter_cons, if_pos (by simpa using h'), List.lookup_cons, List.lookup_cons, ih]

/-- The lowest gap of a rising table lies within its length of where the search begins. -/
theorem firstGap_le (n : Nat) : firstGap n m ≤ n + m.length := by
  induction m generalizing n with
  | nil => simp [firstGap]
  | cons y m ih =>
    obtain ⟨k', v'⟩ := y
    unfold firstGap
    split
    · have := ih (n + 1)
      simp only [List.length_cons]
      omega
    · simp

end Sparse

/-! ## The canonical form -/

/-- The canonical form in its parts. -/
structure Spool.Form (sp : Spool) : Prop where
  blocks : ssorted Config.nBlocks sp.blocks = true
  pool : ssorted Config.nDescriptors sp.pool = true
  free : ∀ b ∈ sp.free, b < Config.nBlocks
  links : ∀ x ∈ sp.blocks, ∀ b ∈ x.2.link, b < Config.nBlocks
  ends : ∀ x ∈ sp.pool, ∀ b, b ∈ x.2.first ∨ b ∈ x.2.last → b < Config.nBlocks

/-- A page whose first and last block, if present, are in range. -/
def Page.inRange (pg : Page) : Prop := ∀ b, b ∈ pg.first ∨ b ∈ pg.last → b < Config.nBlocks

theorem option_all {o : Option Nat} : o.all blockOk = true ↔ ∀ b ∈ o, b < Config.nBlocks := by
  cases o <;> simp [blockOk]

theorem Spool.wf_iff {sp : Spool} : sp.wf = true ↔ sp.Form := by
  constructor
  · intro h
    simp only [Spool.wf, Bool.and_eq_true, List.all_eq_true, option_all] at h
    obtain ⟨⟨⟨⟨h1, h2⟩, h3⟩, h4⟩, h5⟩ := h
    refine ⟨h1, h2, fun b hb => by simpa [blockOk] using h3 b hb, h4, fun x hx b hb => ?_⟩
    rcases hb with hb | hb
    · exact (h5 x hx).1 b hb
    · exact (h5 x hx).2 b hb
  · intro h
    simp only [Spool.wf, Bool.and_eq_true, List.all_eq_true, option_all]
    exact ⟨⟨⟨⟨h.blocks, h.pool⟩, fun b hb => by simpa [blockOk] using h.free b hb⟩, h.links⟩,
      fun x hx => ⟨fun b hb => h.ends x hx b (.inl hb), fun b hb => h.ends x hx b (.inr hb)⟩⟩

/-- The spool after a start of the part is in the canonical form. -/
theorem Spool.fresh_form : Spool.fresh.Form :=
  ⟨by simp [Spool.fresh, ssorted], by simp [Spool.fresh, ssorted], fun b hb => by simpa [Spool.fresh] using hb,
    by simp [Spool.fresh], by simp [Spool.fresh]⟩

namespace Spool.Form

variable {sp : Spool} (h : sp.Form)
include h

theorem setBlock {b : Nat} {blk : Block} (hb : b < Config.nBlocks) (hl : ∀ x ∈ blk.link, x < Config.nBlocks) :
    (sp.setBlock b blk).Form where
  blocks := ssorted_sput h.blocks hb
  pool := h.pool
  free := h.free
  links x hx := by
    rcases mem_sput hx with rfl | hx
    · exact hl
    · exact h.links x hx
  ends := h.ends

theorem setPage {d : Nat} {pg : Page} (hd : d < Config.nDescriptors) (hp : pg.inRange) : (sp.setPage d pg).Form where
  blocks := h.blocks
  pool := ssorted_sput h.pool hd
  free := h.free
  links := h.links
  ends x hx := by
    rcases mem_sput hx with rfl | hx
    · exact hp
    · exact h.ends x hx

theorem block_mem {b : Nat} {blk : Block} (hb : sp.block b = some blk) :
    b < Config.nBlocks ∧ ∀ x ∈ blk.link, x < Config.nBlocks :=
  ⟨(ssorted_iff.mp h.blocks).2 _ (mem_of_lookup hb), h.links _ (mem_of_lookup hb)⟩

theorem page_mem {f : Nat × Page → Bool} {d : Nat} {pg : Page} (hp : sp.pool.find? f = some (d, pg)) :
    d < Config.nDescriptors ∧ pg.inRange :=
  ⟨(ssorted_iff.mp h.pool).2 _ (List.mem_of_find?_eq_some hp), h.ends _ (List.mem_of_find?_eq_some hp)⟩

theorem linkAfter {last : Option Nat} {b : Nat} (hb : b < Config.nBlocks) : (sp.linkAfter last b).Form := by
  unfold Spool.linkAfter
  split
  · exact h
  · split
    · rename_i hl
      exact h.setBlock (h.block_mem hl).1 (by simpa using hb)
    · exact h

end Spool.Form

theorem Block.close_link (b : Block) : b.close.link = b.link := rfl

theorem Block.closeIfFull_link (b : Block) : b.closeIfFull.link = b.link := by
  unfold Block.closeIfFull
  split <;> rfl

theorem Spool.openLast_block {sp : Spool} {pg : Page} {b : Nat} {blk : Block} (h : sp.openLast pg = some (b, blk)) :
    pg.last = some b ∧ sp.block b = some blk := by
  unfold Spool.openLast at h
  split at h
  · simp at h
  · split at h
    · split at h
      · simp_all
      · simp at h
    · simp at h

/-- Storing bytes keeps the canonical form, and the page's ends in range (R30). -/
theorem storeBytes_form (n : Nat) : ∀ (bytes : List Byte) (sp : Spool) (pg : Page), sp.Form → pg.inRange →
    (storeBytes n bytes (sp, pg)).1.Form ∧ (storeBytes n bytes (sp, pg)).2.inRange := by
  induction n with
  | zero => exact fun _ _ _ h hp => ⟨h, hp⟩
  | succ n ih =>
    intro bytes sp pg h hp
    unfold storeBytes
    split
    · exact ⟨h, hp⟩
    · split
      · rename_i b blk ho
        obtain ⟨-, hb⟩ := Spool.openLast_block ho
        exact ih _ _ _ (h.setBlock (h.block_mem hb).1 (by
          rw [Block.closeIfFull_link]; exact (h.block_mem hb).2)) hp
      · split
        · exact ⟨h, hp⟩
        · rename_i b rest hf
          have hb : b < Config.nBlocks := h.free b (by simp [hf])
          have h1 : ({ sp with free := rest } : Spool).Form :=
            { h with free := fun x hx => h.free x (by simp [hf, hx]) }
          refine ih _ _ _ ((h1.linkAfter hb).setBlock hb (by simp [Block.closeIfFull_link])) fun x hx => ?_
          rcases hx with hx | hx
          · cases hq : pg.first with
            | none => simp_all
            | some c => exact hp x (.inl (by simp_all))
          · simp_all

theorem Spool.Form.closeLast {sp : Spool} (h : sp.Form) (pg : Page) : (sp.closeLast pg).Form := by
  unfold Spool.closeLast
  split
  · rename_i ho
    obtain ⟨-, hb⟩ := Spool.openLast_block ho
    exact h.setBlock (h.block_mem hb).1 (h.block_mem hb).2
  · exact h

/-- Storing a segment keeps the canonical form (R29, R30, R32). -/
theorem Spool.Form.storeSegment {sp : Spool} (h : sp.Form) {d : Nat} {pg : Page} (hd : d < Config.nDescriptors)
    (hp : pg.inRange) (data : List Byte) (e : Bool) : (sp.storeSegment d pg data e).Form := by
  have h1 := storeBytes_form data.length data sp pg h hp
  unfold Spool.storeSegment
  dsimp only
  split
  · exact (h1.1.closeLast _).setPage hd h1.2
  · exact h1.1.setPage hd h1.2

/-- The blocks of a chain are in range. -/
theorem chain_range {blocks : List (Nat × Block)} (h : ∀ x ∈ blocks, ∀ b ∈ x.2.link, b < Config.nBlocks) (n : Nat) :
    ∀ o : Option Nat, (∀ b ∈ o, b < Config.nBlocks) → ∀ b ∈ chainFrom blocks n o, b < Config.nBlocks := by
  induction n with
  | zero => intro o _ b hb; simp [chainFrom] at hb
  | succ n ih =>
    intro o ho b hb
    cases o with
    | none => simp [chainFrom] at hb
    | some c =>
      rcases List.mem_cons.mp hb with rfl | hb
      · exact ho _ rfl
      · refine ih _ (fun x hx => ?_) b hb
        obtain ⟨blk, h1, h2⟩ := Option.bind_eq_some_iff.mp hx
        exact h _ (mem_of_lookup h1) x h2

theorem Spool.Form.chain {sp : Spool} (h : sp.Form) {pg : Page} (hp : pg.inRange) :
    ∀ b ∈ sp.chain pg, b < Config.nBlocks :=
  chain_range h.links 8192 _ fun b hb => hp b (.inl hb)

/-- Returning blocks keeps the canonical form (R26). -/
theorem Spool.Form.returnBlocks (bs : List Nat) : ∀ {sp : Spool}, sp.Form → (∀ b ∈ bs, b < Config.nBlocks) →
    (sp.returnBlocks bs).Form := by
  induction bs with
  | nil => exact fun h _ => h
  | cons b bs ih =>
    intro sp h hb
    refine ih ?_ fun x hx => hb x (List.mem_cons_of_mem _ hx)
    exact
      { blocks := ssorted_sdel h.blocks
        pool := h.pool
        free := fun x hx => by
          rcases List.mem_cons.mp hx with rfl | hx
          · exact hb _ (by simp)
          · exact h.free x hx
        links := fun x hx => h.links x (mem_sdel hx)
        ends := h.ends }

/-- Releasing a page keeps the canonical form (R37). -/
theorem Spool.Form.releasePage {sp : Spool} (h : sp.Form) (e : Entry) (k : Nat) : (sp.releasePage e k).Form := by
  unfold Spool.releasePage
  split
  · rename_i hp
    obtain ⟨hd, hr⟩ := h.page_mem hp
    split
    · exact (Spool.Form.returnBlocks _ h (h.chain hr)).setPage hd fun b hb => by simp at hb
    · exact h
  · exact h

/-- Freeing a page keeps the canonical form (R38). -/
theorem Spool.Form.freePage {sp : Spool} (h : sp.Form) (e : Entry) (k : Nat) : (sp.freePage e k).Form := by
  unfold Spool.freePage
  split
  · rename_i hp
    obtain ⟨-, hr⟩ := h.page_mem hp
    have h1 : ∀ t : Spool, t.Form → ∀ d, ({ t with pool := sdel d t.pool } : Spool).Form := fun t ht d =>
      { ht with pool := ssorted_sdel ht.pool, ends := fun x hx => ht.ends x (mem_sdel hx) }
    dsimp only
    split
    · exact h1 _ h _
    · exact h1 _ (Spool.Form.returnBlocks _ h (h.chain hr)) _
  · exact h

/-- Freeing a job's pages keeps the canonical form (R38). -/
theorem Spool.Form.freeJob {sp : Spool} (h : sp.Form) (e : Entry) : (sp.freeJob e).Form := by
  have loop : ∀ (l : List Nat) (sp : Spool), sp.Form → (l.foldl (fun sp k => sp.freePage e k) sp).Form := by
    intro l
    induction l with
    | nil => exact fun _ h => h
    | cons k l ih => exact fun sp h => ih _ (h.freePage e k)
  exact loop _ _ h

/-- Damaging a page keeps the canonical form (R35). -/
theorem Spool.Form.damage {sp : Spool} (h : sp.Form) {e : Entry} {k d : Nat} {pg : Page}
    (hp : sp.page e k = some (d, pg)) : (sp.damage d pg).Form :=
  h.setPage (h.page_mem hp).1 (h.page_mem hp).2

/-- What happens to the spool inside the part keeps the canonical form. -/
theorem SpoolStep.form {a b : Spool} (h : SpoolStep a b) : a.Form → b.Form := by
  induction h with
  | refl => exact id
  | damage sp e k d pg hp => exact fun ha => ha.damage hp
  | free sp e => exact fun ha => ha.freeJob e
  | release sp e k => exact fun ha => ha.releasePage e k
  | trans a b c _ _ ih1 ih2 => exact ih2 ∘ ih1

/-- The page that a segment which is taken goes into is in range, with its descriptor (R27, R28). -/
theorem State.segmentPage_range {s : State} (h : s.spool.Form) {e : Entry} {j : Job} {k d : Nat} {pg : Page}
    {begins : Bool} (hp : s.segmentPage e j k begins = some (d, pg))
    (hf : ¬ (begins && s.spool.freeDescriptors = 0) = true) : d < Config.nDescriptors ∧ pg.inRange := by
  unfold State.segmentPage at hp
  split at hp
  · rename_i hb
    split at hp
    · have h1 := Prod.mk.inj (Option.some.inj hp)
      have h2 := firstGap_le (m := s.spool.pool) 0
      have h3 : Config.nDescriptors - s.spool.pool.length ≠ 0 := fun h => hf (by simp [hb, Spool.freeDescriptors, h])
      refine ⟨by omega, fun b hb => ?_⟩
      rw [← h1.2] at hb
      simp at hb
    · simp at hp
  · split at hp
    · rename_i hq
      split at hp
      · simp only [Option.some.injEq, Prod.mk.injEq] at hp
        obtain ⟨rfl, rfl⟩ := hp
        exact h.page_mem hq
      · simp at hp
    · simp at hp

end Sys2Proof.Machine
end

