-- ==== Sys2Proof/Tests/Slice0.lean ====
section
/-! SUPPORT. Tests by hand calculation from spec/: the checks of WellFormed, the CRC, the worked prices, one-step tests on
small states, and for every statement with hypotheses a state and operands that meet them. -/

open Sys2Proof Sys2Proof.Machine

namespace Sys2Proof.Tests

-- One theorem after another: each `decide +kernel` waits for the theorems before it, and a thread that waits holds its
-- stack.
set_option Elab.async false

/-! ## Well-formed commands: one ill-formed command for each check -/

theorem test_wf_jobRuns : (Instr.jobRuns 0 ⟨0, 0⟩ 0 (List.replicate 219 ⟨1, 0, 0, 0⟩)).wf = false := by decide +kernel
theorem test_wf_jobData : (Instr.jobData 0 ⟨0, 0⟩ 0 0 (List.replicate 1093 0)).wf = false := by decide +kernel
theorem test_wf_accountSet : (Instr.accountSet 0 256 0 0).wf = false := by decide
theorem test_wf_accountAdjust : (Instr.accountAdjust 0 256 0).wf = false := by decide
theorem test_wf_accountRead : (Instr.accountRead 0 256).wf = false := by decide
theorem test_wf_priceBase : (Instr.priceWrite 0 0 0 [2 ^ 48]).wf = false := by decide
theorem test_wf_priceBaseCount : (Instr.priceWrite 0 0 0 (List.replicate 183 0)).wf = false := by decide +kernel
theorem test_wf_priceColour : (Instr.priceWrite 0 1 0 [65536]).wf = false := by decide
theorem test_wf_priceDuplex : (Instr.priceWrite 0 2 0 (List.replicate 256 0)).wf = false := by decide +kernel
theorem test_wf_priceTiers : (Instr.priceWrite 0 3 0 [1, 2, 3, 4]).wf = false := by decide
theorem test_wf_priceTiersFactor : (Instr.priceWrite 0 3 0 [1, 2, 65536, 4, 5]).wf = false := by decide
theorem test_wf_priceCopy : (Instr.priceWrite 0 4 0 [1]).wf = false := by decide
theorem test_wf_priceFirst : (Instr.priceWrite 0 2 1 [1]).wf = false := by decide
theorem test_wf_alertLevels : (Instr.alertLevels 0 (List.replicate 256 0)).wf = false := by decide +kernel
theorem test_wf_unknownRequest : (Instr.unknownRequest 0 0 (List.replicate 1101 0)).wf = false := by decide +kernel
theorem test_wf_hostFrameReceived : (Instr.hostFrameReceived (List.replicate 1108 0)).wf = false := by decide +kernel
theorem test_wf_hostFrameDiscarded : (Instr.hostFrameDiscarded (List.replicate 1108 0) true).wf = false := by
  decide +kernel
theorem test_wf_helloDepth : (Instr.hello 0 true true 256 [] true).wf = false := by decide
theorem test_wf_helloTray : (Instr.hello 0 true true 1 [⟨256, true⟩] true).wf = false := by decide
theorem test_wf_pressFrame : (Instr.pressFrameDiscarded 0 (List.replicate 307 0) true).wf = false := by decide +kernel
theorem test_wf_unacted : (Instr.unactedPressFrame 0 0 (List.replicate 301 0)).wf = false := by decide +kernel

/-! ## Figures that spec/ states -/

/-- R25: the CRC-16 of the nine characters 123456789 is 29B1h. -/
theorem test_crc : crc16 [0x31, 0x32, 0x33, 0x34, 0x35, 0x36, 0x37, 0x38, 0x39] = 0x29B1 := by decide +kernel

/-- CURRENT of spec/07 section 7.5. -/
def worked : PriceTable :=
  { PriceTable.default 1 with
    base := #v[1200, 0, 4150, 0, 0, 0, 0, 0, 0, 0, 0, 0, 0, 0, 0, 0], cf := #v[256, 256, 600, 256], df := 192
    t1 := 5, t2 := 100, tf0 := 256, tf1 := 230, tf2 := 200 }

/-- spec/07 section 7.5: the two-run job in 2 copies costs 87,103 sub-cents. -/
theorem test_estimate_two_runs :
    worked.estimate [⟨5, 2, true, 2⟩, ⟨1, 0, false, 0⟩] 2 = 87103 := by decide +kernel

/-- spec/07 section 7.6: ten simplex pages in 30 copies cost 296,010 sub-cents. -/
theorem test_estimate_many_copies : worked.estimate [⟨10, 0, false, 0⟩] 30 = 296010 := by decide +kernel

/-- R127: the nominal price of the two-sided sheet of section 7.5. -/
theorem test_nominal : worked.nominal 2 2 2 = 17022 := by decide +kernel

/-- spec/08 section 8.3: the house balance is clamped at its lower bound and keeps its new residue. -/
theorem test_house_clamp :
    (Account.charge 0 17022 { Account.zero .active with balance := -1999999990, residue := 500 }).balance = -2000000000 ∧
      (Account.charge 0 17022 { Account.zero .active with balance := -1999999990, residue := 500 }).residue = 522 := by
  decide

/-- No row of the table gives bits, so no word spells a command. -/
theorem test_no_word : decodeTableWord 32 0x12345678 = none := rfl

/-! ## Small states -/

/-- A running part with a small spool, every press DOWN and nothing waiting. -/
def part : State :=
  { State.blank Retained.default with phase := .running, spool := { free := [0, 1, 2], blocks := [], pool := [] } }

/-- The part with P0 as given and, at entry 0, a job or none. -/
def scene (x : Press) (j : Option Job) : State :=
  { part with presses := part.presses.set 0 x, jobs := part.jobs.set 0 j }

/-- A press in a state, its link up and nothing on it. -/
def press (st : PressState) : Press := { Press.down with state := st }

/-- A one-page job of account 1 for P0 in a state, with serial 1. -/
def job (st : JobState) : Job :=
  { Job.opened 1 1 (.press 0) .normal 1 with runs := some [⟨1, 0, false, 0⟩], state := st }

/-- The handle of the job of a scene. -/
def handle : Handle := { entry := 0, serial := 1 }

/-- What a commit has given the job: an estimate of 10 sub-cents, the cursor at END. -/
def commit : Commit :=
  { seq := 1, gen := 1, estimate := 10, charged := 0, filter := ⟨false, false, none⟩, cursor := none }

theorem scene_press (x : Press) (j : Option Job) (p : PressNo) :
    (scene x j).press p = if p = 0 then x else Press.down := by
  revert p; simp [scene, part, State.press, State.blank, Vector.getElem_set, Fin.forall_fin_succ]

theorem scene_job (x : Press) (j : Option Job) (e : Entry) : (scene x j).job e = if e = 0 then j else none := by
  simp only [scene, part, State.job, State.blank, Fin.getElem_fin, Vector.getElem_set, Vector.getElem_replicate]
  by_cases h : e = 0 <;> simp [h, eq_comm] at *

theorem scene_hostFree (x : Press) (j : Option Job) : HostFree (scene x j) := ⟨rfl, rfl, rfl, rfl, rfl⟩

theorem scene_quiet (x : Press) (j : Option Job) : Quiet (scene x j) := ⟨rfl, rfl⟩

theorem scene_noWork (x : Press) (h : x.state ≠ .wakeWait .demand) : NoWork (scene x none) := by
  refine ⟨fun e => by simp [scene_job], fun p => ?_⟩
  rw [scene_press]; split
  · exact h
  · simp [Press.down]

theorem scene_still (x : Press) (j : Option Job) (h : x.state.isIdle = false) (ha : x.state ≠ .asleep)
    (hw : ∀ o, x.state ≠ .wakeWait o) : Still (scene x j) := by
  intro p
  rw [scene_press]; split
  · exact ⟨h, ha, hw⟩
  · simp [Press.down, PressState.isIdle]

theorem scene_linked (x : Press) (j : Option Job) (h : x.state ≠ .down) (hr : x.restart = none) :
    Linked (scene x j) 0 := by
  refine ⟨rfl, ⟨rfl, rfl⟩, ?_, ?_⟩ <;> simp [scene_press, h, Press.held, hr]

theorem scene_names (x : Press) (j : Job) (h : j.serial = 1) : Names (scene x (some j)) handle 0 j :=
  ⟨rfl, by simp [scene_job], by simp [handle, h]⟩

theorem scene_only (x : Press) (j : Job) : ∀ d i, (scene x (some j)).job d = some i → d = 0 ∧ i = j := by
  intro d i h
  rw [scene_job] at h
  split at h <;> simp_all

theorem scene_bound (x : Press) (j : Job) (h : j.state.bound = some 0) : BoundAlone (scene x (some j)) 0 0 j :=
  ⟨rfl, h, fun d i hi _ => (scene_only x j d i hi).1⟩

theorem scene_unbound (x : Press) (j : Job) (h : j.state.bound = none) (p : PressNo) :
    ∀ d i, (scene x (some j)).job d = some i → i.state.bound ≠ some p := by
  intro d i hi
  rw [(scene_only x j d i hi).2, h]
  simp

theorem scene_awake (x : Press) (j : Option Job) (ha : x.state ≠ .asleep) (hw : ∀ o, x.state ≠ .wakeWait o)
    (hi : ∀ t, x.state ≠ .idle true t) : Awake (scene x j) := by
  intro p
  rw [scene_press]; split
  · exact ⟨ha, hw, hi⟩
  · simp [Press.down]

theorem undamaged_of (s : State) (e : Entry) (j : Job) (n : Nat)
    (h : (j.sheetOf n).all (fun sh => sh.pages.all fun k => !s.pageIs e .damaged k) = true) : Undamaged s e j n := by
  intro sh k hs hk
  rw [hs] at h
  simpa using List.all_eq_true.mp h k hk

/-- A press with a two-sided path, one tray LOADED with media class 0 and a depth of 2. -/
def caps : Caps := ⟨true, false, 2, [⟨0, true⟩]⟩

/-- A spool where pages 0 and 1 of entry 0 are COMPLETE, of one block each, and page 1's block fails its check. -/
def pages : Spool :=
  { free := [2], blocks := [(0, ⟨[7], none, some (crc16 [7])⟩), (1, ⟨[8], none, some 0⟩)]
    pool := [(0, ⟨0, 0, .complete, 1, some 0, some 0⟩), (1, ⟨0, 1, .complete, 1, some 1, some 1⟩)] }

/-- A scene whose P0 has capabilities and whose job has pages in the spool. -/
def spooled (x : Press) (j : Job) : State :=
  { scene x (some j) with
    spool := pages
    ret := { part.ret with presses := part.ret.presses.set 0 { PressRec.default with caps := some caps } } }

/-- A job of one two-sided sheet, its cursor at that sheet. -/
def twoSided (st : JobState) : Job :=
  { job st with runs := some [⟨2, 0, true, 0⟩], received := 2, commit := some { commit with cursor := some 1 } }

theorem spooled_bound (x : Press) (j : Job) (h : j.state.bound = some 0) : BoundAlone (spooled x j) 0 0 j :=
  have b := scene_bound x j h
  ⟨b.live, b.bound, b.alone⟩

theorem spooled_linked (x : Press) (j : Job) (h : x.state ≠ .down) (hr : x.restart = none) : Linked (spooled x j) 0 :=
  have l := scene_linked x (some j) h hr
  ⟨l.running, l.quiet, l.up, l.noSignal⟩

theorem spooled_waits (x : Press) (st : JobState) : SheetWaits (spooled x (twoSided st)) 0 0 (twoSided st) :=
  have loaded : (spooled Press.down (twoSided .held)).loaded 0 0 = true := by decide +kernel
  have complete : ∀ k ∈ [0, 1], (spooled Press.down (twoSided .held)).pageIs 0 .complete k = true := by decide +kernel
  ⟨⟨_, 1, ⟨0, 0, 0, some 1⟩, rfl, rfl, rfl, loaded, complete⟩, .inl rfl⟩

/-! ## One-step tests -/

/-- R86: credits stand at 255 at most. -/
theorem test_credit_saturates :
    (match exec (.credit 0 255) (scene { press .sleeping with credits := 3 } none) with
      | .next t => (t.press 0).credits
      | _ => 0) = 255 := by decide +kernel

/-- spec/05 section 5.7 step 1: two sheets are lost, the cursor goes back to position 11, two reprints. -/
theorem test_jam_rewinds :
    (match exec (.jam 0 3) (scene { press (.busy none) with
          path := [⟨18, some (0, 11), 1, 0, .picked⟩, ⟨19, some (0, 12), 1, 0, .sent⟩] } (some
        { job (.printing 0) with commit := some { commit with cursor := some 13 } })) with
      | .next t => (t.job 0).map fun j => (j.reprinted, j.commit.bind (·.cursor))
      | _ => none) = some (2, some 11) := by decide +kernel

/-- R56: DELIVERED of a sheet that is not PICKED restarts the link. -/
theorem test_delivered_unpicked :
    (match exec (.delivered 0 18) (scene { press (.busy none) with path := [⟨18, none, 1, 0, .sent⟩] } none) with
      | .next t => (t.press 0).state
      | _ => .sleeping) = .down := by decide +kernel

/-- spec/07 section 7.7 step 5: OTHER enters service with T2 raised to T1 and the next generation. -/
theorem test_price_commit :
    (match exec (.priceCommit 0) { part with
          ret := { part.ret with other := { worked with gen := 0, t1 := 50, t2 := 20 } } } with
      | .next t => (t.ret.current.gen, t.ret.current.t2, t.ret.other.gen)
      | _ => (0, 0, 0)) = (2, 50, 1) := by decide +kernel

/-- R163: a line at mark begins a frame at C3h and passes over every other byte. -/
theorem test_hunting :
    (match exec (.hostFrameReceived [0x5A, 0xC3, 0x00]) part with
      | .next t => t.framer.bytes
      | _ => none) = some [0x00] := by decide +kernel

/-- R80: a frame begun stays with the receiver, and the bytes that follow end it. -/
theorem test_frame_in_two_parts :
    (match exec (.pressFrameDiscarded 0 ([0, 0x5A] ++ ((pressFrame 0x43 [3]).drop 1).take 3) false)
        (scene (press .sleeping) none) with
      | .next t =>
        (match exec (.pressFrameDiscarded 0 ((pressFrame 0x43 [3]).drop 4) false) t with
          | .next u => ((u.press 0).credits, (u.press 0).rx)
          | _ => (0, none))
      | _ => (0, none)) = (3, none) := by decide +kernel

/-- R84, R89 step 6: HELLO on a live link wakes another press for the job that the link down returns to QUEUED. -/
theorem test_hello_evaluates_demand :
    (let r : PressRec := { PressRec.default with caps := some caps }
      let j : Job := { twoSided (.printing 0) with target := .pool 0 }
      let s : State := { spooled (press (.busy none)) j with
        presses := (part.presses.set 0 (press (.busy none))).set 1 (press .asleep)
        ret := { part.ret with presses := (part.ret.presses.set 0 r).set 1 r } }
      match exec (.hello 0 true false 2 [⟨0, true⟩] false) s with
      | .next t => (t.press 1).state
      | _ => .down) = .waking 0 := by decide +kernel

/-- R175: the mark goes with the main supply once the backup cell has fallen, and stays while the cell holds the domain. -/
theorem test_supply_loss_without_cell :
    ([true, false].map fun cell =>
      match exec .mainSupplyLoss { part with cellHolds := cell } with
      | .next t => t.retainedValid
      | _ => !cell) = [true, false] := by decide +kernel

/-- R79: PRESS SET of pool 3 on a HALTED press with a job bound leaves it in its present pool 0. -/
theorem test_halted_keeps_pool :
    (match exec (.pressSet 0 0 ⟨3, 0, 20, 5, 5000, 8⟩) (scene (press (.halted .cover)) (some (job (.printing 0)))) with
      | .next t => (t.poolInForce 0, (t.pressRec 0).pool)
      | _ => (none, none)) = (some 0, some 3) := by decide +kernel

/-! ## Witnesses: states and operands that meet the hypotheses of the statements, clause by clause -/

theorem witness_StepTakesFront : ({ part with pending := [.lineBreak] } : State).pending = .lineBreak :: [] := rfl

theorem witness_TickCounts :
    (({ part with phase := .off } : State).pending = [] ∧ ({ part with phase := .off } : State).phase ≠ .running) ∧
      part.pending = [] ∧ part.phase = .running := by decide

/-- A request that waits. -/
def waiting : Queued := { tag := 3, kind := 0x31, req := .alertList }

theorem witness_PricesAndQueuesInvariant :
    let s : State := { part with intake := List.replicate 8 waiting, reports := [.start, .press 0, .press 1] }
    PricesApart s ∧ HouseActive s ∧ IntakeBounded s ∧ ReportsDistinct s ∧ ∃ t, step s = .next t :=
  ⟨by unfold PricesApart; decide +kernel, by unfold HouseActive; decide +kernel, by unfold IntakeBounded; decide,
    by unfold ReportsDistinct; decide, _, rfl⟩

/-- The part with an alert at entry 0 and OVERFLOW at entry 31. -/
def alerted : State :=
  { part with alerts := (part.alerts.set 0 (some (Alert.fresh .linkDown (.press 0) none 9 0))).set 31 (some
      (Alert.fresh .overflow .part none 14 0)) }

theorem alerted_alert (n : AlertNo) :
    alerted.alert n =
      if n = 31 then some (Alert.fresh .overflow .part none 14 0)
      else if n = 0 then some (Alert.fresh .linkDown (.press 0) none 9 0) else none := by
  revert n; decide +kernel

theorem witness_AlertInvariant : AlertsKeyed alerted ∧ ∃ t, step alerted = .next t := by
  refine ⟨⟨fun m n a b hm hn hk hs => ?_, fun n a hn => ?_⟩, _, rfl⟩
  · rw [alerted_alert] at hm hn
    split at hm <;> split at hn <;> (try split at hm) <;> (try split at hn) <;> simp_all [Alert.fresh]
    all_goals (obtain rfl := hm; obtain rfl := hn; simp at hk)
  · rw [alerted_alert] at hn
    split at hn
    · simp_all [Alert.fresh, overflowEntry]
      obtain rfl := hn; rfl
    · split at hn
      · simp_all [Alert.fresh, overflowEntry]
        obtain rfl := hn; simp
      · simp at hn

theorem witness_SerialInvariant :
    SerialsDistinct (scene Press.down (some (job .opened))) ∧ ∃ t, step (scene Press.down (some (job .opened))) = .next t := by
  refine ⟨fun d e i j hd he h => ?_, _, rfl⟩
  rw [scene_job] at hd he
  split at hd <;> split at he <;> simp_all

theorem witness_SpoolInvariant : SpoolCanonical part ∧ ∃ t, step part = .next t :=
  ⟨by unfold SpoolCanonical; decide +kernel, _, rfl⟩

theorem witness_FrameSpellsRequest :
    (Instr.priceWrite 7 3 0 [2 ^ 32 - 1, 0, 65535, 1, 2]).wf = true ∧
      requestFrame (.priceWrite 7 3 0 [2 ^ 32 - 1, 0, 65535, 1, 2]) ≠ none ∧ part.phase = .running ∧ Hunting part :=
  ⟨by decide +kernel, by simp [requestFrame, requestRow], rfl, rfl⟩

theorem witness_FrameSpellsPressRow :
    (Instr.hello 0 true false 255 (List.replicate 147 ⟨255, true⟩) true).wf = true ∧
      pressRow (.hello 0 true false 255 (List.replicate 147 ⟨255, true⟩) true) =
        some (0, .hello true false 255 (List.replicate 147 ⟨255, true⟩) true) ∧ (part.press 0).rx = none ∧
      (List.replicate 256 (0 : Byte)).length ≤ 256 ∧ (List.replicate 65532 (0 : Byte)).length = 65532 :=
  ⟨by decide +kernel, rfl, rfl, by rw [List.length_replicate], by rw [List.length_replicate]⟩

theorem witness_HostLineEvents :
    (part.phase = .running ∧ part.framer.atSpace = false) ∧
      (({ part with framer := { bytes := none, atSpace := true } } : State).phase = .running ∧
        ({ part with framer := { bytes := none, atSpace := true } } : State).framer.atSpace = true) ∧
      let m : HostMsg := { kind := 0x31, tag := 0, body := [] }
      m.body.length ≤ 1100 ∧ Hunting part ∧
        ([0, 0] : List Byte) ≠ le 2 (crc16 (le 2 m.body.length ++ [m.kind, m.tag] ++ m.body)).toNat ∧
        0 < m.frame.length ∧ 6 < m.frame.length ∧ 1100 < 1101 ∧ 65535 < 65536 :=
  ⟨⟨rfl, rfl⟩, ⟨rfl, rfl⟩, by simp, rfl, by decide +kernel, by decide +kernel, by decide +kernel, by decide, by decide⟩

theorem witness_RequestTaken :
    (requestRow (.alertList 3) = some waiting ∧ part.phase = .running ∧ part.slot = none ∧ part.intake = []) ∧
      let s : State := { part with slot := some { kind := 0x80, tag := 0, body := [] } }
      (s.phase = .running ∧ s.slot ≠ none ∧ s.intake.length < 8) ∧
        ({ s with intake := List.replicate 8 waiting } : State).slot ≠ none :=
  ⟨⟨rfl, rfl, rfl, rfl⟩, ⟨rfl, by simp, by decide⟩, by simp⟩

theorem witness_RefusalChangesNothing :
    (HostFree part ∧ requestRow (.jobStatus 1 handle) = some { tag := 1, kind := 0x08, req := .jobStatus handle } ∧
      (performRequest (.jobStatus handle) part).1.code ≠ .ok) ∧
      (0x09 : Byte).toNat ∉ [0x01, 0x02, 0x03, 0x04, 0x05, 0x06, 0x07, 0x08, 0x10, 0x11, 0x12, 0x18, 0x19, 0x1A, 0x20, 0x21,
        0x22, 0x23, 0x24, 0x25, 0x26, 0x28, 0x29, 0x2A, 0x2B, 0x30, 0x31, 0x32, 0x38, 0x40, 0x41, 0x42, 0x43] :=
  ⟨⟨⟨rfl, rfl, rfl, rfl, rfl⟩, rfl, by decide +kernel⟩, by decide⟩

/-- A reply. -/
def reply : HostMsg := { kind := 0x80, tag := 0, body := [] }

theorem witness_ReplyTransmitted :
    let s : State := { part with slot := some reply }
    (s.phase = .running ∧ s.slot = some reply ∧ s.txReport = none ∧ s.restartPending = false ∧ s.intake = []) ∧
      ({ s with intake := [waiting] } : State).intake = waiting :: [] ∧
      ({ s with restartPending := true } : State).restartPending = true :=
  ⟨⟨rfl, rfl, rfl, rfl, rfl⟩, rfl, rfl⟩

theorem witness_ReportBegins :
    (let s : State := { part with reports := [.start] };
      s.phase = .running ∧ s.slot = none ∧ s.txReport = none ∧ s.reports = .start :: []) ∧
      (∀ j : Job, (scene Press.down (some j)).job 0 = some j) ∧ (job .opened).commit = none ∧
      (twoSided .held).commit = some { commit with cursor := some 1 } ∧ commit.cursor = none ∧ part.alert 31 = none :=
  ⟨⟨rfl, rfl, rfl, rfl⟩, fun _ => rfl, rfl, rfl, rfl, rfl⟩

theorem witness_ReportTransmitted :
    let s : State := { part with txReport := some { msg := reply, final := none } }
    let x : TxReport := { msg := reply, final := some (0, 1) }
    let t : State := { scene Press.down (some (job (.finished .completed))) with txReport := some x }
    (s.phase = .running ∧ Quiet s ∧ s.txReport = some { msg := reply, final := none }) ∧ t.phase = .running ∧ Quiet t ∧
      t.txReport = some x ∧ t.job 0 = some (job (.finished .completed)) ∧ (job (.finished .completed)).serial = 1 ∧
      (∃ o, (job (.finished .completed)).state = .finished o) ∧ Still t :=
  ⟨⟨rfl, ⟨rfl, rfl⟩, rfl⟩, rfl, ⟨rfl, rfl⟩, rfl, rfl, rfl, ⟨_, rfl⟩,
    scene_still Press.down (some (job (.finished .completed))) rfl (by simp [Press.down]) (by simp [Press.down])⟩

theorem witness_ReadsChangeNothing :
    (∀ st, HostFree (scene Press.down (some (job st))) ∧
      Names (scene Press.down (some (job st))) handle 0 (job st)) ∧
      (scene Press.down (some (job .creditWait))).oldestWaiting 1 = some 0 ∧
      (scene Press.down (some (job .opened))).oldestWaiting 1 = none ∧
      (1 : Byte).toNat ≤ 1 ∧ (scene Press.down (some (job .opened))).restarting 11 = false :=
  ⟨fun _ => ⟨scene_hostFree _ _, scene_names _ _ rfl⟩, by decide +kernel, by decide +kernel, by decide, by decide +kernel⟩

/-- Serial 1 is taken by entry 0, so the job opened at entry 1 takes serial 2. -/
theorem witness_JobOpens :
    let s := scene Press.down (some (job .opened))
    HostFree s ∧ s.job 1 = none ∧ (∀ d, d < (1 : Entry) → s.job d ≠ none) ∧ (2 : Serial) = nextSerial^[1] s.serialCounter ∧
      1 < 64 ∧ (∀ d j, s.job d = some j → j.serial ≠ 2) ∧
      ∀ m < 1, ∃ d j, s.job d = some j ∧ j.serial = nextSerial^[m] s.serialCounter := by
  refine ⟨scene_hostFree _ _, by simp [scene_job], fun d hd => ?_, by decide +kernel, by decide, fun d j h => ?_, fun m hm => ?_⟩
  · obtain rfl : d = 0 := by revert hd; revert d; decide
    simp [scene_job]
  · rw [scene_job] at h
    split at h <;> simp at h
    subst h; decide
  · obtain rfl : m = 0 := by omega
    exact ⟨0, _, rfl, rfl⟩

theorem witness_JobRunsStored :
    let s := scene Press.down (some (job .opened))
    let runs : List RunSpec := [⟨8191, 15, 1, 3⟩, ⟨1, 0, 0, 0⟩]
    HostFree s ∧ Names s handle 0 (job .opened) ∧ (job .opened).state = .opened ∧ (job .opened).received = 0 ∧
      s.spool.filling 0 = none ∧ 1 ≤ runs.length ∧ runs.length ≤ 16 ∧
      (runs.map fun r => r.pages.toNat).sum = (8192 : BitVec 16).toNat ∧ (8192 : BitVec 16).toNat ≤ 8192 ∧
      ∀ r ∈ runs, 1 ≤ r.pages.toNat ∧ r.media.toNat ≤ 15 ∧ r.band.toNat ≤ 3 ∧ r.duplex.toNat ≤ 1 :=
  ⟨scene_hostFree _ _, scene_names _ _ rfl, rfl, rfl, rfl, by decide, by decide, by decide, by decide, by decide⟩

theorem witness_JobDataChecks :
    1024 < (List.replicate 1025 (0 : Byte)).length ∧
      ((List.replicate 1024 (0 : Byte)).length ≤ 1024 ∧ part.named handle = none) ∧
      Names (scene Press.down (some (job .opened))) handle 0 (job .opened) ∧ (3 : Byte).toNat ≤ 3 ∧
      3 < (4 : Byte).toNat :=
  ⟨by rw [List.length_replicate]; decide, ⟨by rw [List.length_replicate], rfl⟩, scene_names _ _ rfl, by decide, by decide⟩

/-- A scene whose job has page 0 FILLING. -/
def filling : State :=
  { scene Press.down (some (job (.queued 0))) with
    spool := { free := [0, 1, 2], blocks := [], pool := [(0, ⟨0, 0, .filling, 0, none, none⟩)] } }

theorem witness_JobDataStored :
    (let s := scene Press.down (some (job .opened));
      HostFree s ∧ Names s handle 0 (job .opened) ∧ (List.replicate 1024 (0 : Byte)).length ≤ 1024 ∧
        (job .opened).runs.isSome = true ∧ s.spool.filling 0 = none ∧ (job .opened).received < (job .opened).pageCount ∧
        (0 : BitVec 16).toNat = (job .opened).received ∧ s.spool.freeDescriptors ≠ 0 ∧ 0 = firstGap 0 s.spool.pool ∧
        blocksNeeded 1024 (s.spool.room ⟨0, 0, .filling, 0, none, none⟩) ≤ s.spool.freeBlocks) ∧
      HostFree filling ∧ Names filling handle 0 (job (.queued 0)) ∧ (job (.queued 0)).state ≠ .fault ∧
        filling.spool.filling 0 = some (0, ⟨0, 0, .filling, 0, none, none⟩) ∧
        blocksNeeded 1024 (filling.spool.room ⟨0, 0, .filling, 0, none, none⟩) ≤ filling.spool.freeBlocks :=
  ⟨⟨scene_hostFree _ _, scene_names _ _ rfl, by rw [List.length_replicate], rfl, rfl, by decide, rfl, by decide, rfl, by decide⟩,
    ⟨rfl, rfl, rfl, rfl, rfl⟩, ⟨rfl, rfl, rfl⟩, by decide, rfl, by decide⟩

/-- A scene whose job is at its cursor's sheet, its page 0 FILLING. -/
def awaited (x : Press) (j : Job) : State :=
  { scene x (some j) with spool := { free := [0, 1, 2], blocks := [], pool := [(0, ⟨0, 0, .filling, 0, none, none⟩)] } }

/-- The states in which END is the segment's whole effect, and a STARVED job whose sheet it completes (a sheet of one
page) or leaves incomplete (page 1 still to come). -/
theorem witness_JobDataStored_end :
    (∀ st, Still (awaited Press.down (job st))) ∧
      (let s := awaited (press .jammed) (job (.printing 0));
        BoundAlone s 0 0 (job (.printing 0)) ∧ (∀ r t, (s.press 0).state ≠ .calibrating r t) ∧
          ∀ m, (s.press 0).state ≠ .busy m) ∧
      (let s := awaited (press (.busy none)) (job (.draining 0 .held));
        BoundAlone s 0 0 (job (.draining 0 .held)) ∧ ∀ r t, (s.press 0).state ≠ .calibrating r t) ∧
      ∀ n, n = 1 ∨ n = 2 →
        let j : Job := { twoSided .starved with received := 0, runs := some [⟨n, 0, true, 0⟩] }
        let s := awaited Press.down j
        HostFree s ∧ Names s handle 0 j ∧ j.runs.isSome = true ∧
          s.spool.filling 0 = some (0, ⟨0, 0, .filling, 0, none, none⟩) ∧ Still s ∧
          ((({ s with spool := s.spool.storeSegment 0 ⟨0, 0, .filling, 0, none, none⟩ [7] true } : State).setJob 0 (some
            { j with received := 1 })).cursorReady 0) = decide (n = 1) :=
  ⟨fun st => scene_still Press.down (some (job st)) rfl (by simp [Press.down]) (by simp [Press.down]),
    ⟨⟨rfl, rfl, (scene_bound (press .jammed) (job (.printing 0)) rfl).alone⟩, fun _ _ => PressState.noConfusion,
      fun _ => PressState.noConfusion⟩,
    ⟨⟨rfl, rfl, (scene_bound (press (.busy none)) (job (.draining 0 .held)) rfl).alone⟩, fun _ _ => PressState.noConfusion⟩,
    fun n h => ⟨⟨rfl, rfl, rfl, rfl, rfl⟩, ⟨rfl, rfl, rfl⟩, rfl, rfl,
      scene_still Press.down (some { twoSided .starved with received := 0, runs := some [⟨n, 0, true, 0⟩] }) rfl
        (by simp [Press.down]) (by simp [Press.down]), by obtain rfl | rfl := h <;> decide +kernel⟩⟩

theorem witness_CommitChecks : Names (scene Press.down (some (job .opened))) handle 0 (job .opened) := scene_names _ _ rfl

theorem witness_FilterMatches :
    (job .opened).runs = some [⟨1, 0, false, 0⟩] ∧ Filter.default.mask = 0 ∧
      ({ Filter.default with account := 16, mask := 0xF0 } : Filter).mask = 0xF0 ∧
      ({ Filter.default with mask := 0xFF } : Filter).account = 0 := ⟨rfl, rfl, rfl, rfl⟩

/-- A part whose P0 fits the job and whose account 1 is ACTIVE, with a filter that holds every job if `held`. -/
def committing (held : Bool) (balance : Int) : State :=
  { scene Press.down (some (job .opened)) with
    ret := { part.ret with
      presses := part.ret.presses.set 0 { PressRec.default with caps := some ⟨false, false, 1, [⟨0, false⟩]⟩ }
      accounts := part.ret.accounts.set 1 { Account.zero .active with balance := balance }
      current := { PriceTable.default 1 with base := Vector.replicate 16 1000 }
      filters := part.ret.filters.set 0 { Filter.default with enabled := held } } }

theorem witness_JobCommitted :
    (∀ b x, HostFree (committing b x) ∧ Names (committing b x) handle 0 (job .opened) ∧ Still (committing b x)) ∧
      (job .opened).hostHold = false ∧
      ((committing false 0).commitRefusal (job .opened) = none ∧ (committing false 0).admits 1 1000 = false ∧
        (committing false 0).ret.current.estimate [⟨1, 0, false, 0⟩] 1 = 1000) ∧
      ((committing true 1).commitRefusal (job .opened) = none ∧ (committing true 1).admits 1 1000 = true ∧
        ((committing true 1).filterOutcome (job .opened)).hold = true) ∧
      (committing false 1).commitRefusal (job .opened) = none ∧ (committing false 1).admits 1 1000 = true ∧
        ((committing false 1).filterOutcome (job .opened)).hold = false :=
  ⟨fun _ _ => ⟨⟨rfl, rfl, rfl, rfl, rfl⟩, ⟨rfl, rfl, rfl⟩,
      scene_still Press.down (some (job .opened)) rfl (by simp [Press.down]) (by simp [Press.down])⟩,
    rfl, by decide +kernel, by decide +kernel, by decide +kernel⟩

/-- A BUSY press with one sheet in its path. -/
def busy : Press := { press (.busy none) with path := [⟨0, some (0, 1), 1, 0, .sent⟩] }

theorem witness_JobHeldAndReleased :
    (∀ st, HostFree (scene busy (some (job st))) ∧ Names (scene busy (some (job st))) handle 0 (job st) ∧
      Still (scene busy (some (job st)))) ∧
      (job .creditWait).state = .creditWait ∧ (job (.queued 5)).state = .queued 5 ∧ (job .starved).state = .starved ∧
      (job .held).state = .held ∧ (job (.printing 0)).state = .printing 0 ∧
      ((scene busy (some (job (.printing 0)))).press 0).path ≠ [] ∧
      ((scene busy (some (job (.printing 0)))).press 0).state = .busy none :=
  ⟨fun _ => ⟨scene_hostFree _ _, scene_names _ _ rfl, scene_still busy _ rfl (by simp [busy, press]) (by simp [busy, press])⟩,
    rfl, rfl, rfl, rfl, rfl, by simp [scene_press, busy], by simp [scene_press, busy, press]⟩

/-- The decision of a released job: it is bound; all idle fitting presses are due for a calibration; its press is
ASLEEP. -/
theorem witness_JobHeldAndReleased_decision :
    (∀ x, HostFree (spooled x (twoSided .held)) ∧ Names (spooled x (twoSided .held)) handle 0 (twoSided .held) ∧
      (spooled x (twoSided .held)).isOf (twoSided .held).target 0 = true ∧
      (spooled x (twoSided .held)).fits 0 (twoSided .held) = true ∧
      SheetWaits (spooled x (twoSided .held)) 0 0 (twoSided .held) ∧
      ∀ d i, (spooled x (twoSided .held)).job d = some i → i.state.bound ≠ some 0) ∧
      (let s := spooled (press (.idle false 0)) (twoSided .held);
        Awake s ∧ (s.press 0).credits = 0 ∧ (s.press 0).state.isIdle = true ∧ (s.press 0).cover ≠ some true ∧
          ((s.pressRec 0).shortDue = false ∧ (s.pressRec 0).longDue = false) ∧ (∀ q < (0 : PressNo), q ≠ q) ∧
          let t := s.modRec 0 fun r => { r with longDue := true };
          Awake t ∧ (t.pressRec 0).longDue = true ∧ (t.press 0).txq = [] ∧ (t.press 0).line = none ∧
            ∀ q, (t.press q).state.isIdle = true → q = 0) ∧
      let s : State := { spooled (press .asleep) (twoSided .held) with
        circuits := part.circuits.set 0 { ring := [], queue := [11] } }
      (∀ q, (s.press q).state.isIdle = false ∧ (s.press q).state ≠ .wakeWait .demand) ∧
        (∀ d i t, s.job d = some i → i.state ≠ .queued t) ∧ (s.press 0).state = .asleep ∧
        (s.circuit (s.pressRec 0).circuit).queue ≠ [] ∧ (twoSided .held).target = .press 0 ∧
        let k : Job := { twoSided .held with target := .pool 0 };
        ∀ q, (s.press q).state = .down ∨ (s.press q).state = .asleep ∧ (0 : PressNo) ≤ q ∧ k.target = .pool 0 := by
  refine ⟨fun x => ⟨⟨rfl, rfl, rfl, rfl, rfl⟩, ⟨rfl, rfl, rfl⟩, rfl, rfl, spooled_waits _ _,
      scene_unbound x (twoSided .held) rfl 0⟩,
    ⟨scene_awake (press (.idle false 0)) (some (twoSided .held)) (by simp [press]) (by simp [press]) (by simp [press]),
      by decide +kernel, by decide +kernel, by decide +kernel, by decide +kernel, fun q h => absurd h (Fin.not_lt_zero q),
      scene_awake (press (.idle false 0)) (some (twoSided .held)) (by simp [press]) (by simp [press]) (by simp [press]),
      by decide +kernel, by decide +kernel, by decide +kernel, by decide +kernel⟩,
    by decide +kernel, fun d i t h => ?_, by decide +kernel, by decide +kernel, rfl, by decide +kernel⟩
  rw [(scene_only (press .asleep) (twoSided .held) d i h).2]
  simp [twoSided, job]

theorem witness_JobCancelled :
    (∀ st, HostFree (scene busy (some (job st))) ∧ Names (scene busy (some (job st))) handle 0 (job st) ∧
      Still (scene busy (some (job st)))) ∧
      (job (.draining 0 .held)).state = .draining 0 .held ∧ (job (.printing 0)).state = .printing 0 ∧
      ((scene busy (some (job (.printing 0)))).press 0).path ≠ [] ∧
      ((scene busy (some (job (.printing 0)))).press 0).state = .busy none ∧
      ((job .fault).state.bound = none ∧ (∀ o, (job .fault).state ≠ .finished o) ∧ (job .fault).hold = none) ∧
      (scene busy (some { job .held with hold := some 5 })).waiting 1 = [] :=
  ⟨fun _ => ⟨scene_hostFree _ _, scene_names _ _ rfl, scene_still busy _ rfl (by simp [busy, press]) (by simp [busy, press])⟩,
    rfl, rfl, by simp [scene_press, busy], by simp [scene_press, busy, press], ⟨rfl, by simp [job], rfl⟩, by decide +kernel⟩

/-- A part whose account 1 has a balance of 5 cents. -/
def funded (j : Option Job) : State :=
  { scene Press.down j with
    ret := { part.ret with accounts := part.ret.accounts.set 1 { Account.zero .active with balance := 5 } } }

theorem witness_AccountsChanged :
    (∀ j, HostFree (funded j)) ∧ (funded none).waiting 1 = [] ∧
      ((part.account 1).balance = 0 ∧ (∀ e j, part.job e = some j → j.account ≠ 1) ∧ part.waiting 1 = []) ∧
      ((funded none).account 1).state ≠ .unused ∧
      0 ≤ (((funded none).account 1).balance + min (0xFFFFFFFF : BitVec 32).toNat 10000000) * 1000
        - ((funded none).account 1).residue - ((funded none).account 1).holdTotal ∧
      ((funded none).account 1).balance + (-5 : BitVec 32).toInt = 0 :=
  ⟨fun _ => ⟨rfl, rfl, rfl, rfl, rfl⟩, by decide +kernel,
    ⟨by decide +kernel, fun e j h => by simp [part, State.job, State.blank] at h, by decide +kernel⟩, by decide +kernel,
    by decide +kernel, by decide +kernel⟩

theorem witness_PaymentAdmits :
    let j : Job := { job .creditWait with commit := some { commit with estimate := 6000 }, hostHold := true }
    HostFree (funded (some j)) ∧ ((funded (some j)).account 1).state ≠ .unused ∧ (0 : Int) < (1 : BitVec 32).toInt ∧
      (funded (some j)).waiting 1 = [0] ∧ (funded (some j)).job 0 = some j ∧
      (6000 : Int) ≤ ({ (funded (some j)).account 1 with balance := 6 } : Account).available :=
  ⟨⟨rfl, rfl, rfl, rfl, rfl⟩, by decide +kernel, by decide, by decide +kernel, rfl, by decide +kernel⟩

theorem witness_PriceWritten :
    HostFree part ∧ (∀ e j, part.job e = some j → j.quotedUnder part.ret.other.gen = false) ∧
      (0 : Byte).toNat + (List.replicate 16 999999).length ≤ 16 ∧ (3 : Byte).toNat + [1023].length ≤ 4 :=
  ⟨⟨rfl, rfl, rfl, rfl, rfl⟩, fun e j h => by simp [part, State.job, State.blank] at h, by decide, by decide⟩

theorem witness_PriceCommitted :
    let j : Job := { job .held with commit := some { commit with gen := 0 } }
    HostFree (scene Press.down (some j)) ∧
      (∃ e j', (scene Press.down (some j)).job e = some j' ∧
        j'.quotedUnder (scene Press.down (some j)).ret.other.gen = true) ∧
      HostFree part ∧ ∀ e j, part.job e = some j → j.quotedUnder part.ret.other.gen = false :=
  ⟨scene_hostFree _ _, ⟨0, _, rfl, rfl⟩, ⟨rfl, rfl, rfl, rfl, rfl⟩,
    fun e j h => by simp [part, State.job, State.blank] at h⟩

theorem witness_PressSettingsStored :
    let s := scene (press (.busy none)) none
    HostFree s ∧ NoWork s ∧ s.restarting 0 = false ∧ (0xFF : Byte) = BitVec.ofNat 8 (poolByte none) ∧
      (s.press 0).state.isIdle = false ∧ (∀ o, (s.press 0).state ≠ .wakeWait o) ∧ (s.pressRec 0).pool = some 0 ∧
      (s.press 1).state.inUse = false ∧ (s.press 0).state.inUse = true ∧ (s.press 0).state = .busy none ∧
      (s.pressRec 0).pool ≠ none ∧ (s.pressRec 0).circuit ≠ 3 :=
  ⟨scene_hostFree _ _, scene_noWork _ (by simp [press]), by decide +kernel, by decide, by decide +kernel,
    by simp [scene_press, press], by decide +kernel, by decide +kernel, by decide +kernel, by decide +kernel,
    by decide +kernel, by decide +kernel⟩

/-- The circuits with P11 and then P0 in circuit 0's wake queue. -/
def queued (x : Press) : State :=
  { scene x none with circuits := part.circuits.set 0 { ring := [], queue := [11, 0] } }

theorem witness_PressWokenAndSentToSleep :
    (∀ x, HostFree (scene x none) ∧ (x.restart = none → (scene x none).restarting 0 = false)) ∧
      ((scene (press (.wakeWait .demand)) none).press 0).state = .wakeWait .demand ∧
      ((scene (press (.idle true 3)) none).press 0).state = .idle true 3 ∧
      (NoWork (scene (press .asleep) none) ∧
        ((scene { press .asleep with state := .asleep } none).press 0).state = .asleep ∧
        ((queued (press .asleep)).circuit ((queued (press .asleep)).pressRec 0).circuit).queue ≠ []) ∧
      (let s := scene { press (.idle false 0) with awakeSince := some 0 } none;
        (s.press 0).awakeSince = some 0 ∧ (s.time - 0).toNat < (s.pressRec 0).minAwake * 60) ∧
      (let s : State := { scene { press (.idle true 0) with awakeSince := some 0 } none with time := 300 };
        NoWork s ∧ (s.pressRec 0).minAwake * 60 ≤ (s.time - 0).toNat ∧ (s.press 0).txq = [] ∧ (s.press 0).line = none) ∧
      (queued (press (.wakeWait .host))).press 0 = press (.wakeWait .host) ∧
      (∀ c, ((queued (press (.wakeWait .host))).circuit c).queue.contains 0 = true →
        c = ((queued (press (.wakeWait .host))).pressRec 0).circuit) ∧
      ((queued (press (.wakeWait .host))).circuit ((queued (press (.wakeWait .host))).pressRec 0).circuit).queue =
        11 :: [0] := by
  refine ⟨fun x => ⟨scene_hostFree _ _, fun h => ?_⟩, by simp [scene_press, press], by simp [scene_press, press],
    ⟨scene_noWork _ (by simp [press]), by simp [scene_press], by decide +kernel⟩, by decide +kernel,
    ⟨⟨fun e => rfl.trans ?_, fun p => ?_⟩, by decide +kernel, by decide +kernel, by decide +kernel⟩, ?_, by decide +kernel,
    by decide +kernel⟩
  · simp [State.restarting, scene_press, h]
  · exact (scene_noWork { press (.idle true 0) with awakeSince := some 0 } (by simp [press])).free e
  · exact (scene_noWork { press (.idle true 0) with awakeSince := some 0 } (by simp [press])).nobody p
  · exact scene_press _ none 0

theorem witness_PressCalibrates :
    (let s := scene (press .sleeping) none;
      HostFree s ∧ s.restarting 0 = false ∧ (s.press 0).state.isIdle = false) ∧
      let s := scene (press (.idle false 0)) none
      HostFree s ∧ s.restarting 0 = false ∧ NoWork s ∧ (s.press 0).state = .idle false 0 ∧ (s.press 0).cover ≠ some true ∧
        (s.press 0).txq = [] ∧ (s.press 0).line = none ∧ (s.press 0).credits = 0 :=
  ⟨⟨scene_hostFree _ _, by decide +kernel, by decide +kernel⟩, scene_hostFree _ _, by decide +kernel,
    scene_noWork _ (by simp [press]), by decide +kernel, by decide +kernel, by decide +kernel, by decide +kernel,
    by decide +kernel⟩

theorem witness_PressResumesAndRestarts :
    (let s := scene (press (.halted .calFail)) none;
      HostFree s ∧ NoWork s ∧ s.restarting 0 = false ∧ (s.press 0).cover ≠ some true ∧
        (s.press 0).state = .halted .calFail) ∧
      (let s := scene Press.down none;
        s.restarting 0 = false ∧ (s.press 0).state = .down ∧ (s.press 0).state ≠ .halted .wakeFail) ∧
      (scene Press.start none).restarting 0 = true ∧
      requestRow (.pressRead 1 0) = some { tag := 1, kind := 0x21, req := .pressRead 0 } :=
  ⟨⟨scene_hostFree _ _, scene_noWork _ (by simp [press]), by decide +kernel, by decide +kernel, by decide +kernel⟩,
    by decide +kernel, by decide +kernel, rfl⟩

theorem witness_CircuitAndScheduleStored :
    (HostFree part ∧ (part.circuit 3).queue = []) ∧
      ((0 : Byte) = BitVec.ofNat 8 Mode.cls.code ∧ (∀ k a, part.alert k = some a → a.state ≠ .activeUnacked) ∧
        part.low = false ∧ 2920 + 40 * 7 ≤ part.sense) ∧
      ({ part with low := true, sense := 3270 } : State).sense ≤ 2990 + 40 * 7 :=
  ⟨⟨⟨rfl, rfl, rfl, rfl, rfl⟩, by decide +kernel⟩,
    ⟨rfl, fun k a h => by simp [part, State.alert, State.blank] at h, rfl, by decide +kernel⟩, by decide +kernel⟩

theorem witness_FilterAndLevelsStored :
    HostFree part ∧ (1 : Byte).toNat ≤ 1 ∧ (2 : Byte) = BitVec.ofNat 8 ColourCond.monoOnly.code ∧
      (3 : Byte) = BitVec.ofNat 8 (3 : PoolNo).val ∧ (List.replicate 12 (255 : Byte)).length = 12 :=
  ⟨⟨rfl, rfl, rfl, rfl, rfl⟩, by decide, rfl, rfl, by simp⟩

theorem witness_AlertAcknowledged :
    HostFree alerted ∧ alerted.alert 0 = some (Alert.fresh .linkDown (.press 0) none 9 0) ∧
      (Source.press 0).bytes = 0 :: le 4 (0 : BitVec 32).toNat ∧ alerted.alert 1 = none ∧
      (Alert.fresh .linkDown (.press 0) none 9 0).kind.code ≠ (12 : Byte).toNat ∧
      (Source.press 0).bytes ≠ 0 :: le 4 (1 : BitVec 32).toNat ∧
      (31 < (32 : Byte).toNat ∧ (32 : Byte) ≠ 0xFF) ∧ 12 < (13 : Byte).toNat ∧ 2 < (3 : Byte).toNat ∧
      (12 : Byte).toNat ≤ 12 ∧ (2 : Byte).toNat ≤ 2 :=
  ⟨⟨rfl, rfl, rfl, rfl, rfl⟩, rfl, by decide, rfl, by decide, by decide, by decide, by decide, by decide, by decide,
    by decide⟩

theorem witness_ClearingReads : HostFree part ∧ part.restarting 11 = false := ⟨⟨rfl, rfl, rfl, rfl, rfl⟩, by decide +kernel⟩

theorem witness_Flushed :
    (let s := scene busy (some (job (.printing 0)));
      HostFree s ∧ (∀ p, (s.press p).state ≠ .wakeWait .demand) ∧
        ∀ p, (s.press p).line = none → ∀ f ∈ (s.press p).txq, f.needsCredit = true) ∧
      HostFree alerted ∧ AlertsKeyed alerted ∧ ∀ p, (alerted.press p).state ≠ .wakeWait .demand :=
  ⟨⟨scene_hostFree _ _, by decide +kernel, by decide +kernel⟩, ⟨rfl, rfl, rfl, rfl, rfl⟩, witness_AlertInvariant.1,
    by decide +kernel⟩

theorem witness_RestartAndClear :
    (HostFree (scene Press.down (some (job .opened))) ∧ ∃ e j, (scene Press.down (some (job .opened))).job e = some j) ∧
      HostFree part ∧ (∀ e, part.job e = none) ∧ (∀ p, (part.press p).state = .down) ∧
      (∀ c, (part.circuit c).queue = []) ∧ (∀ n a, part.alert n = some a → a.state ≠ .activeUnacked) ∧ part.low = false ∧
      3040 ≤ part.sense :=
  ⟨⟨scene_hostFree _ _, 0, _, rfl⟩, ⟨rfl, rfl, rfl, rfl, rfl⟩, fun e => by simp [part, State.job, State.blank],
    by decide +kernel, by decide +kernel, fun k a h => by simp [part, State.alert, State.blank] at h, rfl, by decide +kernel⟩

theorem witness_PressSideFrame : part.phase = .running ∧ pressRow (.clear 0) = some (0, .clear) := ⟨rfl, rfl⟩

theorem witness_HelloLinksUp :
    let c : Caps := ⟨true, true, 8, List.replicate 6 ⟨15, true⟩⟩;
    (1 ≤ c.depth ∧ c.depth ≤ 8 ∧ 1 ≤ c.trays.length ∧ c.trays.length ≤ 6 ∧ ∀ t ∈ c.trays, t.media ≤ 15) ∧
      (let s := scene Press.down none;
        s.phase = .running ∧ Quiet s ∧ NoWork s ∧ (s.press 0).held = false ∧ (s.press 0).line = none ∧
          (s.press 0).state = .down ∧ (s.press 0).txq = []) ∧
      let s := scene (press .jammed) none;
      s.phase = .running ∧ Quiet s ∧ NoWork s ∧ (s.press 0).held = false ∧ (s.press 0).line = none ∧
        (s.press 0).state ≠ .down ∧ (∀ m, (s.press 0).state ≠ .busy m) ∧ (s.press 0).path = [] ∧
        ∀ c, (s.circuit c).queue.contains 0 = false :=
  ⟨by decide, ⟨rfl, ⟨rfl, rfl⟩, scene_noWork _ (by simp [Press.down]), by decide +kernel⟩,
    rfl, ⟨rfl, rfl⟩, scene_noWork _ (by simp [press]), by decide +kernel, by decide +kernel, by decide +kernel,
    by simp [scene_press, press], by decide +kernel, by decide +kernel⟩

theorem witness_UnactedFramesAndTimers :
    (Linked (scene { press .asleep with cover := some false } none) 0 ∧
      ((scene { press .asleep with cover := some false } none).press 0).cover = some false) ∧
      (15 < (16 : Byte).toNat ∧ ((scene (press .sleeping) none).press 0).state ≠ .jammed ∧
        ((scene (press .sleeping) none).pressRec 0).caps = none ∧ ¬((scene (press .jammed) none).press 0).state.isIdle) ∧
      (9 > 8 ∧ pressIn 0x40 [] = .junk) ∧
      (((scene Press.start none).press 0).held = true ∧ pressRow (.clear 0) = some (0, .clear)) ∧
      ((scene Press.down none).press 0).state = .down ∧
      (part.phase = .running ∧ (part.press 0).rx = none ∧ (0x59 : Byte) ≠ 0x5A ∧
        ([0, 0] : List Byte) ≠ le 2 (crc16 (le 2 0 ++ [0x40] ++ ([] : List Byte))).toNat ∧ 300 < 301 ∧ 65535 < 65536 ∧
        0 < (pressFrame 0x40 []).length ∧ 5 < (pressFrame 0x40 []).length ∧
        (List.replicate 300 (0 : Byte)).length ≤ 300) ∧
      Quiet part ∧
      (part.heartbeatDue 0 = false ∧ part.signalDue 0 = false ∧ part.windowDue 0 = false ∧ part.wakeDue 0 = false ∧
        part.calibrationDue 0 = false ∧ part.starveDue 0 = none ∧ part.idleExpired 0 = false ∧ part.sleepDue 0 = false ∧
        part.grantDue 0 = false ∧ part.escalationDue 0 = false) ∧
      (scene { press .sleeping with heartbeat := 4999 } none).heartbeatDue 0 = false :=
  ⟨⟨scene_linked _ _ (by simp [press]) rfl, by decide +kernel⟩, by decide +kernel, by decide +kernel, by decide +kernel,
    by decide +kernel,
    ⟨rfl, rfl, by decide, by decide +kernel, by decide, by decide, by decide +kernel, by decide +kernel,
      by rw [List.length_replicate]⟩,
    ⟨rfl, rfl⟩, by decide +kernel, by decide +kernel⟩

/-- Two frames that wait for credit. -/
def frames : List PFrame := [.sheet 0 0 1, .data 0 1 []]

theorem witness_CreditTrayAndTransmission :
    (let s := scene (press .asleep) none;
      Linked s 0 ∧ NoWork s ∧ (s.press 0).txq = []) ∧
      (let s := scene { press (.busy none) with txq := frames, send := .sending 1 0 true } none;
        Linked s 0 ∧ (s.press 0).txq = .sheet 0 0 1 :: .data 0 1 [] :: [] ∧ (s.press 0).line = none ∧
          (s.press 0).send ≠ .idle ∧ 0 < min ((s.press 0).credits + (1 : Byte).toNat) 255 ∧ s.boundJob 0 = none) ∧
      (let s : State := { scene (press .asleep) none with ret := { part.ret with
          presses := part.ret.presses.set 0 { PressRec.default with caps := some ⟨false, false, 1, [⟨0, false⟩]⟩ } } };
        (s.pressRec 0).caps = some ⟨false, false, 1, [⟨0, false⟩]⟩ ∧ (0 : Byte).toNat < 1 ∧ (15 : Byte).toNat ≤ 15) ∧
      (let s := scene { press .sleeping with line := some .sleep, txq := frames ++ [.sleep] } none;
        s.phase = .running ∧ Quiet s ∧ (s.press 0).line ≠ none ∧ (s.press 0).txq = frames ++ .sleep :: [] ∧
          (∀ w ∈ frames, w.needsCredit = true) ∧ (s.press 0).credits = 0 ∧ PFrame.sleep.needsCredit = false) ∧
      (let s := scene { press (.busy none) with line := some .sleep, txq := frames, credits := 1 } none;
        (s.press 0).line ≠ none ∧ (s.press 0).txq = frames ∧ 0 < (s.press 0).credits) :=
  ⟨⟨scene_linked _ _ (by simp [press]) rfl, scene_noWork _ (by simp [press]), by decide +kernel⟩,
    ⟨scene_linked _ _ (by simp [press]) rfl, by decide +kernel⟩, by decide +kernel,
    ⟨rfl, ⟨rfl, rfl⟩, by decide +kernel⟩, by decide +kernel⟩

/-- A BUSY press with the last frame of a sheet given: a frame on the line, one waiting, one credit, a sheet SENDING
behind a SENT one. -/
def lastFrame (sides : Nat) (send : SendState) : Press :=
  { press (.busy none) with
    credits := 1, line := some .sleep, txq := [.data 1 1 []], send := send
    path := [⟨0, some (0, 1), sides, 0, .sent⟩, ⟨1, some (0, 1), sides, 0, .sending⟩] }

/-- The start of a sheet, and the media wait of a job whose class no tray is LOADED with, its page 2 not COMPLETE. -/
theorem witness_CreditTrayAndTransmission_sheet :
    (let j := twoSided (.printing 0);
      let s := spooled (press (.busy none)) j;
      Linked s 0 ∧ (s.press 0).txq = [] ∧ (s.press 0).state = .busy none ∧ BoundAlone s 0 0 j ∧ j.state = .printing 0 ∧
        j.sheetOf 1 = some ⟨0, 0, 0, some 1⟩ ∧ (s.press 0).line = none ∧ (s.press 0).send = .idle ∧
        0 < min ((s.press 0).credits + (1 : Byte).toNat) 255 ∧ s.low = false ∧ (s.press 0).path.length < s.depth 0 ∧
        s.loaded 0 0 = true ∧ (∀ k ∈ [0, 1], s.pageIs 0 .complete k = true) ∧
        s.spool.page 0 0 = some (0, ⟨0, 0, .complete, 1, some 0, some 0⟩) ∧
        s.spool.readBlock ⟨0, 0, .complete, 1, some 0, some 0⟩ 0 = .bytes [7] true) ∧
      ∀ n, n = 1 ∨ n = 3 →
        let j : Job := { twoSided (.printing 0) with
          runs := some [⟨3, 15, true, 0⟩], commit := some { commit with cursor := some (n / 2 + 1) } }
        let s := spooled (press (.busy none)) j
        Linked s 0 ∧ (s.press 0).txq = [] ∧ BoundAlone s 0 0 j ∧ j.state = .printing 0 ∧
          Undamaged s 0 j (n / 2 + 1) ∧ s.loaded 0 15 = false ∧
          (j.sheetOf (n / 2 + 1)).map (fun sh => (sh.media, sh.pages.all (s.pageIs 0 .complete))) =
            some (15, decide (n = 1)) :=
  ⟨⟨spooled_linked _ _ (by simp [press]) rfl, by decide +kernel, by decide +kernel, spooled_bound _ _ rfl, rfl, rfl,
      by decide +kernel, by decide +kernel, by decide +kernel, by decide +kernel, by decide +kernel, by decide +kernel,
      by decide +kernel, by decide +kernel, by decide +kernel⟩,
    fun n h => ⟨spooled_linked _ _ (by simp [press]) rfl, rfl, spooled_bound _ _ rfl, rfl,
      undamaged_of _ _ _ _ (by obtain rfl | rfl := h <;> decide +kernel), by obtain rfl | rfl := h <;> decide +kernel,
      by obtain rfl | rfl := h <;> decide +kernel⟩⟩

/-- The last frame given of a sheet: the next block of its side, side 2 whose block fails its check, and the end of the
last side, of a PRINTING and of a DRAINING job. -/
theorem witness_CreditTrayAndTransmission_end :
    (∀ sides send, let s := spooled (lastFrame sides send) (twoSided (.printing 0));
      s.phase = .running ∧ Quiet s ∧ (s.press 0).line ≠ none ∧ (s.press 0).txq = [.data 1 1 []] ∧
        0 < (s.press 0).credits ∧ (s.press 0).send = send ∧
        (s.press 0).path = [⟨0, some (0, 1), sides, 0, .sent⟩] ++ [⟨1, some (0, 1), sides, 0, .sending⟩] ∧
        (s.press 0).state = .busy none ∧ BoundAlone s 0 0 (twoSided (.printing 0)) ∧ Still s) ∧
      (twoSided (.printing 0)).sheetOf 1 = some ⟨0, 0, 0, some 1⟩ ∧
      pages.page 0 0 = some (0, ⟨0, 0, .complete, 1, some 0, some 0⟩) ∧
      pages.readBlock ⟨0, 0, .complete, 1, some 0, some 0⟩ 0 = .bytes [7] true ∧
      pages.page 0 1 = some (1, ⟨0, 1, .complete, 1, some 1, some 1⟩) ∧
      pages.readBlock ⟨0, 1, .complete, 1, some 1, some 1⟩ 0 = .failed ∧
      (twoSided (.printing 0)).total ≤ 1 ∧
      let j : Job := { twoSided (.draining 0 .held) with copies := 2 };
      BoundAlone (spooled (lastFrame 2 (.sending 2 1 true)) j) 0 0 j ∧ 1 < j.total ∧
        Undamaged (spooled (lastFrame 2 (.sending 2 1 true)) j) 0 j 2 :=
  ⟨fun sides send => ⟨rfl, ⟨rfl, rfl⟩, by simp [spooled, scene, part, lastFrame, State.press], rfl, Nat.one_pos, rfl, rfl, rfl,
      spooled_bound _ _ rfl, scene_still (lastFrame sides send) (some (twoSided (.printing 0))) rfl (by simp [lastFrame, press])
        (by simp [lastFrame, press])⟩,
    rfl, rfl, by decide +kernel, rfl, by decide +kernel, by decide +kernel, spooled_bound _ _ rfl, by decide +kernel,
    undamaged_of _ _ _ _ (by decide +kernel)⟩

theorem witness_PickedAndFault :
    (Linked (scene busy none) 0 ∧
      ((scene busy none).press 0).path.find? (fun x => x.seq == 0) = some ⟨0, some (0, 1), 1, 0, .sent⟩) ∧
      let s := scene (press .jammed) none;
      Linked s 0 ∧ NoWork s ∧ (s.press 0).path = [] ∧ (∀ m, (s.press 0).state ≠ .busy m) ∧
        ∀ c, (s.circuit c).queue.contains 0 = false :=
  ⟨⟨scene_linked _ _ (by simp [busy, press]) rfl, by decide +kernel⟩, scene_linked _ _ (by simp [press]) rfl,
    scene_noWork _ (by simp [press]), by decide +kernel, by simp [scene_press, press], by decide +kernel⟩

/-- A PICKED sheet, of position 1 of entry 0 or a service sheet. -/
def picked (j : Option (Entry × Nat)) : PathEntry := { seq := 0, job := j, sides := 1, media := 0, state := .picked }

theorem witness_SheetDelivered :
    (let j : Job := { job (.printing 0) with copies := 2, commit := some commit };
      let s := scene { press (.busy none) with path := [picked (some (0, 1))] } (some j);
      Linked s 0 ∧ (s.press 0).path = picked (some (0, 1)) :: [] ∧ s.boundJob 0 = some 0 ∧ s.job 0 = some j ∧
        (s.press 0).state = .busy none ∧ commit.cursor = none ∧ j.starve = none ∧
        j.sheetOf 1 = some ⟨0, 0, 0, none⟩ ∧ j.delivered + 1 ≠ j.total) ∧
      let run : CalRun := { long := false, count := 1, started := 1 };
      let s := scene { press (.calibrating run 0) with path := [picked none] } none;
      Linked s 0 ∧ (s.press 0).path = picked none :: [] ∧ (s.press 0).state = .calibrating run 0 ∧
        run.count ≤ run.started :=
  ⟨⟨scene_linked _ _ (by simp [press]) rfl, by decide +kernel⟩, scene_linked _ _ (by simp [press]) rfl, by decide +kernel⟩

/-- A delivery that empties the path and ends the binding: the last sheet, and the four drain targets of a job of two
copies with its cursor at END. -/
theorem witness_SheetDelivered_ends :
    ∀ st, st ∈ [.printing 0, .draining 0 .cancelled, .draining 0 .held, .draining 0 .fault, .draining 0 .starved] →
      ∀ n, n = 1 ∨ n = 2 →
        let j : Job := { job st with copies := n, commit := some commit, hold := some 10 }
        let s := scene { press (.busy none) with path := [picked (some (0, 1))] } (some j)
        Linked s 0 ∧ (s.press 0).path = picked (some (0, 1)) :: [] ∧ s.boundJob 0 = some 0 ∧ s.job 0 = some j ∧
          (s.press 0).state = .busy none ∧ j.starve = none ∧ j.sheetOf 1 = some ⟨0, 0, 0, none⟩ ∧
          (∀ d, d ≠ 0 → s.job d = none) ∧ (∀ r, (s.press r).state ≠ .wakeWait .demand) ∧ (s.press 0).cover ≠ some true ∧
          j.state.bound = some 0 ∧ commit.cursor = none ∧ (j.delivered + 1 = j.total ↔ n = 1) := by
  intro st hst n hn
  refine ⟨scene_linked _ _ (by simp [press]) rfl, rfl, ?_, rfl, rfl, rfl, ?_, fun d hd => by simp [scene_job, hd], ?_,
    by simp [scene_press, press, Press.down], ?_, rfl, ?_⟩
  · fin_cases hst <;> obtain rfl | rfl := hn <;> decide +kernel
  · obtain rfl | rfl := hn <;> rfl
  · intro r; rw [scene_press]; split <;> simp [press, Press.down]
  · fin_cases hst <;> rfl
  · obtain rfl | rfl := hn <;> simp [Job.total, Job.perCopy, job, Job.opened] <;> decide

theorem witness_JamAndClear :
    (let s := scene busy (some (job (.printing 0)));
      Linked s 0 ∧ (15 : Byte).toNat ≤ 15 ∧ Still s ∧ (s.press 0).state = .busy none ∧
        (s.press 0).path = ⟨0, some (0, 1), 1, 0, .sent⟩ :: [] ∧ s.boundJob 0 = some 0 ∧
        s.job 0 = some (job (.printing 0)) ∧ Undamaged s 0 (job (.printing 0)) 1) ∧
      let s := scene (press .jammed) none;
      Linked s 0 ∧ (s.press 0).state = .jammed ∧ NoWork s ∧ (s.press 0).resumeMark = false :=
  ⟨⟨scene_linked _ _ (by simp [busy, press]) rfl, by decide,
      scene_still busy _ rfl (by simp [busy, press]) (by simp [busy, press]), by decide +kernel, by decide +kernel,
      by decide +kernel, by decide +kernel, undamaged_of _ _ _ _ (by decide +kernel)⟩,
    scene_linked _ _ (by simp [press]) rfl, by decide +kernel, scene_noWork _ (by simp [press]), by decide +kernel⟩

theorem witness_CoverTaken :
    (∀ st, st ≠ .down → st ≠ .wakeWait .demand → Linked (scene (press st) none) 0 ∧ NoWork (scene (press st) none) ∧
      ((scene (press st) none).press 0).cover ≠ some true ∧ ((scene (press st) none).press 0).cover ≠ some false ∧
      ((scene (press st) none).press 0).state = st ∧ ((scene (press st) none).press 0).resumeMark = false) ∧
      PressState.isIdle (.idle true 0) = true :=
  ⟨fun st h hw => ⟨scene_linked _ _ h rfl, scene_noWork _ hw, by simp [scene_press, press, Press.down],
    by simp [scene_press, press, Press.down], by simp [scene_press, press], by simp [scene_press, press, Press.down]⟩, rfl⟩

theorem witness_WakeSleepCalibrationEnds :
    ∀ st, st ≠ .down → st ≠ .wakeWait .demand → Linked (scene (press st) none) 0 ∧ NoWork (scene (press st) none) ∧
      ((scene (press st) none).press 0).state = st ∧ ∀ x ∈ ((scene (press st) none).press 0).path, x.job = none :=
  fun st h hw => ⟨scene_linked _ _ h rfl, scene_noWork _ hw, by simp [scene_press, press],
    by simp [scene_press, press, Press.down]⟩

/-- READY of a press for which a job waits; a QUEUED job is a candidate. -/
theorem witness_WakeSleepCalibrationEnds_binding :
    let j := twoSided (.queued 0);
    let s := spooled (press (.waking 0)) j;
    Linked s 0 ∧ Awake s ∧ (s.press 0).state = .waking 0 ∧ (s.press 0).cover ≠ some true ∧ (s.press 0).credits = 0 ∧
      (s.pressRec 0).shortDue = false ∧ (s.pressRec 0).longDue = false ∧ (s.press 0).sleepStart = none ∧
      s.bestCandidate 0 = some 0 ∧ s.job 0 = some j ∧ SheetWaits s 0 0 j ∧
      (∀ d i, s.job d = some i → i.state.bound ≠ some 0) ∧ Quiet s ∧ s.eligible 0 = true ∧ s.fits 0 j = true ∧
      j.target = .press 0 ∧ part.bestCandidate 0 = none :=
  ⟨spooled_linked _ _ (by simp [press]) rfl,
    scene_awake (press (.waking 0)) (some (twoSided (.queued 0))) (by simp [press]) (by simp [press]) (by simp [press]), rfl,
    by decide +kernel, rfl, rfl, rfl, rfl, by decide +kernel, rfl, spooled_waits _ _, scene_unbound (press (.waking 0)) (twoSided (.queued 0)) rfl 0,
    ⟨rfl, rfl⟩, by decide +kernel, by decide +kernel, rfl, by decide +kernel⟩

/-- The heartbeat of a BUSY press that prints, one sheet in its path. -/
theorem witness_LinkTimers_busy :
    let j : Job := { job (.printing 0) with commit := some commit };
    let s := scene { busy with heartbeat := 5000 } (some j);
    s.phase = .running ∧ Quiet s ∧ (s.press 0).state ≠ .down ∧ 5000 ≤ (s.press 0).heartbeat ∧
      (∀ c, (s.circuit c).queue.contains 0 = false) ∧ Still s ∧ (s.press 0).state = .busy none ∧
      (s.press 0).path = ⟨0, some (0, 1), 1, 0, .sent⟩ :: [] ∧ BoundAlone s 0 0 j ∧ j.state = .printing 0 ∧
      j.commit = some commit ∧ Undamaged s 0 j 1 :=
  ⟨rfl, ⟨rfl, rfl⟩, by decide +kernel, by decide +kernel, by decide +kernel,
    scene_still { busy with heartbeat := 5000 } (some { job (.printing 0) with commit := some commit }) rfl
      (by simp [busy, press]) (by simp [busy, press]), rfl, rfl,
    scene_bound _ _ rfl, rfl, rfl, undamaged_of _ _ _ _ (by decide +kernel)⟩

theorem witness_LinkTimers :
    (let s := scene { press .sleeping with heartbeat := 5000 } none;
      s.phase = .running ∧ Quiet s ∧ NoWork s ∧ (s.press 0).state ≠ .down ∧ 5000 ≤ (s.press 0).heartbeat ∧
        (∀ m, (s.press 0).state ≠ .busy m) ∧ (s.press 0).path = [] ∧ ∀ c, (s.circuit c).queue.contains 0 = false) ∧
      let r : Restart := { signal := true, elapsed := 10000, atStart := true };
      let s := scene { Press.down with restart := some r } none;
      NoWork s ∧ (s.press 0).restart = some r ∧ r.signal = true ∧ 10 ≤ r.elapsed ∧ 10000 ≤ r.elapsed ∧
        (s.pressRec 0).caps = none :=
  ⟨⟨rfl, ⟨rfl, rfl⟩, scene_noWork _ (by simp [press]), by decide +kernel, by decide +kernel,
      by simp [scene_press, press], by decide +kernel, by decide +kernel⟩,
    scene_noWork _ (by simp [Press.down]), by decide +kernel⟩

theorem witness_TimeOuts :
    (let s := scene (press (.waking 180000)) none;
      s.phase = .running ∧ Quiet s ∧ NoWork s ∧ (s.press 0).state = .waking 180000) ∧
      (let run : CalRun := { long := true, count := 3, started := 1 };
        let s := scene { press (.calibrating run 300000) with path := [picked none] } none;
        NoWork s ∧ (s.press 0).state = .calibrating run 300000 ∧ ∀ x ∈ (s.press 0).path, x.job = none) ∧
      let j : Job := { job (.printing 0) with starve := some { elapsed := 30000, limit := 30000 } };
      let s := scene busy (some j);
      Still s ∧ s.job 0 = some j ∧ (s.press 0).state = .busy none ∧ (s.press 0).path ≠ [] :=
  ⟨⟨rfl, ⟨rfl, rfl⟩, scene_noWork _ (by simp [press]), by decide +kernel⟩,
    ⟨scene_noWork _ (by simp [press]), by decide +kernel, by decide +kernel⟩,
    scene_still busy _ rfl (by simp [busy, press]) (by simp [busy, press]), by decide +kernel⟩

/-- The idle clause: past the timeout, yet kept awake by the minimum awake time. -/
theorem witness_SleepAndGrant_sleep :
    let s := scene { press (.idle false 1200000) with awakeSince := some 0 } none;
    s.phase = .running ∧ Quiet s ∧ (s.pressRec 0).idleTimeout ≠ 0 ∧ (s.pressRec 0).idleTimeout * 60000 ≤ 1200000 ∧
      (s.press 0).awakeSince = some 0 ∧ (s.time - 0).toNat < (s.pressRec 0).minAwake * 60 :=
  ⟨rfl, ⟨rfl, rfl⟩, by decide +kernel⟩

/-- The sleep point's clause: an IDLE press awake long enough, its line free. -/
theorem witness_SleepAndGrant_awake :
    let x : Press := { press (.idle true 0) with awakeSince := some (0 - 300) };
    NoWork (scene x none) ∧ ((scene x none).pressRec 0).minAwake * 60 ≤ ((scene x none).time - (0 - 300)).toNat ∧
      ((scene x none).press 0).txq = [] ∧ ((scene x none).press 0).line = none :=
  ⟨scene_noWork _ (by simp [press]), by decide +kernel⟩

/-- The grant's clause: the head of a circuit whose window is open. -/
theorem witness_SleepAndGrant_grant :
    let s : State := { scene (press (.wakeWait .host)) none with
      circuits := part.circuits.set 0 { ring := [4294967288], queue := [0] } };
    (NoWork (scene (press (.wakeWait .host)) none) ∧ s.jobs = (scene (press (.wakeWait .host)) none).jobs ∧
      s.presses = (scene (press (.wakeWait .host)) none).presses) ∧
      (s.circuit 0).queue = 0 :: [] ∧ (s.press 0).state = .wakeWait .host ∧ (s.press 0).txq = [] ∧
      (s.press 0).line = none ∧ (s.settings 0).ts ≠ 0 ∧
      ((s.circuit 0).ring.filter fun t => decide ((s.time - t).toNat < (s.settings 0).tw)).length < (s.settings 0).w ∧
      (s.circuit 0).ring.head? = some 4294967288 ∧ (s.settings 0).ts ≤ (s.time - 4294967288).toNat :=
  ⟨⟨scene_noWork _ (by simp [press]), rfl, rfl⟩, by decide +kernel⟩

theorem witness_EscalationAndButton :
    let a := Alert.fresh .linkDown (.press 0) none 9 0;
    let s : State := { alerted with time := 120 };
    (s.phase = .running ∧ s.alert 0 = some a ∧ a.state = .activeUnacked ∧ a.level < 15 ∧ s.ret.schedule.escalation ≠ 0 ∧
      s.ret.schedule.escalation ≤ (s.time - a.changedAt).toNat) ∧
      (let b : Alert := { a with level := 15 };
        let t : State := { part with alerts := part.alerts.set 0 (some b) };
        t.buttonArmed = true ∧ t.alert 0 = some b ∧ b.state = .activeUnacked ∧ b.kind.isCondition = true ∧
          ∀ m c, t.alert m = some c → m = 0) ∧
      ({ part with buttonArmed := false } : State).buttonArmed = false :=
  ⟨by decide +kernel, ⟨rfl, rfl, rfl, rfl, by
    intro m c h
    by_contra hm
    have : (m : Nat) ≠ 0 := fun he => hm (Fin.ext he)
    simp [part, State.blank, State.alert, this.symm] at h⟩, rfl⟩

theorem witness_SupplyAndStarts :
    (let s : State := { part with sense := 3040 };
      Quiet s ∧ s.phase = .running ∧ 3039 < s.sense ∧ s.low = false ∧ 3039 < 2920 + 40 * s.ret.schedule.threshold) ∧
      (let s : State := { part with sense := 3110, low := true };
        Quiet s ∧ s.phase = .running ∧ s.sense < 3111 ∧ 2920 + 40 * s.ret.schedule.threshold + 70 < 3111 ∧
          (∀ p, s.boundJob p = none ∧ ∀ r t, (s.press p).state ≠ .calibrating r t) ∧ 3109 ≤
            2920 + 40 * s.ret.schedule.threshold + 70) ∧
      ({ part with phase := .off } : State).phase = .off ∧ ({ part with phase := .starting .power } : State).phase =
        .starting .power ∧ ({ part with phase := .held .resetInput } : State).phase = .held .resetInput := by
  refine ⟨⟨⟨rfl, rfl⟩, by decide +kernel⟩, ⟨⟨rfl, rfl⟩, rfl, by decide +kernel, by decide +kernel, fun p => ⟨?_, fun r t => ?_⟩,
    by decide +kernel⟩, rfl, rfl, rfl⟩
  · revert p; decide +kernel
  · have : ({ part with sense := 3110, low := true } : State).press p = Press.down := by revert p; decide +kernel
    simp [this, Press.down]

theorem witness_PartStarts :
    ({ part with phase := .starting .restart } : State).phase = .starting .restart ∧
      0 < part.ret.levels[9] := ⟨rfl, by decide⟩

theorem witness_SidePrice :
    worked.cf[0] = 256 ∧ worked.base[1] = 0 ∧ ({ worked with cf := worked.cf.set 3 0, df := 0 } : PriceTable).cf[3] = 0 ∧
      (PriceTable.default 0).df = 256 ∧ 2 < (⟨5, 2, true, 2⟩ : Run).sheets := by decide

theorem witness_SheetCharge :
    (PriceTable.default 0).t1 = 0 ∧ (PriceTable.default 0).t2 = (PriceTable.default 0).t1 ∧
      (PriceTable.default 0).tf2 = 256 ∧ (PriceTable.default 0).tier 1 = 2 ∧
      ({ worked with t2 := 2088960 } : PriceTable).t2 = 2088960 ∧
      (twoSided .held).commit.map (fun c => c.gen) = some part.ret.current.gen ∧
      (twoSided .held).sheetOf 1 = some ⟨0, 0, 0, some 1⟩ ∧ part.ret.current.gen ≠ part.ret.other.gen :=
  ⟨by decide, by decide, by decide, by decide, by decide, by decide +kernel, rfl, by decide +kernel⟩

theorem witness_EstimateIsSum : worked.t1 ≤ worked.t2 ∧ (job .opened).runs = some [⟨1, 0, false, 0⟩] := ⟨by decide, rfl⟩

theorem witness_PagesCarriedOnce : 5 < (([⟨5, 2, true, 2⟩, ⟨1, 0, false, 0⟩] : List Run).map fun r => r.pages).sum := by
  decide

theorem witness_PageReadsBack :
    let sp : Spool := { free := [2, 0, 1], blocks := [], pool := [] };
    let pg : Page := { job := 0, number := 0, state := .filling, byteLen := 0, first := none, last := none };
    pg.first = none ∧ pg.last = none ∧ pg.byteLen = 0 ∧ sp.free.Nodup ∧ (∀ b ∈ sp.free, sp.block b = none) ∧
      ((List.replicate 1025 (0 : Byte)).length + 511) / 512 ≤ sp.free.length ∧
      (List.replicate 1025 (0 : Byte)).length ≤ 4194304 :=
  ⟨rfl, rfl, rfl, by decide, by decide, by rw [List.length_replicate]; decide, by rw [List.length_replicate]; decide⟩

/-! ## Witnesses for the clauses about pages, paths and the alert table -/

theorem witness_ReportTransmitted_mark :
    let s : State := { part with reports := [.start, .press 0, .press 1] };
    s.reports = [.start] ++ .press 0 :: [.press 1] ∧ (∀ y ∈ [Report.start] ++ [.press 1], y ≠ .press 0) ∧
      ∀ y ∈ part.reports, y ≠ .press 0 := ⟨rfl, by decide, by decide⟩

theorem spooled_still (x : Press) (j : Job) (h : x.state.isIdle = false) (ha : x.state ≠ .asleep)
    (hw : ∀ o, x.state ≠ .wakeWait o) : Still (spooled x j) := scene_still x (some j) h ha hw

theorem spooled_host (x : Press) (j : Job) (h : j.serial = 1) : HostFree (spooled x j) ∧ Names (spooled x j) handle 0 j :=
  have n := scene_names x j h
  ⟨⟨rfl, rfl, rfl, rfl, rfl⟩, n.entry, n.live, n.serial⟩

/-- No page of entry 0 is DAMAGED in a scene, whose spool holds none. -/
theorem busy_rewinds (j : Job) : Rewinds (scene busy (some j)) 0 0 j := by
  intro x hx
  simp only [scene_press, busy, if_true, List.head?_cons, Option.mem_def, Option.some.injEq] at hx
  subst hx
  exact ⟨1, rfl, fun _ _ _ _ => rfl⟩

theorem empty_rewinds (st : PressState) (j : Job) : Rewinds (scene (press st) (some j)) 0 0 j := by
  intro x hx
  simp [scene_press, press, Press.down] at hx

/-- A PRINTING job of entry 0, its page 0 FILLING and a sheet of `n` pages at the cursor. -/
def fillingJob (n : Nat) : Job := { twoSided (.printing 0) with received := 0, runs := some [⟨n, 0, true, 0⟩] }

/-- That job on BUSY P0, which has credits. -/
def fillingState (n credits : Nat) : State :=
  { spooled { press (.busy none) with credits := credits } (fillingJob n) with spool := filling.spool }

/-- The same once the last segment of page 0 is stored. -/
def storedState (n credits : Nat) : State :=
  ({ fillingState n credits with
    spool := filling.spool.storeSegment 0 ⟨0, 0, .filling, 0, none, none⟩ [7] true } : State).setJob 0 (some
      { fillingJob n with received := 1 })

/-- END of a PRINTING job's page: its sheet of two pages still waits for page 1; its sheet of one page is ready, on a press
without and with a credit. -/
theorem witness_JobDataStored_printing :
    (∀ n c, HostFree (fillingState n c) ∧ Names (fillingState n c) handle 0 (fillingJob n) ∧
      BoundAlone (fillingState n c) 0 0 (fillingJob n) ∧ ((fillingState n c).press 0).state = .busy none ∧
      (fillingState n c).spool.filling 0 = some (0, ⟨0, 0, .filling, 0, none, none⟩) ∧
      (fillingJob n).commit = some { commit with cursor := some 1 }) ∧
      ((fillingJob 2).sheetOf 1 = some ⟨0, 0, 0, some 1⟩ ∧ (fillingState 2 0).loaded 0 0 = true ∧
        Undamaged (storedState 2 0) 0 (fillingJob 2) 1 ∧ (storedState 2 0).pageIs 0 .complete 1 = false) ∧
      (SheetReady (storedState 1 0) 0 0 (fillingJob 1) ∧ NoStart (fillingState 1 0) 0) ∧
      SheetReady (storedState 1 1) 0 0 (fillingJob 1) ∧ ¬ NoStart (fillingState 1 1) 0 ∧
        ((fillingState 1 1).press 0).line = none ∧ ((fillingState 1 1).press 0).txq = [] ∧
        (storedState 1 1).spool.page 0 0 = some (0, ⟨0, 0, .complete, 1, some 0, some 0⟩) ∧
        (storedState 1 1).spool.readBlock ⟨0, 0, .complete, 1, some 0, some 0⟩ 0 = .bytes [7] true :=
  have sheet : (fillingJob 1).sheetOf 1 = some ⟨0, 0, 0, none⟩ := by decide
  ⟨fun n c => ⟨⟨rfl, rfl, rfl, rfl, rfl⟩, ⟨rfl, rfl, rfl⟩,
      have b := scene_bound { press (.busy none) with credits := c } (fillingJob n) rfl
      ⟨b.live, b.bound, b.alone⟩, rfl, rfl, rfl⟩,
    ⟨by decide, by decide +kernel, undamaged_of _ _ _ _ (by decide +kernel), by decide +kernel⟩,
    ⟨⟨_, 1, _, rfl, rfl, sheet, by decide +kernel, by decide +kernel⟩, .inl rfl⟩,
    ⟨_, 1, _, rfl, rfl, sheet, by decide +kernel, by decide +kernel⟩, by unfold NoStart; decide +kernel, rfl, rfl,
    by decide +kernel, by decide +kernel⟩

/-- A PRINTING job with an empty path, on a press that waits for its recovery and on a BUSY one: the hypotheses of
JOB HOLD and JOB CANCEL, whose drain ends as it begins. -/
theorem witness_JobHeldAndReleased_JobCancelled_empty :
    (∀ st, st = .jammed ∨ st = .halted .cover →
      let s := scene (press st) (some (job (.printing 0)));
      HostFree s ∧ Names s handle 0 (job (.printing 0)) ∧ Still s ∧ (s.press 0).path = [] ∧ (s.press 0).state = st ∧
        (job (.printing 0)).hold = none) ∧
      let s := scene (press (.busy none)) (some (job (.printing 0)));
      HostFree s ∧ Names s handle 0 (job (.printing 0)) ∧ (s.press 0).path = [] ∧ (s.press 0).state = .busy none ∧
        (s.press 0).cover ≠ some true ∧ (∀ d, d ≠ 0 → s.job d = none) ∧ ∀ r, (s.press r).state ≠ .wakeWait .demand :=
  ⟨fun st h => ⟨scene_hostFree _ _, scene_names _ _ rfl,
      scene_still _ _ (by obtain rfl | rfl := h <;> rfl) (by obtain rfl | rfl := h <;> simp [press])
        (by obtain rfl | rfl := h <;> simp [press]), rfl, rfl, rfl⟩,
    scene_hostFree _ _, scene_names _ _ rfl, rfl, rfl, by decide +kernel, fun d hd => by simp [scene_job, hd],
    by decide +kernel⟩

/-- An IDLE press with a credit and a tray LOADED. -/
theorem witness_PressCalibrates_sheet :
    let x : Press := { press (.idle false 0) with credits := 1 };
    let s : State := { scene x none with
      ret := { part.ret with presses := part.ret.presses.set 0 { PressRec.default with caps := some caps } } };
    HostFree s ∧ (NoWork (scene x none) ∧ s.jobs = (scene x none).jobs ∧ s.presses = (scene x none).presses) ∧
      s.restarting 0 = false ∧ (s.press 0).state = .idle false 0 ∧ (s.press 0).cover ≠ some true ∧ (s.press 0).txq = [] ∧
      (s.press 0).line = none ∧ (s.pressRec 0).caps = some caps ∧
      caps.trays.find? (fun t => t.loaded) = some ⟨0, true⟩ ∧ s.low = false ∧ (s.press 0).path = [] ∧
      (s.press 0).send = .idle ∧ 0 < (s.press 0).credits ∧ 1 ≤ caps.depth :=
  ⟨⟨rfl, rfl, rfl, rfl, rfl⟩, ⟨scene_noWork _ (by simp [press]), rfl, rfl⟩, by decide +kernel, rfl, by decide +kernel, rfl,
    rfl, rfl, rfl, rfl, rfl, rfl, Nat.one_pos, by decide⟩

/-- PRESS RESTART of a linked press: one without work, and a BUSY one whose job has a sheet in its path. -/
theorem witness_PressResumesAndRestarts_linked :
    (let s := scene (press .sleeping) none;
      HostFree s ∧ NoWork s ∧ s.restarting 0 = false ∧ (s.press 0).state ≠ .down ∧
        (∀ m, (s.press 0).state ≠ .busy m) ∧ (s.press 0).path = [] ∧ ∀ c, (s.circuit c).queue.contains 0 = false) ∧
      let j := job (.printing 0);
      let s := scene busy (some j);
      HostFree s ∧ s.restarting 0 = false ∧ (s.press 0).state ≠ .down ∧ (∀ c, (s.circuit c).queue.contains 0 = false) ∧
        Still s ∧ BoundAlone s 0 0 j ∧ Rewinds s 0 0 j :=
  ⟨⟨scene_hostFree _ _, scene_noWork _ (by simp [press]), by decide +kernel, by decide +kernel,
      fun m => PressState.noConfusion, rfl, by decide +kernel⟩,
    scene_hostFree _ _, by decide +kernel, by decide +kernel, by decide +kernel,
    scene_still busy _ rfl (by simp [busy, press]) (by simp [busy, press]), scene_bound _ _ rfl, busy_rewinds _⟩

/-- A BUSY press whose path holds a sheet or none, its job PRINTING or DRAINING: the hypotheses of JAM and of OPEN. -/
theorem witness_JamAndClear_CoverTaken_path :
    ∀ st, st ∈ [.printing 0, .draining 0 .held, .draining 0 .starved, .draining 0 .fault, .draining 0 .cancelled] →
      (let s := scene busy (some (job st));
        Linked s 0 ∧ Still s ∧ (s.press 0).state = .busy none ∧ (s.press 0).path ≠ [] ∧ (s.press 0).cover ≠ some true ∧
          s.boundJob 0 = some 0 ∧ s.job 0 = some (job st) ∧ Rewinds s 0 0 (job st) ∧ (job st).hold = none) ∧
      let s := scene (press (.busy (some 15))) (some (job st));
      Linked s 0 ∧ Still s ∧ (s.press 0).state = .busy (some 15) ∧ (s.press 0).path = [] ∧
        (s.press 0).cover ≠ some true ∧ s.boundJob 0 = some 0 ∧ s.job 0 = some (job st) ∧ Rewinds s 0 0 (job st) := by
  intro st h
  refine ⟨⟨scene_linked _ _ (by simp [busy, press]) rfl, scene_still busy _ rfl (by simp [busy, press]) (by simp [busy, press]),
      rfl, by simp [scene_press, busy], by simp [scene_press, busy, press, Press.down], ?_, rfl, busy_rewinds _, rfl⟩,
    scene_linked _ _ (by simp [press]) rfl, scene_still _ _ rfl (by simp [press]) (by simp [press]), rfl, rfl,
    by simp [scene_press, press, Press.down], ?_, rfl, empty_rewinds _ _⟩ <;>
    (fin_cases h <;> decide +kernel)

/-- A CALIBRATING press with a service sheet in its path, its cover not OPEN. -/
theorem witness_JamAndClear_CoverTaken_run :
    let run : CalRun := { long := true, count := 3, started := 1 };
    let s := scene { press (.calibrating run 0) with path := [picked none] } none;
    Linked s 0 ∧ NoWork s ∧ (s.press 0).state = .calibrating run 0 ∧ (s.press 0).cover ≠ some true ∧
      ∀ x ∈ (s.press 0).path, x.job = none :=
  ⟨scene_linked _ _ (by simp [press]) rfl, scene_noWork _ (by simp [press]), rfl, by decide +kernel, by decide +kernel⟩

/-- A press that recovers from a jam or a cover: with its resume mark set, and with a bound job whose sheet is ready. -/
theorem witness_JamAndClear_CoverTaken_recovery :
    ∀ st, st = .jammed ∨ st = .halted .cover →
      (let x : Press := { press st with resumeMark := true, cover := some (decide (st ≠ .jammed)) };
        let s := scene x none;
        Linked s 0 ∧ NoWork s ∧ (s.press 0).state = st ∧ (s.press 0).resumeMark = true ∧ (s.press 0).credits = 0 ∧
          (s.press 0).txq = [] ∧ (s.press 0).line = none ∧ (s.press 0).cover = some (decide (st ≠ .jammed))) ∧
      let j := twoSided (.printing 0);
      let s := spooled (press st) j;
      Linked s 0 ∧ Still s ∧ (s.press 0).state = st ∧ (s.press 0).cover = none ∧ s.boundJob 0 = some 0 ∧ s.job 0 = some j ∧
        j.state = .printing 0 ∧ SheetReady s 0 0 j ∧ NoStart s 0 := by
  intro st h
  refine ⟨⟨scene_linked _ _ ?_ rfl, scene_noWork _ ?_, rfl, rfl, rfl, rfl, rfl, rfl⟩,
    spooled_linked _ _ ?_ rfl, spooled_still _ _ ?_ ?_ ?_, rfl, rfl, ?_, rfl, rfl, (spooled_waits _ _).sheet, .inl rfl⟩ <;>
    obtain rfl | rfl := h <;> first | decide +kernel | simp [press]

/-- CLEAR of a press whose cover is OPEN. -/
theorem witness_JamAndClear_open :
    let s := scene { press .jammed with cover := some true } none;
    Linked s 0 ∧ NoWork s ∧ (s.press 0).state = .jammed ∧ (s.press 0).cover = some true :=
  ⟨scene_linked _ _ (by simp [press]) rfl, scene_noWork _ (by simp [press]), rfl, rfl⟩

/-- An alert table with every ordinary entry occupied in one state, and an entry 31. -/
def fullTable (st : AlertState) (o : Option Alert) : State :=
  { part with alerts := (Vector.replicate 32 (some
      ({ Alert.fresh .linkDown (.press 0) none 9 0 with state := st } : Alert))).set 31 o }

/-- A raise into its own entry, into a free one, one that is suppressed, one that replaces entry 0, and one that overflows
into a free and into an occupied entry 31. -/
theorem witness_EscalationAndButton_raise :
    (alerted.alert 0 = some (Alert.fresh .linkDown (.press 0) none 9 0) ∧ ∀ m : AlertNo, ¬ m < 0) ∧
      ((∀ n, part.alert n = none) ∧ part.ret.levels[0] ≠ 0) ∧
      ({ part.ret with levels := Vector.replicate 12 0 } : Retained).levels[0] = 0 ∧
      (∀ m : AlertNo, m < 31 →
        (fullTable .clearedUnacked none).alert m =
          some { Alert.fresh .linkDown (.press 0) none 9 0 with state := .clearedUnacked }) ∧
      (∀ m : AlertNo, m < 31 →
        (fullTable .activeUnacked none).alert m = some (Alert.fresh .linkDown (.press 0) none 9 0)) ∧
      (fullTable .activeUnacked none).alert 31 = none ∧
      (fullTable .activeUnacked (some (Alert.fresh .overflow .part none 14 0))).alert 31 =
        some (Alert.fresh .overflow .part none 14 0) :=
  ⟨⟨by decide +kernel, fun m => Fin.not_lt_zero m⟩, ⟨by decide +kernel, by decide +kernel⟩, by decide, by decide +kernel,
    by decide +kernel, by decide +kernel, by decide +kernel⟩

/-- The button with an event alone, with CLEARED_UNACKED entries of one level and time, and with no unacknowledged one. -/
theorem witness_EscalationAndButton_button :
    (let a := Alert.fresh .wakeFail (.press 0) none 8 0;
      let s : State := { part with alerts := part.alerts.set 0 (some a) };
      s.buttonArmed = true ∧ s.alert 0 = some a ∧ a.state ≠ .activeAcked ∧ a.kind.isCondition = false ∧
        ∀ m, m ≠ 0 → s.alert m = none) ∧
      ((fullTable .clearedUnacked none).buttonArmed = true ∧ ∀ m : AlertNo, m < 31 →
        ((fullTable .clearedUnacked none).alert m).map (fun a => a.state) = some .clearedUnacked) ∧
      ∀ m : AlertNo, m < 31 → ((fullTable .activeAcked none).alert m).map (fun a => a.state) = some .activeAcked :=
  ⟨by decide +kernel, by decide +kernel, by decide +kernel⟩

/-- Pages that are read, released and freed: page 0 reads back, page 1 fails its check, page 2 is not there. -/
theorem witness_PageReadsBack_freeing :
    let p : Page := ⟨0, 0, .complete, 1, some 0, some 0⟩;
    let q : Page := ⟨0, 1, .complete, 1, some 1, some 1⟩;
    pages.page 0 0 = some (0, p) ∧ p.state = .complete ∧ pages.page 0 2 = none ∧ pages.wf = true ∧
      (pages.chain p)[0 / 512]? = some 0 ∧ pages.block 0 = some ⟨[7], none, some (crc16 [7])⟩ ∧
      pages.block 1 = some ⟨[8], none, some 0⟩ ∧ some (0 : BitVec 16) ≠ some (crc16 [8]) ∧
      (pages.chain p)[512 / 512]? = none ∧
      (∀ k, k < 2 → [(0, p), (1, q)][k]? = pages.page 0 k) ∧ (pages.pool.filter fun x => x.2.job == 0).length = 2 ∧
      (([(0, p), (1, q)].filter fun x => x.2.state != .released).flatMap fun x => pages.chain x.2).Nodup := by
  decide +kernel

/-- A job that drains toward STARVED, two simplex sheets of `copies` copies, its cursor at position 2 of `n` pages. -/
def starving (n copies : Nat) : Job :=
  { twoSided (.draining 0 .starved) with
    runs := some [⟨n, 0, false, 0⟩], copies := copies, commit := some { commit with cursor := some n }, hold := some 10 }

/-- The delivery that ends a drain toward STARVED: the sheet at the cursor waits for page 2; its page 1 is COMPLETE, and
the job is eligible or, of two copies with a page to come, not. -/
theorem witness_SheetDelivered_starved :
    (∀ n copies, let s := spooled { press (.busy none) with path := [picked (some (0, 1))] } (starving n copies);
      Linked s 0 ∧ (s.press 0).path = picked (some (0, 1)) :: [] ∧ s.job 0 = some (starving n copies) ∧
        (s.press 0).state = .busy none ∧ (∀ d, d ≠ 0 → s.job d = none) ∧ (s.press 0).cover ≠ some true ∧ Awake s ∧
        (s.press 0).credits = 0 ∧ (s.pressRec 0).longDue = false ∧ (s.pressRec 0).shortDue = false ∧
        (s.pressRec 0).sheetCount = 0 ∧ (s.pressRec 0).shortInterval = 5000) ∧
      (let s := spooled { press (.busy none) with path := [picked (some (0, 1))] } (starving 3 1);
        (starving 3 1).sheetOf 3 = some ⟨0, 0, 2, none⟩ ∧ (starving 3 1).delivered + 1 ≠ (starving 3 1).total ∧
          ({ s with spool := s.spool.releasePage 0 0 } : State).pageIs 0 .complete 2 = false) ∧
      (∀ copies, copies = 1 ∨ copies = 2 →
        let j : Job := { starving 2 copies with received := 3 - copies }
        let s := spooled { press (.busy none) with path := [picked (some (0, 1))] } j;
        s.boundJob 0 = some 0 ∧ j.sheetOf 1 = some ⟨0, 0, 0, none⟩ ∧ j.sheetOf 2 = some ⟨0, 0, 1, none⟩ ∧
          j.delivered + 1 ≠ j.total ∧ (∀ r, (s.press r).state.isIdle = false) ∧
          (∀ r, (s.press r).state ≠ .wakeWait .demand) ∧ j.target = .press 0 ∧ s.fits 0 j = true ∧
          s.loaded 0 0 = true ∧ ({ s with spool := s.spool.releasePage 0 0 } : State).pageIs 0 .complete 1 = true ∧
          s.pageIs 0 .complete 1 = true ∧ (j.received = j.pageCount ↔ copies = 1)) := by
  refine ⟨fun n copies => ⟨spooled_linked _ _ (by simp [press]) rfl, rfl, rfl, rfl, fun d hd => ?_, ?_, ?_, rfl, rfl, rfl, rfl, rfl⟩,
    by decide +kernel, fun copies h => ?_⟩
  · exact (scene_job { press (.busy none) with path := [picked (some (0, 1))] } (some (starving n copies)) d).trans (if_neg hd)
  · simp [spooled, scene, part, State.press, press, Press.down]
  · exact scene_awake { press (.busy none) with path := [picked (some (0, 1))] } (some (starving n copies)) (by simp [press])
      (by simp [press]) (by simp [press])
  · obtain rfl | rfl := h <;> decide +kernel

/-- The last frame of a copy's only sheet goes, the next copy's is ready: with no credit left, and with one more and room
in the path. -/
theorem witness_CreditTrayAndTransmission_next :
    let j : Job := { twoSided (.printing 0) with copies := 2 };
    let x : Press := { lastFrame 2 (.sending 2 1 true) with path := [⟨1, some (0, 1), 2, 0, .sending⟩], credits := 2 };
    (BoundAlone (spooled x j) 0 0 j ∧ (spooled x j).low = false ∧ 1 < ((spooled x j).press 0).credits ∧
      ((spooled x j).press 0).path = [] ++ [⟨1, some (0, 1), 2, 0, .sending⟩] ∧
      ((spooled x j).press 0).path.length < (spooled x j).depth 0) ∧
      ((spooled (lastFrame 2 (.sending 2 1 true)) j).press 0).credits = 1 ∧ 1 < j.total ∧
      j.sheetOf 2 = some ⟨0, 0, 0, some 1⟩ ∧ (spooled x j).loaded 0 0 = true ∧
      (∀ k ∈ [0, 1], (spooled x j).pageIs 0 .complete k = true) ∧
      pages.page 0 0 = some (0, ⟨0, 0, .complete, 1, some 0, some 0⟩) ∧
      pages.readBlock ⟨0, 0, .complete, 1, some 0, some 0⟩ 0 = .bytes [7] true :=
  ⟨⟨spooled_bound _ _ rfl, rfl, by decide +kernel, rfl, by decide +kernel⟩, by decide +kernel⟩

/-- A QUEUED job of one copy that is eligible, and one of two copies that is not. -/
theorem witness_WakeSleepCalibrationEnds_eligible :
    (spooled Press.down (twoSided (.queued 0))).job 0 = some (twoSided (.queued 0)) ∧
      (spooled Press.down (twoSided (.queued 0))).eligible 0 = true ∧
      (spooled Press.down { twoSided (.queued 0) with copies := 2, received := 1 }).eligible 0 = false :=
  ⟨rfl, by decide +kernel, by decide +kernel⟩

/-- END of a PRINTING job's page on a press in media wait, and with the job's cursor at END. -/
theorem witness_JobDataStored_waiting :
    (let j : Job := { fillingJob 2 with runs := some [⟨2, 15, true, 0⟩] };
      let s : State := { spooled (press (.busy (some 15))) j with spool := filling.spool };
      HostFree s ∧ Names s handle 0 j ∧ BoundAlone s 0 0 j ∧ j.sheetOf 1 = some ⟨15, 0, 0, some 1⟩ ∧
        (s.press 0).state = .busy (some 15) ∧ s.loaded 0 15 = false ∧ Undamaged (storedState 2 0) 0 j 1) ∧
      let j : Job := { fillingJob 2 with commit := some commit };
      let s : State := { spooled (press (.busy none)) j with spool := filling.spool };
      HostFree s ∧ Names s handle 0 j ∧ BoundAlone s 0 0 j ∧ (s.press 0).state = .busy none ∧ commit.cursor = none :=
  have alone (x : Press) (j : Job) (h : j.state.bound = some 0) := (scene_bound x j h).alone
  ⟨⟨⟨rfl, rfl, rfl, rfl, rfl⟩, ⟨rfl, rfl, rfl⟩,
      ⟨rfl, rfl, alone (press (.busy (some 15))) { fillingJob 2 with runs := some [⟨2, 15, true, 0⟩] } rfl⟩, by decide, rfl,
      by decide +kernel, undamaged_of _ _ _ _ (by decide +kernel)⟩,
    ⟨rfl, rfl, rfl, rfl, rfl⟩, ⟨rfl, rfl, rfl⟩,
    ⟨rfl, rfl, alone (press (.busy none)) { fillingJob 2 with commit := some commit } rfl⟩, rfl, rfl⟩

/-- The last frame given of a pattern sheet: the next block of its side, side 2, and the end of its last side. -/
theorem witness_CreditTrayAndTransmission_pattern :
    ∀ (sides : Nat) (send : SendState),
      let run : CalRun := { long := true, count := 3, started := 3 };
      let ent : PathEntry := { picked none with sides := sides, state := .sending };
      let x : Press := { lastFrame 1 send with state := .calibrating run 0, path := [ent] };
      let s := scene x none;
      s.phase = .running ∧ Quiet s ∧ (s.press 0).line ≠ none ∧ (s.press 0).txq = [.data 1 1 []] ∧
        0 < (s.press 0).credits ∧ (s.press 0).path = [] ++ [ent] ∧ (s.press 0).send = send ∧ ent.job = none ∧
        (s.press 0).state = .calibrating run 0 ∧ run.count ≤ run.started ∧ (s.press 0).credits = 1 :=
  fun _ _ => ⟨rfl, ⟨rfl, rfl⟩, by simp [scene_press, lastFrame], rfl, Nat.one_pos, rfl, rfl, rfl, rfl, by decide, rfl⟩

/-! ## Witnesses for the clauses about jobs that go on printing -/

/-- A BUSY press in media wait, with one sheet in its path and the job it prints: the hypotheses of JOB HOLD, JOB CANCEL and
of a starve expiry. -/
theorem witness_JobHeldAndReleased_JobCancelled_TimeOuts_mediaWait :
    let j : Job := { job (.printing 0) with starve := some { elapsed := 30000, limit := 30000 } };
    let s := scene { busy with state := .busy (some 15) } (some j);
    HostFree s ∧ Names s handle 0 j ∧ Still s ∧ j.state = .printing 0 ∧ (s.press 0).path ≠ [] ∧
      (s.press 0).state = .busy (some 15) :=
  ⟨scene_hostFree _ _, scene_names _ _ rfl, scene_still { busy with state := .busy (some 15) } _ rfl (by simp) (by simp), rfl,
    by decide +kernel, rfl⟩

/-- A HALTED press with a job bound, which takes pool 3; its pool until then is none. -/
theorem witness_PressSettingsStored_halted :
    let j := job (.printing 0);
    let s := scene (press (.halted .cover)) (some j);
    HostFree s ∧ s.restarting 0 = false ∧ Still s ∧ (s.press 0).state = .halted .cover ∧ BoundAlone s 0 0 j ∧
      (s.pressRec 0).pool ≠ some 3 ∧ (3 : Byte) = BitVec.ofNat 8 (poolByte (some 3)) :=
  ⟨scene_hostFree _ _, by decide +kernel, scene_still (press (.halted .cover)) _ rfl (by simp [press]) (by simp [press]), rfl,
    scene_bound _ _ rfl, by decide +kernel, rfl⟩

/-- A PRINTING or DRAINING job of three copies of `n` pages of a class, its cursor at position 2. -/
def midJob (st : JobState) (n media : Nat) : Job :=
  { twoSided st with runs := some [⟨n, media, true, 0⟩], copies := 3, commit := some { commit with cursor := some 2 } }

/-- That job on BUSY P0, its first sheet PICKED. -/
def delivering (now : Option Nat) (credits : Nat) (rest : List PathEntry) (j : Job) : State :=
  spooled { press (.busy now) with credits := credits, path := picked (some (0, 1)) :: rest } j

/-- The delivery of a sheet that is not its job's last: with a sheet left in the path of a DRAINING job; of a PRINTING job
whose next sheet waits for the press, starts, has a page missing, or is of a class no tray is LOADED with. -/
theorem witness_SheetDelivered_midJob :
    (∀ now credits rest st n media, let j := midJob st n media; let s := delivering now credits rest j;
      Linked s 0 ∧ (s.press 0).path = picked (some (0, 1)) :: rest ∧ s.job 0 = some j ∧ (s.press 0).state = .busy now) ∧
      (let j := midJob (.draining 0 .held) 2 0;
        let s := delivering none 0 [⟨1, some (0, 2), 2, 0, .sent⟩] j;
        s.boundJob 0 = some 0 ∧ j.sheetOf 1 = some ⟨0, 0, 0, some 1⟩ ∧ j.delivered + 1 ≠ j.total) ∧
      (let j := midJob (.printing 0) 2 0;
        (∀ c, (delivering none c [] j).boundJob 0 = some 0) ∧ j.delivered + 1 ≠ j.total ∧
          (SheetReady (spooled (press (.busy none)) j) 0 0 j ∧ NoStart (spooled (press (.busy none)) j) 0) ∧
          Starts (spooled { press (.busy none) with credits := 1 } j) 0 0 j 2 ⟨0, 0, 0, some 1⟩ [7] true) ∧
      ∀ n media, (n = 3 ∧ media = 0) ∨ (n = 2 ∧ media = 15) →
        let j := midJob (.printing 0) n media
        let u := spooled (press (.busy none)) j
        (∀ now, (delivering now 0 [] j).boundJob 0 = some 0) ∧ (j.sheetOf 1).isSome = true ∧
          (j.cursorSheet.map fun x => (x.1, x.2.media)) = some (2, media) ∧ Undamaged u 0 j 2 ∧
          u.loaded 0 media = decide (media = 0) ∧
          (j.cursorSheet.map fun x => x.2.pages.all (u.pageIs 0 .complete)) = some (decide (media = 15)) := by
  refine ⟨fun now credits rest st n media => ⟨spooled_linked _ _ (by simp [press]) rfl, rfl, rfl, rfl⟩, by decide +kernel,
    ⟨fun c => rfl, by decide, ⟨⟨_, 2, ⟨0, 0, 0, some 1⟩, rfl, rfl, rfl, by decide +kernel, by decide +kernel⟩, .inl rfl⟩,
      rfl, rfl, by unfold NoStart; decide +kernel, by decide,
      ⟨_, 2, ⟨0, 0, 0, some 1⟩, rfl, rfl, rfl, by decide +kernel, by decide +kernel⟩,
      0, ⟨0, 0, .complete, 1, some 0, some 0⟩, by decide +kernel, by decide +kernel⟩, fun n media h => ?_⟩
  obtain ⟨rfl, rfl⟩ | ⟨rfl, rfl⟩ := h <;>
    exact ⟨fun _ => rfl, by decide +kernel, by decide +kernel, undamaged_of _ _ _ _ (by decide +kernel), by decide +kernel,
      by decide +kernel⟩

/-- The part after a TRAY that gives P0's one tray a class and a state. -/
def trayed (s : State) (media : Nat) (loaded : Bool) : State :=
  s.modRec 0 fun r => { r with caps := some { caps with trays := caps.trays.set 0 ⟨media, loaded⟩ } }

/-- TRAY on a BUSY press that prints: for media wait for class 5, with the next sheet ready, able to start, or lacking a
page; for a job with its cursor at END; and for the class that a tray reporting EMPTY leaves without. -/
theorem witness_CreditTrayAndTransmission_mediaWait :
    (∀ now credits n media, let j := midJob (.printing 0) n media;
      let s := spooled { press (.busy now) with credits := credits } j;
      Linked s 0 ∧ Still s ∧ (s.pressRec 0).caps = some caps ∧ (0 : Byte).toNat < caps.trays.length ∧
        (5 : Byte).toNat ≤ 15 ∧ (s.press 0).state = .busy now ∧ BoundAlone s 0 0 j ∧ j.state = .printing 0) ∧
      (let j := midJob (.printing 0) 2 5;
        (SheetReady (trayed (spooled (press (.busy (some 5))) j) 5 true) 0 0 j ∧
          NoStart (trayed (spooled (press (.busy (some 5))) j) 5 true) 0) ∧
          Starts (trayed (spooled { press (.busy (some 5)) with credits := 1 } j) 5 true) 0 0 j 2 ⟨5, 0, 0, some 1⟩ [7]
            true) ∧
      ({ midJob (.printing 0) 2 0 with commit := some commit } : Job).cursorSheet = none ∧
      (let j := midJob (.printing 0) 3 5;
        let s := spooled (press (.busy (some 5))) j;
        j.cursorSheet = some (2, ⟨5, 0, 2, none⟩) ∧ Undamaged s 0 j 2 ∧ (trayed s 5 true).loaded 0 5 = true ∧
          s.pageIs 0 .complete 2 = false) ∧
      let j := midJob (.printing 0) 2 0;
      let s := spooled (press (.busy none)) j;
      j.cursorSheet = some (2, ⟨0, 0, 0, some 1⟩) ∧ Undamaged s 0 j 2 ∧ (trayed s 0 false).loaded 0 0 = false :=
  ⟨fun now credits n media => ⟨spooled_linked _ _ (by simp [press]) rfl,
      spooled_still _ _ rfl (by simp [press]) (by simp [press]), rfl, by decide, by decide, rfl, spooled_bound _ _ rfl, rfl⟩,
    ⟨⟨⟨_, 2, ⟨5, 0, 0, some 1⟩, rfl, rfl, rfl, by decide +kernel, by decide +kernel⟩, .inl rfl⟩,
      rfl, rfl, by unfold NoStart; decide +kernel, by decide,
      ⟨_, 2, ⟨5, 0, 0, some 1⟩, rfl, rfl, rfl, by decide +kernel, by decide +kernel⟩,
      0, ⟨0, 0, .complete, 1, some 0, some 0⟩, by decide +kernel, by decide +kernel⟩, by decide,
    ⟨by decide, undamaged_of _ _ _ _ (by decide +kernel), by decide +kernel, by decide +kernel⟩,
    by decide, undamaged_of _ _ _ _ (by decide +kernel), by decide +kernel⟩

/-- A payment for two waiting jobs, the older of which fits the idle press P0; the younger has a hold flag. -/
theorem witness_PaymentAdmits_two :
    let j := twoSided .creditWait;
    let i : Job := { job .creditWait with serial := 2, hostHold := true, commit := some { commit with seq := 2 } };
    let b := spooled (press (.idle false 0)) j;
    let s : State := { b with
      jobs := b.jobs.set 1 (some i), commitCounter := 2
      ret := { b.ret with accounts := b.ret.accounts.set 1 (Account.zero .active) } };
    (HostFree s ∧ s.job 0 = some j ∧ s.job 1 = some i ∧ s.waiting 1 = [0, 1] ∧ s.age i < s.age j ∧
      (s.account 1).state ≠ .unused ∧ (10 + 10 : Int) ≤ ({ s.account 1 with balance := 1 } : Account).available) ∧
      Awake s ∧ SheetWaits s 0 0 j ∧ (s.press 0).state.isIdle = true ∧ s.isOf j.target 0 = true ∧ s.fits 0 j = true ∧
      ((s.pressRec 0).shortDue = false ∧ (s.pressRec 0).longDue = false) ∧ (∀ q : PressNo, ¬ q < 0) ∧
      (s.press 0).cover ≠ some true ∧ (s.press 0).credits = 0 ∧ ∀ d k, s.job d = some k → k.state.bound ≠ some 0 := by
  refine ⟨⟨⟨rfl, rfl, rfl, rfl, rfl⟩, rfl, rfl, by decide +kernel, by decide +kernel, by decide +kernel, by decide +kernel⟩,
    scene_awake (press (.idle false 0)) (some (twoSided .creditWait)) (by simp [press]) (by simp [press]) (by simp [press]),
    ⟨⟨_, 1, ⟨0, 0, 0, some 1⟩, rfl, rfl, rfl, by decide +kernel, by decide +kernel⟩, .inl rfl⟩, rfl, by decide +kernel,
    by decide +kernel, by decide +kernel, fun q => Fin.not_lt_zero q, by decide +kernel, rfl, by decide +kernel⟩

/-- A LOW supply, P0 BUSY with a job whose sheet is ready, and P1 CALIBRATING with a pattern sheet to come. -/
def lowSupply (credits : Nat) : State :=
  let b := spooled { press (.busy none) with credits := credits } (twoSided (.printing 0))
  { b with
    low := true, sense := 3110
    presses := b.presses.set 1 { press (.calibrating ⟨true, 3, 0⟩ 0) with credits := 1 }
    ret := { b.ret with presses := b.ret.presses.set 1 { PressRec.default with caps := some caps } } }

/-- SUPPLY_RISE past the rising threshold: both sheets can start, or P0 has no credit for its own. -/
theorem witness_SupplyAndStarts_starts :
    let j := twoSided (.printing 0);
    let u (c : Nat) : State := { lowSupply c with low := false, sense := 3111 };
    (∀ c, Quiet (lowSupply c) ∧ (lowSupply c).phase = .running ∧ (lowSupply c).sense < 3111 ∧ (lowSupply c).low = true ∧
      2920 + 40 * (lowSupply c).ret.schedule.threshold + 70 < 3111 ∧ Waits (lowSupply c) 0 0 j ∧
      SheetReady (lowSupply c) 0 0 j) ∧
      (∀ c, c = 0 ∨ c = 1 → (∀ p, p = 0 ∨ p = 1 ∨ ((lowSupply c).press p).state = .down ∧ (lowSupply c).boundJob p = none) ∧
        (((lowSupply c).press 1).state = .calibrating ⟨true, 3, 0⟩ 0 ∧ ((lowSupply c).press 1).line = none ∧
          ((lowSupply c).press 1).txq = [] ∧ ¬ NoStart (u c) 1 ∧
          (((lowSupply c).pressRec 1).caps.bind fun x => x.trays.find? fun t => t.loaded) = some ⟨0, true⟩)) ∧
      NoStart (u 0) 0 ∧ Starts (u 1) 0 0 j 1 ⟨0, 0, 0, some 1⟩ [7] true := by
  have ready (c : Nat) : SheetReady (lowSupply c) 0 0 (twoSided (.printing 0)) :=
    have loaded : (lowSupply 0).loaded 0 0 = true := by decide +kernel
    have complete : ∀ k ∈ [0, 1], (lowSupply 0).pageIs 0 .complete k = true := by decide +kernel
    ⟨_, 1, ⟨0, 0, 0, some 1⟩, rfl, rfl, rfl, loaded, complete⟩
  have undamaged : Undamaged (lowSupply 0) 0 (twoSided (.printing 0)) 1 := undamaged_of _ _ _ _ (by decide +kernel)
  have loaded : (lowSupply 0).loaded 0 0 = true := by decide +kernel
  refine ⟨fun c => ⟨⟨rfl, rfl⟩, rfl, (by decide : 3110 < 3111), rfl, (by decide : 2920 + 40 * 3 + 70 < 3111),
      ⟨⟨rfl, rfl, (spooled_bound { press (.busy none) with credits := c } _ rfl).alone⟩, rfl, ?_, ?_⟩, ready c⟩,
    fun c h => ⟨?_, rfl, rfl, rfl, ?_, rfl⟩, .inl rfl,
    rfl, rfl, by unfold NoStart; decide +kernel, rfl, ready 1,
    0, ⟨0, 0, .complete, 1, some 0, some 0⟩, by decide +kernel, by decide +kernel⟩
  · show PressState.busy none = .busy (if (lowSupply 0).loaded 0 0 then none else some 0)
    rw [loaded]; rfl
  · intro x hx
    obtain rfl : x = (1, ⟨0, 0, 0, some 1⟩) := (Option.some.inj hx).symm
    exact undamaged
  · obtain rfl | rfl := h <;> decide +kernel
  · unfold NoStart; obtain rfl | rfl := h <;> decide +kernel

/-! ## Witnesses for the clauses about pools in force, wake queues and settings -/

/-- JOB COMMIT for pool 0 while the one press of it, HALTED with a job bound, is pool 3's in the pool table. -/
theorem witness_CommitChecks_held :
    let i : Job := { job .opened with serial := 2, target := .pool 0 };
    let b := scene { press (.halted .cover) with heldPool := some (some 0) } (some (job (.printing 0)));
    let s : State := { b with
      jobs := b.jobs.set 1 (some i)
      ret := { b.ret with
        presses := (Vector.replicate 12 { PressRec.default with pool := none }).set 0
          { PressRec.default with pool := some 3, caps := some caps }
        accounts := b.ret.accounts.set 1 (Account.zero .active) } };
    Names s { entry := 1, serial := 2 } 1 i ∧ (s.press 0).heldPool ≠ none ∧ s.boundJob 0 = some 0 ∧
      (s.pressRec 0).pool = some 3 ∧ s.poolInForce 0 = some 0 ∧ s.isOf i.target 0 = true ∧ s.fits 0 i = true ∧
      (∀ p, p ≠ 0 → s.poolInForce p = none) ∧ (s.account i.account).state = .active :=
  ⟨⟨rfl, rfl, rfl⟩, by decide +kernel⟩

/-- A part with P0 and P1 in circuit 3's wake queue, its starts as given, each asked for by the host. -/
def waits (ring : List Time) : State :=
  { part with
    presses := (part.presses.set 0 (press (.wakeWait .host))).set 1 (press (.wakeWait .host))
    circuits := part.circuits.set 3 { ring := ring, queue := [0, 1] } }

/-- CIRCUIT SET with presses that wait: the spacing is closed; one is granted; all are. -/
theorem witness_CircuitAndScheduleStored_waiting :
    (∀ ring, HostFree (waits ring) ∧ NoWork (waits ring) ∧ ((waits ring).circuit 3).queue = 0 :: [1] ∧
      ((waits ring).circuit 3).ring = ring ∧ (waits ring).time = 0 ∧ [(0 : PressNo), 1].Nodup ∧
      ∀ p ∈ [(0 : PressNo), 1], ((waits ring).press p).state = .wakeWait .host ∧ ((waits ring).press p).txq = [] ∧
        ((waits ring).press p).line = none) ∧
      ¬ GrantOpen { w := 1, tw := 0, ts := 8 } [0] 0 ∧ GrantOpen { w := 2, tw := 10, ts := 60 } [] 0 ∧
      ¬ GrantOpen { w := 1, tw := 10, ts := 0 } [0] 0 ∧ GrantOpen { w := 1, tw := 0, ts := 0 } [0] 0 := by
  refine ⟨fun ring => ⟨⟨rfl, rfl, rfl, rfl, rfl⟩, ⟨fun e => ?_, fun p => ?_⟩, rfl, rfl, rfl, by decide, fun p hp => ?_⟩,
    fun h => ?_, ⟨.inr (by decide), by simp⟩, fun h => ?_, ⟨.inl rfl, fun t _ => .inl rfl⟩⟩
  · simp [waits, part, State.job, State.blank]
  · have : ∀ p, ((waits []).press p).state ≠ .wakeWait .demand := by decide +kernel
    exact this p
  · have : ∀ p ∈ [(0 : PressNo), 1], ((waits []).press p).state = .wakeWait .host ∧ ((waits []).press p).txq = [] ∧
        ((waits []).press p).line = none := by decide +kernel
    exact this p hp
  · exact absurd (h.2 0 rfl) (by decide)
  · exact absurd h.1 (by decide)

/-- SCHEDULE SET with an unacknowledged alert below level 15: its interval has not passed; it has; and a supply that the
new selection makes LOW or NORMAL. -/
theorem witness_CircuitAndScheduleStored_alerts :
    let a := Alert.fresh .linkDown (.press 0) none 9 0;
    (HostFree alerted ∧ alerted.alert 0 = some a ∧ a.state = .activeUnacked ∧ a.level < 15 ∧
      (alerted.time - a.changedAt).toNat < 10 ∧ alerted.low = false ∧ 2920 + 40 * 7 ≤ alerted.sense) ∧
      (let s : State := { alerted with time := 10 };
        HostFree s ∧ s.alert 0 = some a ∧ 10 ≤ (s.time - a.changedAt).toNat) ∧
      (let s : State := { part with sense := 3100 };
        HostFree s ∧ (∀ k, s.alert k = none) ∧ s.low = false ∧ s.sense < 2920 + 40 * 7) ∧
      let s : State := { part with sense := 3100, low := true };
      HostFree s ∧ (∀ k, s.alert k = none) ∧ 2990 + 40 * 0 < s.sense ∧
        ∀ p, s.boundJob p = none ∧ (s.press p).state = .down :=
  ⟨⟨⟨rfl, rfl, rfl, rfl, rfl⟩, by decide +kernel⟩, ⟨⟨rfl, rfl, rfl, rfl, rfl⟩, by decide +kernel⟩,
    ⟨⟨rfl, rfl, rfl, rfl, rfl⟩, by decide +kernel⟩, ⟨rfl, rfl, rfl, rfl, rfl⟩, by decide +kernel⟩

/-- PRESS SET on an IDLE press past a timeout of one minute, its sleep point ahead or reached, or with SLEEP_PENDING. -/
theorem witness_PressSettingsStored_idle :
    (∀ pending n, let s := scene { press (.idle pending n) with awakeSince := some 0 } none;
      HostFree s ∧ NoWork s ∧ s.restarting 0 = false ∧ (s.press 0).state = .idle pending n ∧
        (s.press 0).awakeSince = some 0 ∧ (s.press 0).txq = [] ∧ (s.press 0).line = none ∧ s.time = 0 ∧ (0 : Time) - 0 = 0) ∧
      (min (1 : Byte).toNat 240 ≠ 0 ∧ min (1 : Byte).toNat 240 * 60000 ≤ 60000) ∧
      ¬ min (1 : Byte).toNat 60 * 60 ≤ (0 : Time).toNat ∧ min (0 : Byte).toNat 60 * 60 ≤ (0 : Time).toNat :=
  ⟨fun pending n => ⟨scene_hostFree _ _, scene_noWork _ (by simp [press]), rfl, rfl, rfl, rfl, rfl, rfl, by decide⟩, by decide,
    by decide⟩

/-- PRESS SET of pool 0 on an IDLE press of none, for which a job of pool 0 waits. -/
theorem witness_PressSettingsStored_candidate :
    let j : Job := { twoSided (.queued 0) with target := .pool 0 };
    let b := spooled (press (.idle false 0)) j;
    let s : State := { b with ret := { b.ret with
      presses := b.ret.presses.set 0 { PressRec.default with pool := none, caps := some caps } } };
    HostFree s ∧ (s.pressRec 0).pool ≠ some 0 ∧ Awake s ∧ (s.press 0).credits = 0 ∧ (s.press 0).cover ≠ some true ∧
      ((s.pressRec 0).shortDue = false ∧ (s.pressRec 0).longDue = false) ∧
      (s.modRec 0 fun r => { r with pool := some 0 }).bestCandidate 0 = some 0 ∧ s.job 0 = some j ∧ SheetWaits s 0 0 j ∧
      ∀ d i, s.job d = some i → i.state.bound ≠ some 0 :=
  have loaded : (spooled Press.down (twoSided .held)).loaded 0 0 = true := by decide +kernel
  have complete : ∀ k ∈ [0, 1], (spooled Press.down (twoSided .held)).pageIs 0 .complete k = true := by decide +kernel
  ⟨⟨rfl, rfl, rfl, rfl, rfl⟩, by decide +kernel,
    scene_awake (press (.idle false 0)) (some { twoSided (.queued 0) with target := .pool 0 }) (by simp [press])
      (by simp [press]) (by simp [press]),
    rfl, by decide +kernel, by decide +kernel, by decide +kernel, rfl,
    ⟨⟨_, 1, ⟨0, 0, 0, some 1⟩, rfl, rfl, rfl, loaded, complete⟩, .inl rfl⟩,
    scene_unbound (press (.idle false 0)) { twoSided (.queued 0) with target := .pool 0 } rfl 0⟩

/-- PRESS SET on P1, which waits for its wake behind P0 in circuit 3: for circuit 0, its queue empty or not, its spacing
open or closed; and for another pool when it waits on demand. -/
theorem witness_PressSettingsStored_waiting :
    let s (x : PressState) (ring : List Time) (queue : List PressNo) : State :=
      { waits [] with
        presses := (part.presses.set 0 (press (.wakeWait .host))).set 1 (press x)
        circuits := (waits []).circuits.set 0 { ring := ring, queue := queue }
        ret := { part.ret with presses := part.ret.presses.set 1 { PressRec.default with circuit := 3 } } };
    (∀ x ring queue, HostFree (s x ring queue) ∧ (s x ring queue).restarting 1 = false ∧
      ((s x ring queue).press 1).state = x ∧ ((s x ring queue).press 1).txq = [] ∧
      ((s x ring queue).press 1).line = none ∧ ((s x ring queue).pressRec 1).circuit = 3 ∧
      ((s x ring queue).circuit 0).ring = ring ∧ ((s x ring queue).circuit 0).queue = queue ∧
      ((s x ring queue).circuit 3).queue.head? ≠ some 1 ∧ ∀ e, (s x ring queue).job e = none) ∧
      NoWork (s (.wakeWait .host) [] []) ∧
      (GrantOpen ((s (.wakeWait .host) [] []).settings 0) [] 0 ∧
        ¬ GrantOpen ((s (.wakeWait .host) [0] []).settings 0) [0] 0) ∧
      (∀ q, ((s (.wakeWait .demand) [] []).press q).state = .wakeWait .demand ↔ q = 1) ∧
      (∀ k, k ≠ 3 → ((s (.wakeWait .demand) [] []).circuit k).queue.contains 1 = false) ∧
      ((s (.wakeWait .demand) [] []).pressRec 1).pool ≠ some 1 := by
  refine ⟨fun x ring queue => ⟨⟨rfl, rfl, rfl, rfl, rfl⟩, rfl, rfl, rfl, rfl, rfl, rfl, rfl, ?_, fun e => ?_⟩,
    ⟨fun e => ?_, by decide +kernel⟩, ⟨⟨.inr (by decide +kernel), by simp⟩, fun h => ?_⟩, by decide +kernel,
    by decide +kernel, by decide +kernel⟩
  · exact (by decide : some (0 : PressNo) ≠ some 1)
  · simp [waits, part, State.job, State.blank]
  · simp [waits, part, State.job, State.blank]
  · exact absurd (h.2 0 rfl) (by decide +kernel)

/-- CREDIT for a SHEET that waits, on a BUSY press with a PRINTING job that its press can print. -/
theorem witness_CreditTrayAndTransmission_printing :
    let j := twoSided (.printing 0);
    let s := spooled { press (.busy none) with txq := frames, send := .sending 1 0 true } j;
    Linked s 0 ∧ (s.press 0).txq = .sheet 0 0 1 :: .data 0 1 [] :: [] ∧ (s.press 0).line = none ∧
      (s.press 0).send ≠ .idle ∧ 0 < min ((s.press 0).credits + (1 : Byte).toNat) 255 ∧ Waits s 0 0 j := by
  refine ⟨spooled_linked _ _ (by simp [press]) rfl, rfl, rfl, by decide +kernel, by decide +kernel, spooled_bound _ _ rfl, rfl,
    by decide +kernel, fun x hx => ?_⟩
  obtain rfl : x = (1, ⟨0, 0, 0, some 1⟩) := (Option.some.inj hx).symm
  exact undamaged_of _ _ _ _ (by decide +kernel)

end Sys2Proof.Tests
end

section
/-! SUPPORT. Raising and ending alerts touch the alert table and the report queue alone, and commute with every update
of the other fields. -/

namespace Sys2Proof.Machine

/-! ## What raising and ending leave alone -/

section Frame

variable (s : State) (k : AlertKind) (src : Source) (d : Option Nat)

/-- A raise writes the alert table and the report queue alone. -/
theorem State.raise_frame : s.raise k src d =
    { s with alerts := (s.raise k src d).alerts, reports := (s.raise k src d).reports } := by
  unfold State.raise State.overflowRaise State.setAlert State.mark
  repeat' split
  all_goals rfl

/-- The end of a condition writes the alert table and the report queue alone. -/
theorem State.endCondition_frame : s.endCondition k src =
    { s with alerts := (s.endCondition k src).alerts, reports := (s.endCondition k src).reports } := by
  unfold State.endCondition State.setAlert State.mark
  repeat' split
  all_goals rfl

@[simp] theorem State.raise_phase : (s.raise k src d).phase = s.phase := by rw [State.raise_frame]
@[simp] theorem State.raise_retainedValid : (s.raise k src d).retainedValid = s.retainedValid := by rw [State.raise_frame]
@[simp] theorem State.raise_cellHolds : (s.raise k src d).cellHolds = s.cellHolds := by rw [State.raise_frame]
@[simp] theorem State.raise_ret : (s.raise k src d).ret = s.ret := by rw [State.raise_frame]
@[simp] theorem State.raise_sense : (s.raise k src d).sense = s.sense := by rw [State.raise_frame]
@[simp] theorem State.raise_low : (s.raise k src d).low = s.low := by rw [State.raise_frame]
@[simp] theorem State.raise_cause : (s.raise k src d).cause = s.cause := by rw [State.raise_frame]
@[simp] theorem State.raise_lost : (s.raise k src d).lost = s.lost := by rw [State.raise_frame]
@[simp] theorem State.raise_time : (s.raise k src d).time = s.time := by rw [State.raise_frame]
@[simp] theorem State.raise_rate : (s.raise k src d).rate = s.rate := by rw [State.raise_frame]
@[simp] theorem State.raise_framer : (s.raise k src d).framer = s.framer := by rw [State.raise_frame]
@[simp] theorem State.raise_intake : (s.raise k src d).intake = s.intake := by rw [State.raise_frame]
@[simp] theorem State.raise_slot : (s.raise k src d).slot = s.slot := by rw [State.raise_frame]
@[simp] theorem State.raise_restartPending : (s.raise k src d).restartPending = s.restartPending := by rw [State.raise_frame]
@[simp] theorem State.raise_txReport : (s.raise k src d).txReport = s.txReport := by rw [State.raise_frame]
@[simp] theorem State.raise_jobs : (s.raise k src d).jobs = s.jobs := by rw [State.raise_frame]
@[simp] theorem State.raise_serialCounter : (s.raise k src d).serialCounter = s.serialCounter := by rw [State.raise_frame]
@[simp] theorem State.raise_commitCounter : (s.raise k src d).commitCounter = s.commitCounter := by rw [State.raise_frame]
@[simp] theorem State.raise_spool : (s.raise k src d).spool = s.spool := by rw [State.raise_frame]
@[simp] theorem State.raise_presses : (s.raise k src d).presses = s.presses := by rw [State.raise_frame]
@[simp] theorem State.raise_circuits : (s.raise k src d).circuits = s.circuits := by rw [State.raise_frame]
@[simp] theorem State.raise_agenda : (s.raise k src d).agenda = s.agenda := by rw [State.raise_frame]
@[simp] theorem State.raise_demand : (s.raise k src d).demand = s.demand := by rw [State.raise_frame]
@[simp] theorem State.raise_pending : (s.raise k src d).pending = s.pending := by rw [State.raise_frame]

@[simp] theorem State.endCondition_phase : (s.endCondition k src).phase = s.phase := by rw [State.endCondition_frame]
@[simp] theorem State.endCondition_retainedValid : (s.endCondition k src).retainedValid = s.retainedValid := by rw [State.endCondition_frame]
@[simp] theorem State.endCondition_cellHolds : (s.endCondition k src).cellHolds = s.cellHolds := by rw [State.endCondition_frame]
@[simp] theorem State.endCondition_ret : (s.endCondition k src).ret = s.ret := by rw [State.endCondition_frame]
@[simp] theorem State.endCondition_sense : (s.endCondition k src).sense = s.sense := by rw [State.endCondition_frame]
@[simp] theorem State.endCondition_low : (s.endCondition k src).low = s.low := by rw [State.endCondition_frame]
@[simp] theorem State.endCondition_cause : (s.endCondition k src).cause = s.cause := by rw [State.endCondition_frame]
@[simp] theorem State.endCondition_lost : (s.endCondition k src).lost = s.lost := by rw [State.endCondition_frame]
@[simp] theorem State.endCondition_time : (s.endCondition k src).time = s.time := by rw [State.endCondition_frame]
@[simp] theorem State.endCondition_rate : (s.endCondition k src).rate = s.rate := by rw [State.endCondition_frame]
@[simp] theorem State.endCondition_framer : (s.endCondition k src).framer = s.framer := by rw [State.endCondition_frame]
@[simp] theorem State.endCondition_intake : (s.endCondition k src).intake = s.intake := by rw [State.endCondition_frame]
@[simp] theorem State.endCondition_slot : (s.endCondition k src).slot = s.slot := by rw [State.endCondition_frame]
@[simp] theorem State.endCondition_restartPending : (s.endCondition k src).restartPending = s.restartPending := by rw [State.endCondition_frame]
@[simp] theorem State.endCondition_txReport : (s.endCondition k src).txReport = s.txReport := by rw [State.endCondition_frame]
@[simp] theorem State.endCondition_jobs : (s.endCondition k src).jobs = s.jobs := by rw [State.endCondition_frame]
@[simp] theorem State.endCondition_serialCounter : (s.endCondition k src).serialCounter = s.serialCounter := by rw [State.endCondition_frame]
@[simp] theorem State.endCondition_commitCounter : (s.endCondition k src).commitCounter = s.commitCounter := by rw [State.endCondition_frame]
@[simp] theorem State.endCondition_spool : (s.endCondition k src).spool = s.spool := by rw [State.endCondition_frame]
@[simp] theorem State.endCondition_presses : (s.endCondition k src).presses = s.presses := by rw [State.endCondition_frame]
@[simp] theorem State.endCondition_circuits : (s.endCondition k src).circuits = s.circuits := by rw [State.endCondition_frame]
@[simp] theorem State.endCondition_agenda : (s.endCondition k src).agenda = s.agenda := by rw [State.endCondition_frame]
@[simp] theorem State.endCondition_demand : (s.endCondition k src).demand = s.demand := by rw [State.endCondition_frame]
@[simp] theorem State.endCondition_pending : (s.endCondition k src).pending = s.pending := by rw [State.endCondition_frame]

@[simp] theorem State.job_raise (e : Entry) : (s.raise k src d).job e = s.job e := by simp [State.job]
@[simp] theorem State.press_raise (p : PressNo) : (s.raise k src d).press p = s.press p := by simp [State.press]
@[simp] theorem State.circuit_raise (c : CircuitNo) : (s.raise k src d).circuit c = s.circuit c := by simp [State.circuit]
@[simp] theorem State.pressRec_raise (p : PressNo) : (s.raise k src d).pressRec p = s.pressRec p := by simp [State.pressRec]
@[simp] theorem State.account_raise (a : AccountNo) : (s.raise k src d).account a = s.account a := by simp [State.account]

@[simp] theorem State.job_endCondition (e : Entry) : (s.endCondition k src).job e = s.job e := by simp [State.job]
@[simp] theorem State.press_endCondition (p : PressNo) : (s.endCondition k src).press p = s.press p := by simp [State.press]
@[simp] theorem State.circuit_endCondition (c : CircuitNo) : (s.endCondition k src).circuit c = s.circuit c := by simp [State.circuit]
@[simp] theorem State.pressRec_endCondition (p : PressNo) : (s.endCondition k src).pressRec p = s.pressRec p := by simp [State.pressRec]
@[simp] theorem State.account_endCondition (a : AccountNo) : (s.endCondition k src).account a = s.account a := by simp [State.account]

end Frame

/-! ## What commutes with them -/

/-- Two states in which the Alert Controller reads the same. -/
structure SameAlerts (s t : State) : Prop where
  alerts : t.alerts = s.alerts
  time : t.time = s.time
  levels : t.ret.levels = s.ret.levels

namespace SameAlerts

variable {s t : State} (h : SameAlerts s t)
include h

theorem alert (n : AlertNo) : t.alert n = s.alert n := by
  simp [State.alert, h.alerts]

theorem findAlert (k : AlertKind) (src : Source) : t.findAlert k src = s.findAlert k src := by
  simp [State.findAlert, h.alert]

theorem level (k : AlertKind) : t.level k = s.level k := by
  simp [State.level, h.levels]

theorem replaceable : t.replaceable = s.replaceable := by
  simp [State.replaceable, h.alert, h.time]

theorem setAlert_alerts (n : AlertNo) (a : Option Alert) (act : AlertAction) (b : Bool) :
    (t.setAlert n a act b).alerts = (s.setAlert n a act b).alerts := by
  simp [State.setAlert, State.mark, h.alerts]

/-- The alert table after a raise does not depend on the report queue. -/
theorem raise_alerts (k : AlertKind) (src : Source) (d : Option Nat) :
    (t.raise k src d).alerts = (s.raise k src d).alerts := by
  unfold State.raise State.overflowRaise
  simp only [h.findAlert, h.alert, h.time, h.level, h.replaceable]
  repeat' split
  all_goals first | exact h.setAlert_alerts _ _ _ _ | exact h.alerts

end SameAlerts

/-- An update that leaves what the Alert Controller reads as it is, and does not look at the report queue. -/
structure Beside (g : State → State) : Prop where
  same : ∀ s, SameAlerts s (g s)
  reports : ∀ s, (g s).reports = s.reports
  commutes : ∀ (s : State) a r,
    g { s with alerts := a, reports := r } = { g s with alerts := a, reports := r }

namespace Beside

variable {g : State → State} (h : Beside g) (s : State)
include h

theorem mark (r : Report) : (g s).mark r = g (s.mark r) := by
  have := h.commutes s s.alerts (s.mark r).reports
  simp only [State.mark] at this ⊢
  rw [this, h.reports]
  simp [← (h.same s).alerts]

theorem setAlert (n : AlertNo) (a : Option Alert) (act : AlertAction) (b : Bool) :
    (g s).setAlert n a act b = g (s.setAlert n a act b) := by
  have := h.commutes s (s.alerts.set n a) (s.mark (.alert n act b)).reports
  simp only [State.setAlert, State.mark] at this ⊢
  rw [this, h.reports, (h.same s).alerts]

theorem overflowRaise : (g s).overflowRaise = g s.overflowRaise := by
  unfold State.overflowRaise
  rw [(h.same s).alert, (h.same s).time]
  split <;> exact h.setAlert _ _ _ _ _

theorem raise (k : AlertKind) (src : Source) (d : Option Nat) : (g s).raise k src d = g (s.raise k src d) := by
  unfold State.raise
  simp only [(h.same s).findAlert, (h.same s).alert, (h.same s).time, (h.same s).level, (h.same s).replaceable]
  split
  · split
    · exact h.setAlert _ _ _ _ _
    · rfl
  · split
    · rfl
    · split
      · exact h.setAlert _ _ _ _ _
      · split
        · exact h.setAlert _ _ _ _ _
        · exact h.overflowRaise s

theorem endCondition (k : AlertKind) (src : Source) : (g s).endCondition k src = g (s.endCondition k src) := by
  unfold State.endCondition
  rw [(h.same s).findAlert]
  split
  · rfl
  · rw [(h.same s).alert, (h.same s).time]
    split
    · rfl
    · split
      · exact h.setAlert _ _ _ _ _
      · exact h.setAlert _ _ _ _ _
      · rfl

end Beside

/-! ## The updates that do -/

theorem beside_setJob (e : Entry) (j : Option Job) : Beside (State.setJob e j) :=
  ⟨fun _ => ⟨rfl, rfl, rfl⟩, fun _ => rfl, fun _ _ _ => rfl⟩

theorem beside_modPress (p : PressNo) (f : Press → Press) : Beside (State.modPress p f) :=
  ⟨fun _ => ⟨rfl, rfl, rfl⟩, fun _ => rfl, fun _ _ _ => rfl⟩

theorem beside_modAccount (a : AccountNo) (f : Account → Account) : Beside (State.modAccount a f) :=
  ⟨fun _ => ⟨rfl, rfl, rfl⟩, fun _ => rfl, fun _ _ _ => rfl⟩

theorem beside_modMeter (p : PressNo) (m : Nat) (f : Meter → Meter) : Beside (State.modMeter p m f) :=
  ⟨fun _ => ⟨rfl, rfl, rfl⟩, fun _ => rfl, fun _ _ _ => rfl⟩

theorem beside_push (t : Task) : Beside (State.push t) :=
  ⟨fun _ => ⟨rfl, rfl, rfl⟩, fun _ => rfl, fun _ _ _ => rfl⟩

theorem beside_wantDemand : Beside State.wantDemand :=
  ⟨fun _ => ⟨rfl, rfl, rfl⟩, fun _ => rfl, fun _ _ _ => rfl⟩

end Sys2Proof.Machine
end

section
/-! PROOF. The serials of live jobs stay distinct (R4). -/

namespace Sys2Proof.Machine

/-! ## The search of JOB OPEN (R4) -/

/-- The serials from `n` on, in the order of the counter, in closed form. -/
theorem toNat_nextSerial_iterate (i : Nat) (n : Serial) (hi : i < 65) :
    (nextSerial^[i] n).toNat = if n.toNat + i < 2 ^ 32 then n.toNat + i else n.toNat + i + 1 - 2 ^ 32 := by
  induction i with
  | zero => simp [n.isLt]
  | succ i ih =>
    have ih := ih (by omega)
    have hn := n.isLt
    rw [Function.iterate_succ_apply']
    generalize nextSerial^[i] n = m at ih ⊢
    unfold nextSerial
    have hm := m.isLt
    by_cases hz : m + 1 = 0
    · have : (m + 1).toNat = 0 := by rw [hz]; rfl
      rw [BitVec.toNat_add] at this
      simp only [hz, if_true]
      split at ih <;> split <;> simp at this ⊢ <;> omega
    · have : (m + 1).toNat ≠ 0 := fun h => hz (BitVec.eq_of_toNat_eq (by simpa using h))
      simp only [hz, if_false]
      rw [BitVec.toNat_add] at this ⊢
      split at ih <;> split <;> simp at this ⊢ <;> omega

/-- Any 64 serials in a row are distinct. -/
theorem nextSerial_iterate_inj {n : Serial} {i k : Nat} (hi : i < 64) (hk : k < 64)
    (h : nextSerial^[i] n = nextSerial^[k] n) : i = k := by
  have h' := congrArg BitVec.toNat h
  rw [toNat_nextSerial_iterate i n (by omega), toNat_nextSerial_iterate k n (by omega)] at h'
  have := n.isLt
  split at h' <;> split at h' <;> omega

theorem State.liveSerial_iff {s : State} {n : Serial} :
    s.liveSerial n = true ↔ ∃ e j, s.job e = some j ∧ j.serial = n := by
  simp [State.liveSerial, allEntries, Option.any_eq_true]

/-- The search stops at the first serial of no live job. -/
theorem State.freeSerial_eq {s : State} {n : Serial} {i k : Nat} (hk : i < k)
    (hlive : ∀ m < i, s.liveSerial (nextSerial^[m] n) = true) (hfree : s.liveSerial (nextSerial^[i] n) = false) :
    s.freeSerial k n = nextSerial^[i] n := by
  induction i generalizing n k with
  | zero =>
    obtain ⟨k, rfl⟩ : ∃ m, k = m + 1 := ⟨k - 1, by omega⟩
    rw [Function.iterate_zero, id_eq] at hfree ⊢
    simp [State.freeSerial, hfree]
  | succ i ih =>
    obtain ⟨k, rfl⟩ : ∃ m, k = m + 1 := ⟨k - 1, by omega⟩
    have h0 := hlive 0 (by omega)
    rw [Function.iterate_zero, id_eq] at h0
    rw [State.freeSerial, if_pos h0, Function.iterate_succ_apply]
    refine ih (by omega) (fun m hm => ?_) (by rwa [← Function.iterate_succ_apply])
    rw [← Function.iterate_succ_apply]
    exact hlive (m + 1) (by omega)

/-- With an entry FREE at most 63 jobs are live, so one of 64 serials in a row belongs to none. -/
theorem State.exists_freeSerial {s : State} {e : Entry} (he : s.job e = none) (n : Serial) :
    ∃ i < 64, s.liveSerial (nextSerial^[i] n) = false := by
  by_contra hall
  push Not at hall
  have owner : ∀ i : Fin 64, ∃ d j, s.job d = some j ∧ j.serial = nextSerial^[i.val] n := fun i =>
    State.liveSerial_iff.mp (by simpa using hall i i.isLt)
  choose d j hd hj using owner
  have inj : Function.Injective d := fun i k h => by
    have : j i = j k := Option.some.inj (by rw [← hd i, ← hd k, h])
    exact Fin.ext (nextSerial_iterate_inj i.isLt k.isLt (by rw [← hj i, ← hj k, this]))
  obtain ⟨i, hi⟩ := (Finite.surjective_of_injective inj) e
  have := hd i
  rw [hi, he] at this
  cases this

/-- The serial that JOB OPEN gives belongs to no live job. -/
theorem State.freeSerial_free {s : State} {e : Entry} (he : s.job e = none) (n : Serial) :
    s.liveSerial (s.freeSerial 64 n) = false := by
  have h := State.exists_freeSerial he n
  classical
  rw [State.freeSerial_eq (Nat.find_spec h).1 (fun m hm => ?_) (Nat.find_spec h).2]
  · exact (Nat.find_spec h).2
  · have := Nat.find_min h hm
    simpa [hm.trans (Nat.find_spec h).1] using this

/-! ## The invariant -/

/-- Distinct serials are kept when each live job was live at its entry, with its serial. -/
theorem SerialsDistinct.of_old {s t : State} (h : SerialsDistinct s)
    (old : ∀ e j, t.job e = some j → ∃ i, s.job e = some i ∧ i.serial = j.serial) : SerialsDistinct t := by
  intro d e i j hi hj hs
  obtain ⟨i', hi', hs'⟩ := old d i hi
  obtain ⟨j', hj', hs''⟩ := old e j hj
  exact h d e i' j' hi' hj' (by rw [hs', hs'', hs])

/-- An update that leaves the job table leaves the serials distinct. -/
theorem SerialsDistinct.of_jobs {s t : State} (h : SerialsDistinct s) (ht : t.jobs = s.jobs) : SerialsDistinct t :=
  h.of_old fun e j hj => ⟨j, by simpa [State.job, ht] using hj, rfl⟩

/-- With no live job the serials are distinct. -/
theorem SerialsDistinct.of_free {t : State} (h : ∀ e, t.job e = none) : SerialsDistinct t := by
  intro d e i j hi
  simp [h] at hi

/-- Every small change inside the part keeps the serials distinct. -/
theorem serials_local : Local SerialsDistinct where
  press _ _ _ h := h
  record _ _ _ _ h := h
  circuit _ _ _ h := h
  meter _ _ _ _ h := h
  account _ _ _ _ _ h := h
  job e f s hf h := h.of_old fun d j hj => by
    rw [State.job_modJob] at hj
    split at hj
    · subst_vars
      obtain ⟨i, hi, rfl⟩ := Option.map_eq_some_iff.mp hj
      exact ⟨i, hi, (hf i).1.symm⟩
    · exact ⟨j, hj, rfl⟩
  write e j j' s hj hs _ h := h.of_old fun d i hi => by
    rw [State.job_setJob] at hi
    split at hi
    · subst_vars
      cases hi
      exact ⟨j, hj, hs.symm⟩
    · exact ⟨i, hi, rfl⟩
  report _ _ h := h
  raise k src d s _ h := h.of_jobs (s.raise_jobs k src d)
  ended k src s h := h.of_jobs (s.endCondition_jobs k src)
  spool _ _ _ h := h
  sticky _ _ h := h
  agenda _ _ h := h
  demand _ _ h := h

/-- Freeing an entry keeps the serials distinct. -/
theorem SerialsDistinct.free {s : State} (h : SerialsDistinct s) (e : Entry) : SerialsDistinct (s.setJob e none) :=
  h.of_old fun d j hj => by
    rw [State.job_setJob] at hj
    split at hj
    · cases hj
    · exact ⟨j, hj, rfl⟩

/-- JOB OPEN at a FREE entry keeps the serials distinct (R3, R4). -/
theorem SerialsDistinct.openJob {s : State} (h : SerialsDistinct s) {e : Entry} (he : s.job e = none) (a : AccountNo)
    (t : Target) (k : JobClass) (n : Nat) : SerialsDistinct (s.openJob e a t k n) := by
  have new : ∀ d j, s.job d = some j → j.serial ≠ s.freeSerial 64 s.serialCounter := fun d j hd hs => by
    have := State.freeSerial_free he s.serialCounter
    rw [← hs, State.liveSerial_iff.mpr ⟨d, j, hd, rfl⟩] at this
    cases this
  intro d d' i i' hd hd' hs
  unfold State.openJob at hd hd'
  rw [State.job_setJob] at hd hd'
  change (if e = d then _ else s.job d) = _ at hd
  change (if e = d' then _ else s.job d') = _ at hd'
  split at hd <;> split at hd'
  · simp_all
  · cases hd
    exact absurd hs.symm (new d' i' hd')
  · cases hd'
    exact absurd hs (new d i hd)
  · exact h d d' i i' hd hd' hs

/-! ## The requests -/

/-- The job that a handle names is live at its entry (R1). -/
theorem State.job_of_named {s : State} {h : Handle} {e : Entry} {j : Job} (hn : s.named h = some (e, j)) :
    s.job e = some j := by
  unfold State.named at hn
  split at hn
  · split at hn
    · split at hn
      · cases hn
        assumption
      · cases hn
    · cases hn
  · cases hn

namespace SerialsDistinct

theorem settle {s : State} (h : SerialsDistinct s) : SerialsDistinct s.settle := serials_local.settle h

variable {s : State} (h : SerialsDistinct s)
include h

theorem ackAlert (n : AlertNo) : SerialsDistinct (s.ackAlert n) := by
  unfold State.ackAlert
  repeat' split
  all_goals exact h

theorem escalate (n : AlertNo) : SerialsDistinct (s.escalate n) := by
  unfold State.escalate
  repeat' split
  all_goals exact h

theorem escalateAll : SerialsDistinct s.escalateAll := Local.fold _ (fun _ n hs => hs.escalate n) _ h

theorem evalSupply : SerialsDistinct s.evalSupply := by
  unfold State.evalSupply
  split
  · split
    · exact Local.fold _ (fun _ p hs => serials_local.push _ hs) _ (serials_local.ended _ _ _ h)
    · exact h
  · split
    · exact serials_local.raise _ _ _ _ (by decide) h
    · exact h

theorem withJob {hd : Handle} {f : Entry → Job → Reply × State}
    (hf : ∀ e j, s.job e = some j → SerialsDistinct (f e j).2) : SerialsDistinct (withJob hd s f).2 := by
  unfold Machine.withJob
  split
  · exact hf _ _ (State.job_of_named ‹_›)
  · exact h

theorem withPress {b : Byte} {f : PressNo → Reply × State} (hf : ∀ p, SerialsDistinct (f p).2) :
    SerialsDistinct (withPress b s f).2 := by
  unfold Machine.withPress
  split
  · exact hf _
  · exact h

theorem withAccount {a : Nat} {f : AccountNo → Reply × State} (hf : ∀ p, SerialsDistinct (f p).2) :
    SerialsDistinct (withAccount a s f).2 := by
  unfold Machine.withAccount
  split
  · exact hf _
  · exact h

theorem reqJobOpen (a t c n : Byte) : SerialsDistinct (reqJobOpen a t c n s).2 := by
  unfold Machine.reqJobOpen
  split
  · exact h
  · split
    · exact h
    · split
      · exact h
      · rename_i e he
        exact h.openJob (by simpa using List.find?_some he) _ _ _ _

theorem reqJobRuns (hd : Handle) (d : BitVec 16) (rs : List RunSpec) : SerialsDistinct (reqJobRuns hd d rs s).2 := by
  unfold Machine.reqJobRuns
  split
  · exact h
  · refine h.withJob fun e j hj => ?_
    split
    · exact h
    · split
      · exact h
      · exact serials_local.write e j _ s hj rfl rfl h

theorem pageCompleted (e : Entry) (was : Bool) : SerialsDistinct (s.pageCompleted e was) := by
  unfold State.pageCompleted
  dsimp only
  have offered : SerialsDistinct (if s.eligible e && !was then (s.push (.decideJob e)).wantDemand else s) := by
    split <;> exact h
  split
  · exact serials_local.push _ (serials_local.leaveStarved offered)
  · exact serials_local.leaveStarved offered

theorem takeSegment (e : Entry) (d : Nat) (pg : Page) (data : List Byte) (ends : Bool) :
    SerialsDistinct (s.takeSegment e d pg data ends) := by
  have stored : SerialsDistinct { s with spool := s.spool.storeSegment d pg data ends } := h
  unfold State.takeSegment
  dsimp only
  split
  · refine settle (pageCompleted ?_ e _)
    exact serials_local.job e _ _ (fun _ => ⟨rfl, rfl⟩) stored
  · exact stored

theorem reqJobData (hd : Handle) (k : BitVec 16) (f : Byte) (b : List Byte) :
    SerialsDistinct (reqJobData hd k f b s).2 := by
  unfold Machine.reqJobData
  split
  · exact h
  · refine h.withJob fun e j hj => ?_
    split
    · exact h
    · split
      · exact h
      · split
        · exact h
        · split
          · exact h
          · split
            · exact h
            · exact h.takeSegment _ _ _ _ _

theorem quoteJob {e : Entry} {j : Job} (hj : s.job e = some j) : SerialsDistinct (s.quoteJob e j) := by
  unfold State.quoteJob
  dsimp only
  have written := serials_local.write e j { j with
    commit := some { seq := s.commitCounter + 1, gen := s.ret.current.gen,
                     estimate := s.ret.current.estimate (j.runs.getD []) j.copies, charged := 0,
                     filter := ({ s with commitCounter := s.commitCounter + 1 } : State).filterOutcome j, cursor := some 1 }
    target := ((({ s with commitCounter := s.commitCounter + 1 } : State).filterOutcome j).redirected.map
      Target.pool).getD j.target } { s with commitCounter := s.commitCounter + 1 } hj rfl rfl h
  refine Local.choose (serials_local.raise _ _ _ _ (by decide) ?_) ?_ <;> split <;> exact written

theorem offerCredit (e : Entry) : SerialsDistinct (s.offerCredit e) := by
  unfold State.offerCredit
  split
  · exact h
  · rename_i j hj
    dsimp only
    split
    · exact serials_local.enterAdmitted (serials_local.reserve _ hj h)
    · exact serials_local.raise _ _ _ _ (by decide) (serials_local.report _ _ (serials_local.write e j _ s hj rfl rfl h))

theorem reqJobCommit (hd : Handle) : SerialsDistinct (reqJobCommit hd s).2 := by
  unfold Machine.reqJobCommit
  refine h.withJob fun e j hj => ?_
  split
  · exact h
  · dsimp only
    split <;> exact settle ((h.quoteJob hj).offerCredit e)

theorem setHostHold (e : Entry) (b : Bool) : SerialsDistinct (s.setHostHold e b) :=
  serials_local.job e _ _ (fun _ => ⟨rfl, rfl⟩) h

theorem reqJobHold (hd : Handle) : SerialsDistinct (reqJobHold hd s).2 := by
  unfold Machine.reqJobHold
  refine h.withJob fun e j hj => ?_
  have held := h.setHostHold e true
  cases j.state with
  | queued t => exact settle (serials_local.moveJob _ held)
  | starved => exact settle (serials_local.ended _ _ _ (serials_local.moveJob _ held))
  | printing p => exact settle (serials_local.startDrain _ held)
  | creditWait => exact held
  | _ => exact h

theorem reqJobRelease (hd : Handle) : SerialsDistinct (reqJobRelease hd s).2 := by
  unfold Machine.reqJobRelease
  refine h.withJob fun e j hj => ?_
  have unheld : SerialsDistinct (s.modJob e Job.unheld) := serials_local.job e _ _ (fun _ => ⟨rfl, rfl⟩) h
  split
  · exact settle (serials_local.enterQueued unheld)
  · exact unheld
  · exact h

theorem cancelJob {e : Entry} {j : Job} {t : State} (ht : s.cancelJob e j = some t) : SerialsDistinct t := by
  unfold State.cancelJob at ht
  split at ht
  case h_6 => 
    obtain rfl := Option.some.inj ht
    exact settle (serials_local.finishJob _ h)
  case h_7 =>
    obtain rfl := Option.some.inj ht
    exact settle (serials_local.startDrain _ h)
  case h_8 =>
    obtain rfl := Option.some.inj ht
    exact serials_local.setTarget _ h
  case h_9 => cases ht
  all_goals
    obtain rfl := Option.some.inj ht
    exact settle (serials_local.finishJob _ h)

theorem reqJobCancel (hd : Handle) : SerialsDistinct (reqJobCancel hd s).2 := by
  unfold Machine.reqJobCancel
  refine h.withJob fun e j hj => ?_
  split
  · exact h
  · exact h.cancelJob ‹_›

theorem reqJobStatus (hd : Handle) : SerialsDistinct (reqJobStatus hd s).2 := h.withJob fun _ _ _ => h

theorem recheckCount (a : AccountNo) : SerialsDistinct (s.recheckCount a).2 := serials_local.recheck a h

theorem reqAccountSet (a : Nat) (st : Byte) (l : BitVec 32) : SerialsDistinct (reqAccountSet a st l s).2 := by
  unfold Machine.reqAccountSet
  refine h.withAccount fun a => ?_
  split
  · exact h
  · dsimp only
    split
    · exact h
    · refine settle ?_
      split
      · exact SerialsDistinct.recheckCount (s := s.modAccount a _) h a
      · exact h

theorem reqAccountAdjust (a : Nat) (x : BitVec 32) : SerialsDistinct (reqAccountAdjust a x s).2 := by
  unfold Machine.reqAccountAdjust
  refine h.withAccount fun a => ?_
  dsimp only
  split
  · exact h
  · split
    · exact h
    · split
      · exact h
      · refine settle ?_
        split
        · exact SerialsDistinct.recheckCount (s := s.modAccount a _) h a
        · exact h

theorem reqAccountRead (a : Nat) : SerialsDistinct (reqAccountRead a s).2 := h.withAccount fun _ => h

theorem reqMeterRead (p c : Byte) : SerialsDistinct (reqMeterRead p c s).2 := by
  refine h.withPress fun p => ?_
  split
  · exact h
  · split
    · exact h
    · dsimp only
      split <;> exact h

theorem reqPriceWrite (g f : Byte) (v : List Nat) : SerialsDistinct (reqPriceWrite g f v s).2 := by
  unfold Machine.reqPriceWrite
  split <;> exact h

theorem reqPriceCommit : SerialsDistinct (reqPriceCommit s).2 := by
  unfold Machine.reqPriceCommit
  split <;> exact h

theorem reqPriceRead (r : Byte) : SerialsDistinct (reqPriceRead r s).2 := by
  unfold Machine.reqPriceRead
  dsimp only
  split
  · exact h
  · split <;> exact h

theorem moveQueue (p : PressNo) (old new : CircuitNo) : SerialsDistinct (s.moveQueue p old new) := by
  unfold State.moveQueue
  split
  · exact h
  · split
    · exact serials_local.joinQueue _ (serials_local.leaveQueue _ h)
    · exact h

theorem poolChanged (p : PressNo) : SerialsDistinct (s.poolChanged p) := by
  unfold State.poolChanged
  dsimp only
  split <;> exact h

theorem holdPool (p : PressNo) : SerialsDistinct (s.holdPool p) := by
  unfold State.holdPool
  split <;> exact h

theorem setPress (p : PressNo) (pool : Option PoolNo) (c : CircuitNo) (f : PressSpec) :
    SerialsDistinct (s.setPress p pool c f) := by
  unfold State.setPress
  dsimp only
  have held : SerialsDistinct (if (s.pressRec p).pool = pool then s else s.holdPool p) := Local.choose h (h.holdPool p)
  generalize (if (s.pressRec p).pool = pool then s else s.holdPool p) = u at held
  have slept : SerialsDistinct ((((u.modRec p (PressRec.set pool c f)).moveQueue p (s.pressRec p).circuit c).expireIdle
      p).trySleep p) :=
    serials_local.trySleep (serials_local.expireIdle
      (SerialsDistinct.moveQueue (s := u.modRec p (PressRec.set pool c f)) held p _ c))
  exact Local.choose slept (slept.poolChanged p)

theorem reqPressSet (p : Byte) (f : PressSpec) : SerialsDistinct (reqPressSet p f s).2 := by
  refine h.withPress fun p => ?_
  split
  · split
    · exact h
    · split
      · exact h
      · exact settle (h.setPress _ _ _ _)
  · exact h

theorem reqPressRead (p : Byte) : SerialsDistinct (reqPressRead p s).2 := by
  refine h.withPress fun p => ?_
  split <;> exact h

theorem wakePress {p : PressNo} {t : State} (ht : s.wakePress p = some t) : SerialsDistinct t := by
  unfold State.wakePress at ht
  split at ht
  · obtain rfl := Option.some.inj ht
    exact settle (serials_local.requestWake _ h)
  · obtain rfl := Option.some.inj ht
    exact h
  · obtain rfl := Option.some.inj ht
    exact serials_local.keepAwake h
  · cases ht

theorem reqPressWake (p : Byte) : SerialsDistinct (reqPressWake p s).2 := by
  refine h.withPress fun p => ?_
  split
  · exact h
  · split
    · exact h.wakePress ‹_›
    · exact h

theorem sleepPress {p : PressNo} {t : State} (ht : s.sleepPress p = some t) : SerialsDistinct t := by
  unfold State.sleepPress at ht
  split at ht
  · obtain rfl := Option.some.inj ht
    exact settle (serials_local.setSleepPending h)
  · obtain rfl := Option.some.inj ht
    exact settle (serials_local.withdraw h)
  · obtain rfl := Option.some.inj ht
    exact h
  · obtain rfl := Option.some.inj ht
    exact h
  · cases ht

theorem reqPressSleep (p : Byte) : SerialsDistinct (reqPressSleep p s).2 := by
  refine h.withPress fun p => ?_
  split
  · exact h
  · split
    · exact h.sleepPress ‹_›
    · exact h

theorem reqPressCalibrate (p k : Byte) : SerialsDistinct (reqPressCalibrate p k s).2 := by
  refine h.withPress fun p => ?_
  split
  · exact h
  · split
    · exact h
    · have due : SerialsDistinct (s.modRec p (PressRec.setDue (k == 1))) := h
      exact Local.choose (settle (serials_local.enterCalibrating due)) due

theorem reqPressResume (p : Byte) : SerialsDistinct (reqPressResume p s).2 := by
  refine h.withPress fun p => ?_
  split
  · exact h
  · split
    · exact settle (serials_local.enterIdle h)
    · exact h

theorem reqPressRestart (p : Byte) : SerialsDistinct (reqPressRestart p s).2 := by
  refine h.withPress fun p => ?_
  split
  · exact h
  · exact settle (serials_local.restartLink h)

theorem reqCircuitSet (c w : Byte) (tw : BitVec 16) (ts : Byte) : SerialsDistinct (reqCircuitSet c w tw ts s).2 := by
  unfold Machine.reqCircuitSet
  split
  · exact h
  · rename_i c _
    have stored : SerialsDistinct { s with ret := { s.ret with
      circuits := s.ret.circuits.set c ⟨clamp 1 4 w.toNat, clampWindow tw.toNat, min ts.toNat 60⟩ } } := h
    exact settle (serials_local.grantCheck c stored)

theorem reqScheduleSet (f : ScheduleSpec) : SerialsDistinct (reqScheduleSet f s).2 := by
  unfold Machine.reqScheduleSet
  split
  · exact h
  · rename_i m _
    have stored : SerialsDistinct { s with ret := { s.ret with schedule := scheduleOf m f } } := h
    dsimp only
    exact settle stored.escalateAll.evalSupply

theorem reqFilterSet (n : Byte) (f : FilterSpec) : SerialsDistinct (reqFilterSet n f s).2 := by
  unfold Machine.reqFilterSet
  repeat' split
  all_goals exact h

theorem reqFilterRead (n : Byte) : SerialsDistinct (reqFilterRead n s).2 := by
  unfold Machine.reqFilterRead
  split <;> exact h

theorem reqAlertLevels (v : List Byte) : SerialsDistinct (reqAlertLevels v s).2 := by
  unfold Machine.reqAlertLevels
  repeat' split
  all_goals exact h

theorem reqAlertAck (n k st : Byte) (src : BitVec 32) : SerialsDistinct (reqAlertAck n k st src s).2 := by
  unfold Machine.reqAlertAck
  split
  · exact h
  · split
    · dsimp only
      exact Local.fold _ (fun _ n hs => hs.ackAlert n) _ h
    · split
      · split
        · exact h
        · split
          · exact h.ackAlert _
          · exact h
      · exact h

theorem reqStatus (c : Byte) : SerialsDistinct (reqStatus c s).2 := by
  unfold Machine.reqStatus
  split
  · exact h
  · dsimp only
    split <;> exact h

theorem removeJobAlerts : SerialsDistinct s.removeJobAlerts := by
  refine Local.fold _ (fun s n hs => ?_) _ h
  repeat' split
  all_goals exact hs

theorem flushPath (p : PressNo) (b : Bool) : SerialsDistinct (s.flushPath p b) := by
  unfold State.flushPath
  split
  · exact h
  · dsimp only
    split
    · exact serials_local.give _ (serials_local.press _ _ _ h)
    · exact h

theorem flushPress (p : PressNo) : SerialsDistinct (s.flushPress p) := by
  have unmarked : SerialsDistinct (s.modPress p fun x => { x with resumeMark := false }) := h
  unfold State.flushPress
  dsimp only
  split
  · exact serials_local.enterIdle unmarked
  · exact serials_local.enterIdle (serials_local.ended _ _ _ unmarked)
  · exact serials_local.enterIdle unmarked
  · exact unmarked

omit h in
/-- FLUSH leaves no live job (R178), so no two of one serial. -/
theorem flush (s : State) : SerialsDistinct s.flush := by
  unfold State.flush
  dsimp only
  refine settle (serials_local.wantDemand
    (Local.fold _ (fun _ p hs => hs.flushPress p) _ (Local.fold _ (fun _ p hs => hs.flushPath p _) _
      (removeJobAlerts (SerialsDistinct.of_free fun e => ?_)))))
  simp [State.job]

omit h in
theorem reqFlush (s : State) : SerialsDistinct (reqFlush s).2 := by
  unfold Machine.reqFlush
  dsimp only
  exact flush s

theorem gatherQueues : SerialsDistinct s.gatherQueues :=
  Local.fold _ (fun _ c hs => serials_local.grantCheck c hs) _ h

theorem clearedPress (p : PressNo) (was : Option PoolNo) : SerialsDistinct (s.clearedPress p was) := by
  have slept := serials_local.trySleep (p := p) (serials_local.expireIdle (p := p) h)
  exact Local.choose slept (slept.poolChanged p)

theorem clearRetained : SerialsDistinct s.clearRetained := by
  have cleared : SerialsDistinct { s with ret := s.ret.cleared } := h
  have pressed : SerialsDistinct (allPresses.foldl
      (fun t p => t.clearedPress p (s.ret.presses.map (·.pool))[p]) ({ s with ret := s.ret.cleared } : State).gatherQueues) :=
    Local.fold _ (fun _ p hs => hs.clearedPress p _) _ cleared.gatherQueues
  exact settle (serials_local.wantDemand pressed.escalateAll.evalSupply)

theorem reqRetainedClear : SerialsDistinct (reqRetainedClear s).2 := by
  unfold Machine.reqRetainedClear
  split
  · exact h
  · dsimp only
    exact h.clearRetained

/-- Every request keeps the serials distinct. -/
theorem performRequest (r : Request) : SerialsDistinct (performRequest r s).2 := by
  cases r with
  | jobOpen a t c n => exact h.reqJobOpen a t c n
  | jobRuns hd d rs => exact h.reqJobRuns hd d rs
  | jobData hd k f b => exact h.reqJobData hd k f b
  | jobCommit hd => exact h.reqJobCommit hd
  | jobHold hd => exact h.reqJobHold hd
  | jobRelease hd => exact h.reqJobRelease hd
  | jobCancel hd => exact h.reqJobCancel hd
  | jobStatus hd => exact h.reqJobStatus hd
  | accountSet a st l => exact h.reqAccountSet a st l
  | accountAdjust a x => exact h.reqAccountAdjust a x
  | accountRead a => exact h.reqAccountRead a
  | priceWrite g f v => exact h.reqPriceWrite g f v
  | priceCommit => exact h.reqPriceCommit
  | priceRead r => exact h.reqPriceRead r
  | pressSet p f => exact h.reqPressSet p f
  | pressRead p => exact h.reqPressRead p
  | pressWake p => exact h.reqPressWake p
  | pressSleep p => exact h.reqPressSleep p
  | pressCalibrate p k => exact h.reqPressCalibrate p k
  | pressResume p => exact h.reqPressResume p
  | pressRestart p => exact h.reqPressRestart p
  | circuitSet c w tw ts => exact h.reqCircuitSet c w tw ts
  | scheduleSet f => exact h.reqScheduleSet f
  | filterSet n f => exact h.reqFilterSet n f
  | filterRead n => exact h.reqFilterRead n
  | alertLevels v => exact h.reqAlertLevels v
  | alertList => exact h
  | alertAck n k st src => exact h.reqAlertAck n k st src
  | meterRead p c => exact h.reqMeterRead p c
  | status c => exact h.reqStatus c
  | flush => exact reqFlush s
  | restart => exact h
  | retainedClear => exact h.reqRetainedClear
  | unknown => exact h
  | badLength => exact h

/-! ## The host line -/

theorem execute (q : Queued) : SerialsDistinct (s.execute q) := h.performRequest q.req

theorem arrive (q : Queued) : SerialsDistinct (s.arrive q) := by
  unfold State.arrive
  split
  · exact h.execute q
  · split <;> exact h

theorem serve : SerialsDistinct s.serve := by
  unfold State.serve
  split
  · rename_i q rest _
    exact Local.choose (SerialsDistinct.execute (s := { s with intake := rest }) h q) h
  · exact h

theorem feedByte (b : Byte) : SerialsDistinct (s.feedByte b) := by
  unfold State.feedByte
  split
  · exact h
  · split
    · split <;> exact h
    · dsimp only
      have hunting : SerialsDistinct { s with framer := { s.framer with bytes := none } } := h
      split
      · exact h
      · split
        · split
          · exact hunting.arrive _
          · exact h
        · exact h

theorem takeBytes (bytes : List Byte) : SerialsDistinct (s.takeBytes bytes) :=
  Local.fold _ (fun _ b hs => hs.feedByte b) _ h

theorem freeEntry (e : Entry) (n : Serial) : SerialsDistinct (s.freeEntry e n) := by
  unfold State.freeEntry
  split
  · split
    · exact settle (serials_local.wantDemand
        (serials_local.ended _ _ _ (serials_local.ended _ _ _ (h.free e))))
    · exact h
  · exact h

theorem endReport : SerialsDistinct s.endReport := by
  unfold State.endReport
  split
  · dsimp only
    have done : SerialsDistinct { s with txReport := none } := h
    split
    · exact done.freeEntry _ _
    · exact h
  · exact h

theorem beginReport : SerialsDistinct s.beginReport := by
  unfold State.beginReport
  split <;> exact h

omit h in
/-- The end of all working state leaves no live job. -/
theorem dropWorking (ph : Phase) (s : State) : SerialsDistinct (s.dropWorking ph) :=
  SerialsDistinct.of_free fun e => by simp [State.dropWorking, State.blank, State.job]

theorem endReply : SerialsDistinct s.endReply := by
  unfold State.endReply
  split
  · have done : SerialsDistinct { s with slot := none } := h
    exact Local.choose (dropWorking _ s) done.serve
  · exact h

/-! ## Timers, the panel, the supply -/

theorem endSignal (p : PressNo) : SerialsDistinct (s.endSignal p) := Local.choose (serials_local.press _ _ _ h) h

theorem endWindow (p : PressNo) : SerialsDistinct (s.endWindow p) := by
  have ended : SerialsDistinct (((s.modPress p fun x => { x with restart := none }).mark (.press p)).wantDemand) := h
  exact Local.choose
    (settle (Local.choose ended (serials_local.raise _ _ _ _ (by decide) ended))) h

theorem failWake (p : PressNo) : SerialsDistinct (s.failWake p) :=
  Local.choose (settle (serials_local.raise _ _ _ _ (by decide) (serials_local.enter _ h))) h

theorem failCalibration (p : PressNo) : SerialsDistinct (s.failCalibration p) :=
  Local.choose (settle (serials_local.failRun h)) h

theorem starveOut (e : Entry) : SerialsDistinct (s.starveOut e) := by
  unfold State.starveOut
  split
  · exact settle (serials_local.startDrain _ h)
  · exact h

theorem buttonPress : SerialsDistinct s.buttonPress := by
  unfold State.buttonPress
  split
  · dsimp only
    have pressed : SerialsDistinct { s with buttonArmed := false } := h
    split
    · exact pressed.ackAlert _
    · exact h
  · exact h

theorem tick : SerialsDistinct s.tick := by
  refine Local.choose ?_ h
  refine h.of_old fun e j hj => ?_
  have hj : (s.job e).map Job.tick = some j := by simpa [State.job, State.count] using hj
  obtain ⟨i, hi, rfl⟩ := Option.map_eq_some_iff.mp hj
  exact ⟨i, hi, rfl⟩

theorem takeSense (mv : Nat) : SerialsDistinct (s.takeSense mv) := by
  have sensed : SerialsDistinct { s with sense := mv } := h
  exact Local.choose (settle sensed.evalSupply) sensed

omit h in
/-- A start of the part leaves no live job. -/
theorem startPart (c : ResetCause) (b1 b0 : Bool) (mv : Nat) (s : State) : SerialsDistinct (s.startPart c b1 b0 mv) := by
  unfold State.startPart
  dsimp only
  have blank : ∀ t : State, t.jobs = Vector.replicate 64 none → SerialsDistinct t := fun t ht =>
    SerialsDistinct.of_free fun e => by simp [State.job, ht]
  split
  · exact blank _ rfl
  · exact serials_local.raise _ _ _ _ (by decide) (blank _ rfl)

end SerialsDistinct

/-! ## The step -/

/-- What a part that runs keeps, a command that only such a part takes keeps. -/
theorem whenRunning_keeps {P : State → Prop} {f : State → State} {s t : State} (ht : whenRunning f s = .next t)
    (hf : P s → P (f s)) (h : P s) : P t := by
  unfold whenRunning at ht
  cases ht
  exact Local.choose (hf h) h

/-- A command of the host that is a request arrives at the part when it runs (R165, R166). -/
theorem exec_request {c : Instr} {q : Queued} (hq : requestRow c = some q) (s : State) :
    exec c s = whenRunning (State.arrive q) s := by
  cases c <;> cases hq <;> rfl

/-- A command that is a frame from a press is that frame received whole (R82). -/
theorem exec_pressRow {c : Instr} {p : PressNo} {f : PressIn} (hp : pressRow c = some (p, f)) (s : State) :
    exec c s = whenRunning (State.takeFrame p f) s := by
  cases c <;> cases hp <;> rfl

/-- Every command keeps the serials of live jobs distinct. -/
theorem SerialsDistinct.exec {s t : State} (h : SerialsDistinct s) (c : Instr) (ht : exec c s = .next t) :
    SerialsDistinct t := by
  cases hq : requestRow c with
  | some q => exact whenRunning_keeps ((exec_request hq s).symm.trans ht) (fun h => h.arrive q) h
  | none =>
    cases hp : pressRow c with
    | some x => exact whenRunning_keeps ((exec_pressRow hp s).symm.trans ht) (fun h => serials_local.takeFrame _ h) h
    | none =>
      cases c with
      | hostFrameReceived bytes => exact whenRunning_keeps ht (fun h => h.takeBytes bytes) h
      | hostFrameDiscarded bytes err =>
        cases ht
        exact Local.choose (Local.choose (P := SerialsDistinct) (h.takeBytes bytes) (h.takeBytes bytes)) h
      | interByteGapTimeout late =>
        cases ht
        exact Local.choose (SerialsDistinct.takeBytes (s := s.dropFrame) h late.toList) h
      | lineBreak =>
        cases ht
        exact Local.choose (P := SerialsDistinct) h h
      | replyTransmitted => exact whenRunning_keeps ht (fun h => h.endReply) h
      | reportTransmissionBegin => exact whenRunning_keeps ht (fun h => h.beginReport) h
      | reportTransmitted => exact whenRunning_keeps ht (fun h => h.endReport) h
      | unactedPressFrame p k b => exact whenRunning_keeps ht (fun h => serials_local.takeFrame _ h) h
      | pressFrameDiscarded p bytes err =>
        cases ht
        have fed := serials_local.feedPressBytes (p := p) bytes h
        exact Local.choose (Local.choose (P := SerialsDistinct) fed fed) h
      | pressFrameTransmitted p => exact whenRunning_keeps ht (fun h => serials_local.frameDone h) h
      | heartbeatExpiry p =>
        exact whenRunning_keeps ht (fun h => Local.choose (P := SerialsDistinct) (settle (serials_local.linkDown _ h)) h) h
      | restartSignalEnd p => exact whenRunning_keeps ht (fun h => h.endSignal p) h
      | restartWindowExpiry p => exact whenRunning_keeps ht (fun h => h.endWindow p) h
      | wakeTimeout p => exact whenRunning_keeps ht (fun h => h.failWake p) h
      | calibrationTimeout p => exact whenRunning_keeps ht (fun h => h.failCalibration p) h
      | starveExpiry e => exact whenRunning_keeps ht (fun h => h.starveOut e) h
      | idleTimerExpiry p =>
        cases ht
        exact Local.choose (settle (serials_local.expireIdle h)) h
      | sleepPointReached p =>
        cases ht
        exact Local.choose (settle (serials_local.trySleep h)) h
      | nextGrantTime k =>
        cases ht
        exact Local.choose (settle (serials_local.grantCheck k h)) h
      | escalation n => exact whenRunning_keeps ht (fun h => h.escalate n) h
      | ackButtonPress => exact whenRunning_keeps ht (fun h => h.buttonPress) h
      | supplyFall mv =>
        cases ht
        exact Local.choose (h.takeSense mv) h
      | supplyRise mv =>
        cases ht
        exact Local.choose (h.takeSense mv) h
      | mainSupplyLoss =>
        cases ht
        exact dropWorking _ _
      | supplyStart =>
        cases ht
        exact Local.choose (P := SerialsDistinct) h h
      | resetInputAssert =>
        cases ht
        split
        · exact dropWorking _ _
        · exact h
        · exact h
      | resetInputRelease =>
        cases ht
        split <;> exact h
      | startOfPart b1 b0 mv =>
        cases ht
        split
        · exact startPart _ _ _ _ _
        · exact h
      | backupCellLoss =>
        cases ht
        exact h
      | lineReturnToMark =>
        cases ht
        exact Local.choose (P := SerialsDistinct) h h
      | ackButtonRelease =>
        cases ht
        exact h
      | _ => first | (cases hq; done) | cases hp

/-- Settles O7: a step is a tick or a command, and each of their small changes keeps the serials, JOB OPEN by the pigeonhole
of its search. -/
theorem serialInvariant : Obligations.SerialInvariant := by
  intro s t ht h
  unfold step at ht
  split at ht
  · cases ht
    exact h.tick
  · rename_i c rest _
    exact SerialsDistinct.exec (s := { s with pending := rest }) h c ht

end Sys2Proof.Machine
end

section
/-! SUPPORT. A request that arrives at a free host link is executed at once, and what a handle, a press number and an account
number name. -/

namespace Sys2Proof.Machine

/-- A request that arrives at a free host link leaves its effect and its reply in the slot (R166). -/
theorem exec_free {s : State} (h : HostFree s) {c : Instr} {tag kind : Byte} {q : Request}
    (hq : requestRow c = some { tag := tag, kind := kind, req := q }) {r : Reply} {t : State}
    (hr : performRequest q s = (r, t)) : exec c s = .next (t.answered tag kind r) := by
  rw [exec_request hq]
  simp [whenRunning, h.running, State.arrive, h.slot, h.intake, State.execute, State.answered, hr]

/-- The job that a handle names is the one found by it (R1). -/
theorem Names.named {s : State} {h : Handle} {e : Entry} {j : Job} (hn : Names s h e j) : s.named h = some (e, j) := by
  have he : (⟨h.entry.toNat, hn.entry ▸ e.isLt⟩ : Entry) = e := Fin.ext hn.entry
  have hlt : h.entry.toNat < 64 := hn.entry ▸ e.isLt
  unfold State.named
  rw [dif_pos hlt, he, hn.live]
  simp [hn.serial]

/-- A request that names a live job acts on it (R1). -/
theorem withJob_names {s : State} {h : Handle} {e : Entry} {j : Job} (hn : Names s h e j)
    (f : Entry → Job → Reply × State) : withJob h s f = f e j := by
  simp [withJob, hn.named]

/-- A request that carries a press number acts on that press (R167). -/
theorem withPress_ofNat (s : State) (p : PressNo) (f : PressNo → Reply × State) :
    withPress (BitVec.ofNat 8 p.val) s f = f p := by
  have hp := p.isLt
  have : (BitVec.ofNat 8 p.val).toNat = p.val := by simp; omega
  unfold withPress
  simp only [this]
  rw [dif_pos hp]

/-- A request that carries an account number acts on that account (R167). -/
theorem withAccount_val (s : State) (a : AccountNo) (f : AccountNo → Reply × State) : withAccount a.val s f = f a := by
  unfold withAccount
  rw [dif_pos a.isLt]

/-- A search in ascending order finds the least number that passes. -/
theorem find?_finRange_iff {n : Nat} {p : Fin n → Bool} {i : Fin n} :
    (List.finRange n).find? p = some i ↔ p i = true ∧ ∀ k < i, p k = false := by
  rw [← Fin.find?_eq_find?_finRange]
  exact Fin.find?_eq_some_iff

theorem State.lowestFree_iff {s : State} {e : Entry} :
    s.lowestFree = some e ↔ s.job e = none ∧ ∀ d < e, s.job d ≠ none := by
  unfold State.lowestFree allEntries
  rw [find?_finRange_iff]
  simp [Option.isSome_iff_ne_none]

theorem targetOf_code (t : Target) : targetOf (BitVec.ofNat 8 t.code) = .ok t := by
  cases t with
  | press p =>
    have hp := p.isLt
    have : (BitVec.ofNat 8 (Target.press p).code).toNat = p.val := by simp [Target.code]; omega
    unfold targetOf
    simp only [this]
    rw [dif_pos hp]
  | pool q =>
    have hq := q.isLt
    have : (BitVec.ofNat 8 (Target.pool q).code).toNat = 16 + q.val := by simp [Target.code]; omega
    unfold targetOf
    simp only [this]
    rw [dif_neg (by omega), if_neg (by omega), dif_pos (by omega)]
    simp

theorem JobClass.ofCode_code (k : JobClass) : JobClass.ofCode (BitVec.ofNat 8 k.code).toNat = some k := by
  cases k <;> rfl

theorem ColourCond.ofCode_code (c : ColourCond) : ColourCond.ofCode (BitVec.ofNat 8 c.code).toNat = some c := by
  cases c <;> rfl

/-! ## The bound job of a press (R1) -/

theorem State.boundJob_eq_none_iff {s : State} {p : PressNo} :
    s.boundJob p = none ↔ ∀ e j, s.job e = some j → j.state.bound ≠ some p := by
  simp [State.boundJob, allEntries, Option.any_eq_false]

/-- The job found for a press is live and bound to it, no lower entry's is, and the converse. -/
theorem State.boundJob_eq_some_iff {s : State} {p : PressNo} {e : Entry} :
    s.boundJob p = some e ↔ (∃ j, s.job e = some j ∧ j.state.bound = some p) ∧
      ∀ d < e, ∀ i, s.job d = some i → i.state.bound ≠ some p := by
  unfold State.boundJob allEntries
  rw [find?_finRange_iff]
  simp [Option.any_eq_true, Option.any_eq_false]

theorem BoundAlone.boundJob {s : State} {p : PressNo} {e : Entry} {j : Job} (h : BoundAlone s p e j) :
    s.boundJob p = some e :=
  State.boundJob_eq_some_iff.mpr ⟨⟨j, h.live, h.bound⟩, fun d hd i hi hb => (ne_of_lt hd) (h.alone d i hi hb)⟩

theorem State.bound_of_boundJob {s : State} {p : PressNo} {e : Entry} {j : Job} (h : s.boundJob p = some e)
    (hj : s.job e = some j) : j.state.bound = some p := by
  obtain ⟨⟨i, hi, hb⟩, -⟩ := State.boundJob_eq_some_iff.mp h
  obtain rfl := Option.some.inj (hi.symm.trans hj)
  exact hb

end Sys2Proof.Machine
end

section
/-! PROOF. What reset leaves, and what a start of the part leaves in every unit (R2, R175, R176). -/

namespace Sys2Proof.Machine

/-! ## Reset -/

theorem reset_job (e : Entry) : State.reset.job e = none := by
  simp [State.reset, State.blank, State.job]

theorem reset_press (p : PressNo) : State.reset.press p = Press.start := by
  simp [State.reset, State.press]

theorem reset_pressRec (p : PressNo) : State.reset.pressRec p = PressRec.default := by
  simp [State.reset, State.blank, State.pressRec, Retained.default]

theorem reset_alert (n : AlertNo) : State.reset.alert n = none := by
  simp [State.reset, State.blank, State.alert]

theorem reset_account (a : AccountNo) :
    State.reset.account a = Account.zero (if a = 0 then .active else .unused) := by
  simp only [State.reset, State.blank, State.account, Retained.default, defaultAccounts, Fin.getElem_fin,
    Vector.getElem_set, Vector.getElem_replicate]
  by_cases h : a = 0
  · simp [h]
  · rw [if_neg fun h' => h (Fin.ext h'.symm), if_neg h]

theorem reset_meter (p : PressNo) (m : Nat) : State.reset.meter p m = Meter.zero := by
  have row : State.reset.ret.meters[p] = Vector.replicate 16 Meter.zero := by
    simp [State.reset, State.blank, Retained.default]
  unfold State.meter
  rw [row]
  by_cases h : m < 16 <;> simp [h]

/-- Settles O3: each unit's values, by the updates that reset makes of a blank state. -/
theorem resetState : Obligations.ResetState := by
  refine ⟨rfl, rfl, rfl, rfl, rfl, rfl, rfl, rfl, reset_job, rfl, rfl, fun n => ?_, ?_, rfl, rfl, reset_press,
    reset_pressRec, fun c => ⟨?_, ?_, ?_⟩, fun a => ?_, reset_meter, rfl, rfl, reset_alert, rfl, rfl, rfl, rfl, rfl, rfl, rfl,
    rfl, rfl⟩
  · simp [State.reset, State.blank, Retained.default, Filter.default]
  · simp only [State.reset, State.blank, Spool.fresh]
  · simp [State.reset, State.blank, State.circuit]
  · simp [State.reset, State.blank, State.circuit]
  · simp [State.reset, State.blank, State.settings, Retained.default, CircuitSettings.default]
  · rw [reset_account]
    rfl

/-- Settles O4: with no job, no alert and one report the invariants hold, and the fresh spool is canonical. -/
theorem resetInvariant : Obligations.ResetInvariant where
  prices := by unfold PricesApart; rfl
  intake := Nat.zero_le _
  reports := List.pairwise_singleton _ _
  house := by rw [HouseActive, house, reset_account]; rfl
  alerts := ⟨fun m n a b h => by simp [reset_alert] at h, fun n a h => by simp [reset_alert] at h⟩
  serials := SerialsDistinct.of_free reset_job
  spool := Spool.wf_iff.mpr Spool.fresh_form

/-! ## A start of the part -/

/-- The alert table is searched from entry 0, so a raise into an empty table takes that entry (R150). -/
theorem State.alert_raise_empty {s : State} (h : ∀ n, s.alert n = none) {k : AlertKind} (hl : 0 < s.level k) (src : Source)
    (d : Option Nat) : (s.raise k src d).alert 0 = some (Alert.fresh k src d (s.level k) s.time) := by
  have none_found : s.findAlert k src = none := by simp [State.findAlert, h]
  have first : ordinaryAlerts.find? (fun n => (s.alert n).isNone) = some 0 := by
    simp only [h]
    decide
  unfold State.raise
  simp only [none_found, first, if_neg (Nat.ne_of_gt hl)]
  simp

/-- The STARTUP REPORT stays first when an alert's report is made pending (R170). -/
theorem State.head_mark_alert {s : State} (h : s.reports.head? = some .start) (n : AlertNo) (act : AlertAction) (b : Bool) :
    (s.mark (.alert n act b)).reports.head? = some .start := by
  obtain ⟨l, hl⟩ : ∃ l, s.reports = .start :: l := by
    cases hs : s.reports with
    | nil => simp [hs] at h
    | cons r l => simp_all
  simp only [State.mark, hl]
  split
  · simp [Report.sameSubject]
  · rfl

theorem State.head_raise {s : State} (h : s.reports.head? = some .start) (k : AlertKind) (src : Source) (d : Option Nat) :
    (s.raise k src d).reports.head? = some .start := by
  unfold State.raise State.overflowRaise State.setAlert
  dsimp only
  repeat' split
  all_goals first | exact State.head_mark_alert h _ _ _ | exact h

/-- The part rebuilt at a start, before the supply is held against its threshold (R176). -/
def State.rebuilt (c : ResetCause) (b1 b0 : Bool) (mv : Nat) (s : State) : State :=
  { State.blank s.examineRetained with
    phase := .running, resetPin := s.resetPin, cellHolds := s.cellHolds, sense := mv, cause := c, lost := !s.retainedValid
    rate := rateOf b1 b0, reports := [.start], presses := Vector.replicate 12 Press.start
    buttonArmed := s.buttonArmed, pending := s.pending }

/-- A start rebuilds the part and enters LOW unless the sense is above the rising threshold (R174, R176). -/
theorem State.startPart_eq (c : ResetCause) (b1 b0 : Bool) (mv : Nat) (s : State) :
    s.startPart c b1 b0 mv = if risingMv s.examineRetained.schedule.threshold < mv then s.rebuilt c b1 b0 mv
      else (s.rebuilt c b1 b0 mv).enterLow := rfl

theorem rebuilt_job (c : ResetCause) (b1 b0 : Bool) (mv : Nat) (s : State) (e : Entry) :
    (s.rebuilt c b1 b0 mv).job e = none := by
  simp [State.rebuilt, State.blank, State.job]

theorem rebuilt_press (c : ResetCause) (b1 b0 : Bool) (mv : Nat) (s : State) (p : PressNo) :
    (s.rebuilt c b1 b0 mv).press p = Press.start := by
  simp [State.rebuilt, State.press]

theorem rebuilt_circuit (c : ResetCause) (b1 b0 : Bool) (mv : Nat) (s : State) (k : CircuitNo) :
    (s.rebuilt c b1 b0 mv).circuit k = { ring := [], queue := [] } := by
  simp [State.rebuilt, State.blank, State.circuit]

theorem rebuilt_alert (c : ResetCause) (b1 b0 : Bool) (mv : Nat) (s : State) (n : AlertNo) :
    (s.rebuilt c b1 b0 mv).alert n = none := by
  simp [State.rebuilt, State.blank, State.alert]

theorem rateOf_eq (b1 b0 : Bool) : rateOf b1 b0 = (if b1 then 2 else 0) + if b0 then 1 else 0 := by
  cases b1 <;> cases b0 <;> rfl

/-- Settles O55: the fields are those of the part rebuilt, to which LOW adds its alert alone. -/
theorem partStarts : Obligations.PartStarts := by
  intro s c b1 b0 mv hs ret
  have ex : exec (.startOfPart b1 b0 mv) s = .next (s.startPart c b1 b0 mv) := by
    simp [exec, execStartOfPart, hs]
  have hret : s.examineRetained = ret := rfl
  refine ⟨_, ex, ?_⟩
  rw [State.startPart_eq, hret, ← rateOf_eq]
  have normal : risingMv ret.schedule.threshold < mv ↔ ¬ mv ≤ 2990 + 40 * ret.schedule.threshold := by
    simp only [risingMv, fallingMv]
    omega
  by_cases hmv : mv ≤ 2990 + 40 * ret.schedule.threshold
  · rw [if_neg (by rw [normal]; exact not_not_intro hmv)]
    have empty : ∀ n, ({ s.rebuilt c b1 b0 mv with low := true } : State).alert n = none := rebuilt_alert c b1 b0 mv s
    simp only [State.enterLow, State.raise_phase, State.raise_time, State.raise_cause, State.raise_lost,
      State.raise_retainedValid, State.raise_cellHolds, State.raise_ret, State.raise_sense, State.raise_rate, State.raise_low,
      State.job_raise, State.raise_serialCounter, State.raise_spool, State.press_raise, State.circuit_raise,
      State.raise_framer, State.raise_intake, State.raise_slot, State.raise_pending]
    refine ⟨rfl, rfl, rfl, rfl, rfl, rfl, hret, rfl, rfl, by simp [hmv], rebuilt_job c b1 b0 mv s, rfl, rfl,
      rebuilt_press c b1 b0 mv s, fun k => ?_, rfl, rfl, rfl, State.head_raise rfl _ _ _, rfl, nofun, fun _ hl => ?_⟩
    · have := rebuilt_circuit c b1 b0 mv s k
      exact ⟨congrArg Circuit.ring this, congrArg Circuit.queue this⟩
    · have level : ({ s.rebuilt c b1 b0 mv with low := true } : State).level .supplyLow = ret.levels[9] := by
        rw [← hret]
        rfl
      rw [State.alert_raise_empty empty (by rw [level]; exact hl), level]
      rfl
  · rw [if_pos (normal.mpr hmv)]
    refine ⟨rfl, rfl, rfl, rfl, rfl, rfl, hret, rfl, rfl, by simp [hmv, State.rebuilt, State.blank],
      rebuilt_job c b1 b0 mv s, rfl, rfl, rebuilt_press c b1 b0 mv s, fun k => ?_, rfl, rfl, rfl, rfl, rfl,
      fun _ => rebuilt_alert c b1 b0 mv s, nofun⟩
    have := rebuilt_circuit c b1 b0 mv s k
    exact ⟨congrArg Circuit.ring this, congrArg Circuit.queue this⟩

end Sys2Proof.Machine
end

section
/-! PROOF. The requests that store what they carry: JOB OPEN (R3, R4), JOB RUNS (R5), FILTER SET (R9), ALERT LEVELS (R149). -/

namespace Sys2Proof.Machine

theorem clamp_copies (n : Byte) : clamp 1 255 n.toNat = max 1 n.toNat := by
  have := n.isLt
  simp only [clamp]
  omega

/-- Settles O18: the search for an entry and the search for a serial end where the statement says they do. -/
theorem jobOpens : Obligations.JobOpens := by
  intro s tag copies a t k e n i hs he hlow hn hi hfree hused
  have serial : s.freeSerial 64 s.serialCounter = n := by
    rw [hn]
    refine State.freeSerial_eq hi (fun m hm => State.liveSerial_iff.mpr (hused m hm)) ?_
    rw [← hn, ← Bool.not_eq_true, State.liveSerial_iff]
    rintro ⟨d, j, hd, hj⟩
    exact hfree d j hd hj
  refine exec_free hs rfl ?_
  simp only [performRequest, reqJobOpen, targetOf_code, JobClass.ofCode_code, State.lowestFree_iff.mpr ⟨he, hlow⟩, serial,
    clamp_copies, State.openJob, Job.opened, BitVec.toNat_ofFin]

/-! ## JOB RUNS -/

theorem pagesOf_run (runs : List RunSpec) : pagesOf (runs.map RunSpec.run) = (runs.map fun r => r.pages.toNat).sum := by
  simp [pagesOf, RunSpec.run, Function.comp_def]

theorem sheetsOf_run (runs : List RunSpec) : sheetsOf (runs.map RunSpec.run) =
    (runs.map fun r : RunSpec => if r.duplex = 1 then (r.pages.toNat + 1) / 2 else r.pages.toNat).sum := by
  simp [sheetsOf, RunSpec.run, Run.sheets, Function.comp_def]

/-- A run whose pages, in a list of runs, add up to at most 8,192 has at most 8,192. -/
theorem runSpec_inRange {runs : List RunSpec} (hsum : (runs.map fun r => r.pages.toNat).sum ≤ 8192)
    (h : ∀ r ∈ runs, 1 ≤ r.pages.toNat ∧ r.media.toNat ≤ 15 ∧ r.band.toNat ≤ 3 ∧ r.duplex.toNat ≤ 1) :
    runs.all RunSpec.inRange = true := by
  rw [List.all_eq_true]
  intro r hr
  obtain ⟨hp, hm, hb, hd⟩ := h r hr
  have : r.pages.toNat ≤ (runs.map fun r => r.pages.toNat).sum :=
    List.single_le_sum (fun _ _ => Nat.zero_le _) _ (List.mem_map_of_mem hr)
  simp only [RunSpec.inRange, Bool.and_eq_true, decide_eq_true_eq]
  omega

/-- Settles O19: every check passes, and the reply's figures are those of the stored runs. -/
theorem jobRunsStored : Obligations.JobRunsStored := by
  intro s tag h declared runs e j hs hn hst hrec hfill hlen hlen' hsum hdec hin perCopy
  refine exec_free hs rfl ?_
  have fits : (runs.isEmpty || decide (16 < runs.length) ||
      (runs.map fun r => r.pages.toNat).sum != declared.toNat) = false := by
    have one : runs ≠ [] := by
      rintro rfl
      simp at hlen
    simp [hsum, hlen', one]
  have range := runSpec_inRange (by omega) hin
  have noData : s.hasData e j = false := by simp [State.hasData, hrec, hfill]
  have pages : pagesOf (runs.map RunSpec.run) = declared.toNat := by rw [pagesOf_run, hsum]
  have late : ¬ 8192 < declared.toNat := by omega
  simp only [performRequest, reqJobRuns, fits, withJob_names hn, range, noData, hst, late, Job.pageCount, Job.total,
    Job.perCopy, Option.getD_some, pages, sheetsOf_run]
  rfl

/-! ## FILTER SET and ALERT LEVELS -/

theorem filterOf_eq {f : FilterSpec} {c : ColourCond} {act : FilterAction} (he : f.enabled.toNat ≤ 1)
    (hc : f.colour = BitVec.ofNat 8 c.code)
    (ha : match act with
      | .hold => f.action = 0
      | .flag => f.action = 1
      | .redirect q => f.action = 2 ∧ f.pool = BitVec.ofNat 8 q.val) :
    filterOf f = some { enabled := f.enabled == 1, account := f.account, mask := f.mask, media := f.media, colour := c
                        minSheets := min f.minSheets.toNat 2088960, action := act } := by
  have action : actionOf f.action f.pool = some act := by
    cases act with
    | hold => simp only [ha]; rfl
    | flag => simp only [ha]; rfl
    | redirect q =>
      obtain ⟨ha, hp⟩ := ha
      have hq := q.isLt
      have pool : f.pool.toNat = q.val := by rw [hp]; simp; omega
      unfold actionOf
      rw [ha, if_neg (by decide), if_neg (by decide), if_pos rfl, dif_pos (by omega)]
      simp [pool]
  unfold filterOf
  rw [if_neg (by omega), hc, ColourCond.ofCode_code, action]

/-- Settles O36: the fields are in their ranges, and each request writes its own table. -/
theorem filterAndLevelsStored : Obligations.FilterAndLevelsStored := by
  intro s tag hs
  refine ⟨?_, fun values hlen => ⟨storedLevels values, fun i => by simp [storedLevels], ?_⟩⟩
  · intro n f c act he hc ha x
    have hn := n.isLt
    have number : (BitVec.ofNat 8 n.val).toNat = n.val := by simp; omega
    refine exec_free hs rfl ?_
    simp only [performRequest, reqFilterSet, number, dif_pos hn, filterOf_eq he hc ha]
    rfl
  · have bytes : ((storedLevels values).toList.map (le 1)).flatten = values.map fun v => BitVec.ofNat 8 (min v.toNat 15) := by
      have single : (storedLevels values).toList.map (le 1) = values.map fun v => [BitVec.ofNat 8 (min v.toNat 15)] := by
        refine List.ext_getElem (by simp [hlen]) fun i h1 h2 => ?_
        simp at h2
        simp [storedLevels, le, h2]
      rw [single, ← List.flatMap_def, ← List.map_eq_flatMap]
    have filled : values.isEmpty = false := by cases values <;> simp at hlen ⊢
    refine exec_free hs rfl ?_
    simp only [performRequest, reqAlertLevels, filled, hlen, Retained.levelBytes, bytes]
    rfl

end Sys2Proof.Machine
end

section
/-! PROOF. Fit, the presses of a target and the checks of JOB COMMIT (R6, R7), and the filters (R10, R11). -/

namespace Sys2Proof.Machine

theorem Caps.fits_iff {c : Caps} {runs : List Run} :
    c.fits runs = true ↔ ∀ r ∈ runs, (∃ t ∈ c.trays, t.media = r.media) ∧ (r.duplex = true → c.duplex = true) ∧
      (0 < r.band → c.colour = true) := by
  simp only [Caps.fits, Bool.and_eq_true, Bool.or_eq_true, Bool.not_eq_true', List.all_eq_true, List.any_eq_true,
    List.any_eq_false, beq_iff_eq, decide_eq_true_eq]
  constructor
  · rintro ⟨⟨media, duplex⟩, colour⟩ r hr
    exact ⟨media r hr, fun h => duplex.resolve_left fun all => all r hr h, fun h => colour.resolve_left fun all => all r hr h⟩
  · intro h
    refine ⟨⟨fun r hr => (h r hr).1, ?_⟩, ?_⟩
    · by_contra hc
      push Not at hc
      obtain ⟨⟨r, hr, hd⟩, hc⟩ := hc
      exact hc ((h r hr).2.1 hd)
    · by_contra hc
      push Not at hc
      obtain ⟨⟨r, hr, hd⟩, hc⟩ := hc
      exact hc ((h r hr).2.2 hd)

theorem State.fits_iff {s : State} {p : PressNo} {j : Job} :
    s.fits p j = true ↔ ∃ c, (s.pressRec p).caps = some c ∧ ∀ r ∈ j.runs.getD [],
      (∃ t ∈ c.trays, t.media = r.media) ∧ (r.duplex = true → c.duplex = true) ∧ (0 < r.band → c.colour = true) := by
  simp [State.fits, Option.any_eq_true, Caps.fits_iff]

theorem State.isOf_iff {s : State} {t : Target} {p : PressNo} :
    s.isOf t p = true ↔ t = .press p ∨ ∃ q, t = .pool q ∧ s.poolInForce p = some q := by
  cases t with
  | press q =>
    simp only [State.isOf, beq_iff_eq, Target.press.injEq, reduceCtorEq, false_and, exists_false, or_false]
    exact eq_comm
  | pool q => simp only [State.isOf, beq_iff_eq, reduceCtorEq, false_or, Target.pool.injEq, exists_eq_left']

/-- The pool table's entry is in force on a press with no job bound or no other pool held (R79). -/
theorem State.poolInForce_eq {s : State} {p : PressNo} (h : s.boundJob p = none ∨ (s.press p).heldPool = none) :
    s.poolInForce p = (s.pressRec p).pool := by
  unfold State.poolInForce
  rcases h with h | h
  · simp only [h]
    split <;> rfl
  · rw [h]

theorem State.targetFits_iff {s : State} {t : Target} {j : Job} :
    s.targetFits t j = true ↔ ∃ p, s.isOf t p = true ∧ s.fits p j = true := by
  simp [State.targetFits, State.pressesOf, allPresses, and_comm]

theorem State.targetPresent_eq (s : State) (t : Target) : (!s.targetPresent t) =
    (match t with
      | .press p => (s.pressRec p).caps.isNone
      | .pool q => decide (∀ p, s.poolInForce p ≠ some q)) := by
  cases t with
  | press p => simp [State.targetPresent]
  | pool q =>
    rw [Bool.eq_iff_iff]
    simp [State.targetPresent, State.pressesOf, State.isOf, allPresses, List.filter_eq_nil_iff]

/-- Settles O22: fit and targets case by case, and the refusal's tests are the statement's in one order. -/
theorem commitChecks : Obligations.CommitChecks := by
  refine ⟨fun s p j => ⟨State.fits_iff, fun t => State.isOf_iff, fun h => State.poolInForce_eq ?_⟩, ?_⟩
  · exact h.imp_left State.boundJob_eq_none_iff.mpr
  · intro s h e j hn
    have fitsNone : (!s.targetFits j.target j) = true ↔ ∀ p, s.isOf j.target p = true → s.fits p j = false := by
      rw [Bool.not_eq_true', ← Bool.not_eq_true, State.targetFits_iff]
      simp
    have code : (reqJobCommit h s).1.code = (s.commitRefusal j).getD .ok := by
      rw [reqJobCommit, withJob_names hn]
      cases s.commitRefusal j with
      | some c => rfl
      | none =>
        dsimp only
        split <;> rfl
    have present := s.targetPresent_eq j.target
    rw [code, State.commitRefusal]
    cases ht : j.target <;> rw [ht] at present fitsNone <;> dsimp only at present ⊢ <;>
      simp only [present, fitsNone, bne_iff_ne, ne_eq, Option.isNone_iff_eq_none, Bool.and_eq_true, house]
    all_goals split_ifs <;> rfl

end Sys2Proof.Machine
end

section
/-! PROOF. The filters and their outcome (R10, R11). -/

namespace Sys2Proof.Machine

/-! ## The match of a filter (R10) -/

/-- The account test of a filter, bit by bit. -/
theorem masked_eq_iff {a b m : Byte} :
    a &&& m = b &&& m ↔ ∀ i, m.getLsbD i = true → a.getLsbD i = b.getLsbD i := by
  constructor
  · intro h i hm
    have := congrArg (fun x : Byte => x.getLsbD i) h
    simpa [hm] using this
  · intro h
    refine BitVec.eq_of_getLsbD_eq fun i _ => ?_
    rw [BitVec.getLsbD_and, BitVec.getLsbD_and]
    cases hm : m.getLsbD i
    · simp
    · simp [h i hm]

theorem ColourCond.holds_iff {c : ColourCond} {runs : List Run} : c.holds runs = true ↔
    (match c with
      | .any => True
      | .colourOnly => ∃ r ∈ runs, 0 < r.band
      | .monoOnly => ∀ r ∈ runs, r.band = 0) := by
  cases c <;> simp [ColourCond.holds]

theorem mask_high (a : AccountNo) : (BitVec.ofFin a : Byte) &&& 0xF0 = 16 &&& 0xF0 ↔ 16 ≤ a.val ∧ a.val ≤ 31 := by
  revert a
  decide +kernel

theorem mask_all (a : AccountNo) : (BitVec.ofFin a : Byte) &&& 0xFF = 0 &&& 0xFF ↔ a.val = 0 := by
  revert a
  decide +kernel

/-! ## The outcome of the matching filters (R11) -/

theorem State.mem_matching {s : State} {j : Job} {f : Filter} :
    f ∈ s.matching j ↔ ∃ n : Fin 8, s.ret.filters[n] = f ∧ f.matches j = true := by
  rw [State.matching, List.mem_filter, Vector.mem_toList_iff, Vector.mem_iff_getElem]
  constructor
  · rintro ⟨⟨i, hi, rfl⟩, hm⟩
    exact ⟨⟨i, hi⟩, rfl, hm⟩
  · rintro ⟨n, rfl, hm⟩
    exact ⟨⟨n, n.isLt, rfl⟩, hm⟩

theorem any_matching {s : State} {j : Job} {a : FilterAction} :
    ((s.matching j).any fun f => f.action == a) = true ↔
      ∃ n : Fin 8, s.ret.filters[n].matches j = true ∧ s.ret.filters[n].action = a := by
  rw [List.any_eq_true]
  constructor
  · rintro ⟨f, hf, ha⟩
    obtain ⟨n, rfl, hm⟩ := State.mem_matching.mp hf
    exact ⟨n, hm, by simpa using ha⟩
  · rintro ⟨n, hm, ha⟩
    exact ⟨_, State.mem_matching.mpr ⟨n, rfl, hm⟩, by simpa using ha⟩

/-- The search for a REDIRECT finds the lowest-numbered filter that matches with one. -/
theorem findSome_matching {s : State} {j : Job} {q : PoolNo} :
    ((s.matching j).findSome? fun f => f.action.pool?) = some q ↔
      ∃ n : Fin 8, (s.ret.filters[n].matches j = true ∧ s.ret.filters[n].action = .redirect q) ∧
        ∀ k < n, ∀ r, ¬ (s.ret.filters[k].matches j = true ∧ s.ret.filters[k].action = .redirect r) := by
  have pool : ∀ (a : FilterAction) r, a.pool? = some r ↔ a = .redirect r := by
    intro a r
    cases a <;> simp [FilterAction.pool?]
  have listed : s.ret.filters.toList = (List.finRange 8).map fun n => s.ret.filters[n] := by
    refine List.ext_getElem (by simp) fun i h1 h2 => ?_
    simp
  have search : ((s.matching j).findSome? fun f => f.action.pool?) =
      (List.finRange 8).findSome? fun n =>
        if s.ret.filters[n].matches j then s.ret.filters[n].action.pool? else none := by
    rw [State.matching, listed]
    generalize List.finRange 8 = l
    induction l with
    | nil => rfl
    | cons n l ih =>
      rw [List.map_cons, List.filter_cons, List.findSome?_cons]
      split
      · rw [List.findSome?_cons, ih]
      · exact ih
  rw [search, ← Fin.findSome?_eq_findSome?_finRange, Fin.findSome?_eq_some_iff]
  refine exists_congr fun n => and_congr ?_ (forall₂_congr fun k _ => ?_)
  · split <;> simp_all
  · constructor
    · rintro h r ⟨hm, ha⟩
      rw [if_pos hm, ha] at h
      cases h
    · intro h
      split
      · rename_i hm
        cases ha : s.ret.filters[k].action with
        | redirect r => exact absurd ⟨hm, ha⟩ (h r)
        | _ => rfl
      · rfl

theorem targetFits_pool_iff {s : State} {j : Job} {q : PoolNo} :
    s.targetFits (.pool q) j = true ↔ ∃ p, s.poolInForce p = some q ∧ s.fits p j = true := by
  simp [State.targetFits_iff, State.isOf]

/-- A commit takes the alert table to what a raise of JOB_FLAGGED leaves, or leaves it (R11). -/
theorem State.quoteJob_alerts (s : State) (e : Entry) (j : Job) : (s.quoteJob e j).alerts =
    if (s.filterOutcome j).flagged then (s.raise .jobFlagged (.job j.serial) none).alerts else s.alerts := by
  unfold State.quoteJob
  dsimp only
  have same : ({ s with commitCounter := s.commitCounter + 1 } : State).filterOutcome j = s.filterOutcome j := rfl
  rw [same]
  split
  · refine SameAlerts.raise_alerts ?_ _ _ _
    split <;> exact ⟨rfl, rfl, rfl⟩
  · split <;> rfl

theorem State.quoteJob_job (s : State) (e : Entry) (j : Job) : (s.quoteJob e j).job e = some (committed s j) := by
  unfold State.quoteJob
  dsimp only
  have same : ({ s with commitCounter := s.commitCounter + 1 } : State).filterOutcome j = s.filterOutcome j := rfl
  have target : ((s.filterOutcome j).redirected.map Target.pool).getD j.target =
      match (s.filterOutcome j).redirected with
      | some q => .pool q
      | none => j.target := by
    cases (s.filterOutcome j).redirected <;> rfl
  rw [same, target]
  split <;> split <;> simp [committed] <;> rfl

/-- Settles O23: the tests of R10 one by one, and the searches of R11 through the filters' numbers. -/
theorem filterMatches : Obligations.FilterMatches := by
  refine ⟨?_, ?_⟩
  · intro f j runs hruns account
    have masked : ((BitVec.ofFin j.account &&& f.mask) == (f.account &&& f.mask)) = true ↔ account := by
      rw [beq_iff_eq]
      exact masked_eq_iff
    refine ⟨?_, fun hm i hi => ?_, fun hm ha => ?_, fun hm ha => ?_⟩
    · have total : j.total = j.copies * (runs.map fun r => if r.duplex then (r.pages + 1) / 2 else r.pages).sum := by
        simp only [Job.total, Job.perCopy, hruns, Option.getD_some, sheetsOf]
        rfl
      simp only [Filter.matches, hruns, Option.getD_some, Bool.and_eq_true, masked, Bool.or_eq_true, beq_iff_eq,
        List.any_eq_true, ColourCond.holds_iff, decide_eq_true_eq, total, and_assoc] <;> rfl
    · simp [hm] at hi
    · refine Iff.trans (show account ↔ _ from masked_eq_iff.symm) ?_
      rw [hm, ha]
      exact mask_high j.account
    · refine Iff.trans (show account ↔ _ from masked_eq_iff.symm) ?_
      rw [hm, ha]
      exact mask_all j.account
  · intro s j named redirect fits out
    have first : ∀ q, ((s.matching j).findSome? fun f => f.action.pool?) = some q ↔ ∃ n, redirect n q :=
      fun q => findSome_matching
    have fit : ∀ q, s.targetFits (.pool q) j = true ↔ fits q := fun q => targetFits_pool_iff
    refine ⟨any_matching, fun q => ?_, ?_, fun e => ?_, fun e => s.quoteJob_alerts e j⟩
    · simp only [out, State.filterOutcome]
      rw [← first, ← fit]
      cases (s.matching j).findSome? fun f => f.action.pool? with
      | none => simp
      | some r =>
        simp only [Option.any_some, Option.some.injEq]
        by_cases hr : s.targetFits (.pool r) j = true
        · rw [if_pos hr, Option.some.injEq]
          exact ⟨fun h => ⟨h, h ▸ hr⟩, fun h => h.1⟩
        · rw [if_neg hr]
          exact ⟨nofun, fun h => absurd (h.1 ▸ h.2) hr⟩
    · have unfit : (∃ n q, redirect n q ∧ ¬ fits q) ↔
          ∃ q, ((s.matching j).findSome? fun f => f.action.pool?) = some q ∧ ¬ s.targetFits (.pool q) j = true := by
        rw [exists_comm]
        simp only [first, fit, exists_and_right]
      rw [unfit]
      simp only [out, State.filterOutcome, Bool.or_eq_true, any_matching]
      refine or_congr Iff.rfl ?_
      cases (s.matching j).findSome? fun f => f.action.pool? <;> simp
    · rw [State.quoteJob_job]
      rfl

end Sys2Proof.Machine
end

section
/-! PROOF. What a report carries, field by field (spec/12.5, R169, R172, R181). -/

namespace Sys2Proof.Machine

/-! ## Fields of a body -/

theorem optLe_eq (k : Nat) (o : Option Nat) : optLe k o = le 1 o.isSome.toNat ++ le k (o.getD 0) := by
  cases o <;> rfl

theorem replicate_zero (k : Nat) : List.replicate k 0#8 = le k 0 := by
  induction k with
  | zero => rfl
  | succ k ih => rw [List.replicate_succ, ih]; rfl

/-- The field at the front of a body. -/
theorem fieldAt_front (k n : Nat) (b : List Byte) : fieldAt (le k n ++ b) 0 k = n % 256 ^ k := by
  have : (le k n ++ b).take k = le k n := by
    rw [List.take_append_of_le_length (by simp), List.take_of_length_le (by simp)]
  rw [fieldAt, List.drop_zero, this, ofLe_le]

theorem fieldAt_alone (k n : Nat) : fieldAt (le k n) 0 k = n % 256 ^ k := by
  simpa using fieldAt_front k n []

/-- A field behind another one. -/
theorem fieldAt_behind {k i : Nat} (h : k ≤ i) (n m : Nat) (b : List Byte) :
    fieldAt (le k n ++ b) i m = fieldAt b (i - k) m := by
  obtain ⟨d, rfl⟩ := Nat.exists_eq_add_of_le h
  have : (le k n ++ b).drop (k + d) = b.drop d := by
    rw [List.drop_append, List.drop_of_length_le (by simp)]
    simp
  rw [fieldAt, this, fieldAt, Nat.add_sub_cancel_left]

theorem byteAt_behind {k i : Nat} (h : k ≤ i) (n : Nat) (b : List Byte) :
    byteAt (le k n ++ b) i = byteAt b (i - k) := by
  simp [byteAt, List.getElem?_append_right, h]

theorem byteAt_zeros {k i : Nat} (b : List Byte) (h : i < k) : byteAt (le k 0 ++ b) i = 0 := by
  rw [← replicate_zero]
  simp [byteAt, List.getElem?_append_left, h]

/-! ## The panel byte (R157) -/

theorem State.lamp_iff {s : State} {k : Nat} : s.lamp k = true ↔
    ∃ m a, s.alert m = some a ∧ a.state ≠ .activeAcked ∧ 0 < a.level ∧ 4 * k ≤ a.level ∧ a.level < 4 * k + 4 := by
  have band : ∀ l : Nat, l / 4 = k ↔ 4 * k ≤ l ∧ l < 4 * k + 4 := fun l => by omega
  simp [State.lamp, allAlerts, Option.any_eq_true, Alert.unacked, lampOf, band, and_assoc]

theorem State.buzzer_iff {s : State} : s.buzzer = true ↔
    ∃ m a, s.alert m = some a ∧ a.state = .activeUnacked ∧ s.ret.schedule.buzzer ≤ a.level := by
  simp [State.buzzer, allAlerts, Option.any_eq_true]

theorem panel_bits (a b c d e : Bool) : let x : Byte := BitVec.ofNat 8 (flagBits [a, b, c, d, e])
    x.getLsbD 0 = a ∧ x.getLsbD 1 = b ∧ x.getLsbD 2 = c ∧ x.getLsbD 3 = d ∧ x.getLsbD 4 = e ∧ x.toNat < 32 := by
  revert a b c d e
  decide

theorem panelByte_lamp (s : State) (k : Nat) (h : k < 4) :
    (BitVec.ofNat 8 s.panelByte : Byte).getLsbD k = s.lamp k := by
  obtain ⟨h0, h1, h2, h3, -⟩ := panel_bits (s.lamp 0) (s.lamp 1) (s.lamp 2) (s.lamp 3) s.buzzer
  match k, h with
  | 0, _ => exact h0
  | 1, _ => exact h1
  | 2, _ => exact h2
  | 3, _ => exact h3

/-! ## The bodies, field after field -/

theorem carries_front (k n m : Nat) (b : List Byte) : Carries (le k n ++ b) 0 k m ↔ n % 256 ^ k = m % 256 ^ k := by
  rw [Carries, fieldAt_front]

theorem carries_alone (k n m : Nat) : Carries (le k n) 0 k m ↔ n % 256 ^ k = m % 256 ^ k := by
  rw [Carries, fieldAt_alone]

theorem carries_behind {k i : Nat} (h : k ≤ i) (n m v : Nat) (b : List Byte) :
    Carries (le k n ++ b) i m v ↔ Carries b (i - k) m v := by
  rw [Carries, fieldAt_behind h, Carries]

/-- The bytes of a cursor's field come at its front, its copy and its sheet (spec/12.5). -/
theorem Job.cursorBytes_eq (j : Job) (c : Option Nat) : j.cursorBytes c =
    le 1 ((c.map j.copyOf).getD 0) ++ le 2 ((c.map j.sheetIndex).getD 0) := by
  cases c <;> rfl

/-- The fields of a JOB REPORT that a commit fills, zeros before it (R22, spec/12.5). -/
def Job.commitFields (j : Job) : List Byte :=
  match j.commit with
  | some c => le 6 c.charged ++ (le 6 c.estimate ++ j.cursorBytes c.cursor)
  | none => le 15 0

theorem State.jobBody {s : State} {e : Entry} {j : Job} (h : s.job e = some j) : (s.reportMsg (.job e)).body =
    le 4 s.time.toNat ++ (le 1 e.val ++ (le 4 j.serial.toNat ++ (le 1 j.state.code ++
      (le 1 (j.state.outcome?.map (·.code)).isSome.toNat ++ (le 1 ((j.state.outcome?.map (·.code)).getD 0) ++
      (le 1 (flagBits [j.state.outcome?.isSome, j.commit.isSome]) ++ (le 2 j.received ++ (le 4 j.delivered ++
      (le 4 j.reprinted ++ j.commitFields))))))))) := by
  simp only [State.reportMsg, State.reportContents, State.jobReport, h, optLe_eq, List.append_assoc, Job.commitFields]
  cases j.commit <;> rfl

/-- The type code and the value of an alert source (spec/12.5). -/
def Source.fields : Source → Nat × Nat
  | .press p => (0, p.val)
  | .job m => (1, m.toNat)
  | .part => (2, 0)

theorem Source.bytes_eq (x : Source) : x.bytes = le 1 x.fields.1 ++ le 4 x.fields.2 := by
  cases x <;> rfl

theorem State.alertBody {s : State} {n : AlertNo} {a : Alert} (h : s.alert n = some a) (act : AlertAction)
    (again : Bool) : (s.reportMsg (.alert n act again)).body =
    le 4 s.time.toNat ++ (le 1 n.val ++ (le 1 act.code ++ (le 1 (flagBits [again, true]) ++ (le 1 a.kind.code ++
      (le 1 a.source.fields.1 ++ (le 4 a.source.fields.2 ++
      (le 1 a.detail.isSome.toNat ++ (le 2 (a.detail.getD 0) ++ (le 1 a.level ++ (le 1 a.state.code ++
      (le 2 a.occurrences ++ (le 4 a.raisedAt.toNat ++ (le 4 a.changedAt.toNat ++ le 1 s.panelByte))))))))))))) := by
  simp only [State.reportMsg, State.reportContents, State.alertReport, h, alertBytes, optLe_eq, Source.bytes_eq,
    List.append_assoc]

theorem State.freeAlertBody {s : State} {n : AlertNo} (h : s.alert n = none) (act : AlertAction) (again : Bool) :
    (s.reportMsg (.alert n act again)).body =
    le 4 s.time.toNat ++ (le 1 n.val ++ (le 1 act.code ++ (le 1 (flagBits [again, false]) ++
      (le 21 0 ++ le 1 s.panelByte)))) := by
  simp only [State.reportMsg, State.reportContents, State.alertReport, h, replicate_zero, List.append_assoc]

theorem State.pressBody (s : State) (p : PressNo) : (s.reportMsg (.press p)).body =
    le 4 s.time.toNat ++ (le 1 p.val ++ (le 1 (s.press p).state.code ++
      (le 1 (flagBits [(s.press p).state.mediaWait, (s.press p).state.sleepPending, (s.press p).restart.isSome]) ++
      (le 1 ((s.press p).state.cause?.map (·.code)).isSome.toNat ++
      (le 1 (((s.press p).state.cause?.map (·.code)).getD 0) ++
      (le 1 ((s.press p).cover.map (·.toNat)).isSome.toNat ++ (le 1 (((s.press p).cover.map (·.toNat)).getD 0) ++
      (le 1 (((s.boundJob p).bind s.job).map (·.serial.toNat)).isSome.toNat ++
      (le 4 ((((s.boundJob p).bind s.job).map (·.serial.toNat)).getD 0) ++
      le 1 (s.press p).path.length))))))))) := by
  simp only [State.reportMsg, State.reportContents, State.pressContents, optLe_eq, List.append_assoc]

theorem State.startBody (s : State) : (s.reportMsg .start).body =
    le 4 s.time.toNat ++ (le 1 (s.cause.code s.lost) ++ (le 1 (!s.lost).toNat ++ le 1 s.rate)) := by
  simp only [State.reportMsg, State.reportContents, yesNo, List.append_assoc]

/-! ## The four reports -/

theorem State.beginReport_free {s : State} {r : Report} {rest : List Report} (hslot : s.slot = none)
    (htx : s.txReport = none) (hq : s.reports = r :: rest) :
    s.beginReport = { s with reports := rest, txReport := some { msg := s.reportMsg r, final := s.finalOf r } } := by
  simp only [State.beginReport, hslot, htx, hq]

theorem State.reportMsg_length (s : State) (r : Report) : (s.reportMsg r).body.length =
    match r with | .job _ => 38 | .alert _ _ _ => 29 | .press _ => 17 | .start => 7 := by
  cases r with
  | job e =>
    cases h : s.job e with
    | none => simp [State.reportMsg, State.reportContents, State.jobReport, h]
    | some j =>
      have fields : j.commitFields.length = 15 := by
        unfold Job.commitFields
        cases j.commit <;> simp [Job.cursorBytes_eq]
      simp [s.jobBody h, fields]
  | alert n act again =>
    cases h : s.alert n with
    | none => simp [s.freeAlertBody h]
    | some a => simp [s.alertBody h]
  | press p => simp [s.pressBody]
  | start => simp [s.startBody]

/-- The last byte of an ALERT REPORT is the panel byte (R157). -/
theorem State.alertReport_panel (s : State) (n : AlertNo) (act : AlertAction) (again : Bool) :
    byteAt (s.reportMsg (.alert n act again)).body 28 = BitVec.ofNat 8 s.panelByte := by
  cases h : s.alert n with
  | none => rw [s.freeAlertBody h]; simp only [byteAt_behind, Nat.reduceLeDiff, Nat.reduceSub]; rfl
  | some a => rw [s.alertBody h]; simp only [byteAt_behind, Nat.reduceLeDiff, Nat.reduceSub]; rfl

/-- Settles O15: each report's body written as a row of fields, and each field read behind those before it. -/
theorem reportBegins : Obligations.ReportBegins := by
  refine ⟨?_, ?_, ?_, ?_, ?_, ?_⟩
  · intro s r rest hrun hslot htx hq
    show whenRunning State.beginReport s = _
    rw [whenRunning, if_pos hrun, s.beginReport_free hslot htx hq]
    cases r with
    | job e =>
      refine congrArg (fun o => Host.Outcome.next { s with
        reports := rest, txReport := some { msg := s.reportMsg (.job e), final := o } }) ?_
      refine congrArg (Option.bind (s.job e)) (funext fun j => ?_)
      cases j.state <;> rfl
    | _ => rfl
  · intro s r
    refine ⟨rfl, ?_, carries_front _ _ _ _ |>.mpr rfl, ?_⟩
    · cases r <;> rfl
    · exact (s.reportMsg_length r).trans (by cases r <;> rfl)
  · intro s e j h b
    have hb : b = _ := s.jobBody h
    rw [hb]
    simp only [carries_behind, carries_front, Nat.reduceLeDiff, Nat.reduceSub, true_and]
    refine ⟨?_, ?_, ?_, ?_, ?_⟩
    · cases j.state <;> rfl
    · cases j.state <;> rfl
    · cases j.state with
      | finished o => cases o <;> rfl
      | _ => rfl
    · cases j.state <;> cases j.commit <;> rfl
    · cases hc : j.commit with
      | none =>
        intro i hlo hhi
        have zeros : j.commitFields = le 15 0 ++ [] := by simp [Job.commitFields, hc]
        rw [zeros]
        repeat rw [byteAt_behind (by omega)]
        exact byteAt_zeros [] (by omega)
      | some c =>
        simp only [Job.commitFields, hc, carries_behind, carries_front, Nat.reduceLeDiff, Nat.reduceSub, true_and]
        rw [Job.cursorBytes_eq]
        cases c.cursor with
        | none => exact (carries_front ..).mpr rfl
        | some n => exact ⟨(carries_front ..).mpr rfl, (carries_behind (by decide) ..).mpr ((carries_alone ..).mpr rfl)⟩
  · intro s n act again b lamp
    have panel : byteAt b 28 = _ := s.alertReport_panel n act again
    have bits := panel_bits (s.lamp 0) (s.lamp 1) (s.lamp 2) (s.lamp 3) s.buzzer
    obtain ⟨-, -, -, -, buzzer, small⟩ := bits
    rw [panel]
    have head : Carries b 4 1 n.val ∧ Carries b 5 1 act.code ∧
        Carries b 6 1 (flagBits [again, (s.alert n).isSome]) := by
      cases h : s.alert n with
      | none =>
        have hb : b = _ := s.freeAlertBody h act again
        rw [hb]
        simp [carries_behind, carries_front]
      | some a =>
        have hb : b = _ := s.alertBody h act again
        rw [hb]
        simp [carries_behind, carries_front]
    obtain ⟨number, action, flags⟩ := head
    refine ⟨number, ?_, ?_, ?_, fun k hk => ?_, ?_, small⟩
    · cases act <;> exact action
    · cases again <;> cases h : s.alert n <;> rw [h] at flags <;> exact flags
    · cases h : s.alert n with
      | none =>
        have hb : b = _ := s.freeAlertBody h act again
        intro i hlo hhi
        rw [hb]
        repeat rw [byteAt_behind (by omega)]
        exact byteAt_zeros _ (by omega)
      | some a =>
        have hb : b = _ := s.alertBody h act again
        rw [hb]
        simp only [carries_behind, carries_front, Nat.reduceLeDiff, Nat.reduceSub, true_and, and_true]
        refine ⟨?_, ?_, ?_, ?_, ?_⟩
        · cases a.kind <;> rfl
        · cases a.source <;> rfl
        · cases a.source <;> rfl
        · cases a.detail <;> rfl
        · cases a.state <;> rfl
    · rw [panelByte_lamp s k hk]
      exact State.lamp_iff
    · rw [State.panelByte, buzzer]
      exact State.buzzer_iff
  · intro s p b x
    have hb : b = _ := s.pressBody p
    rw [hb]
    simp only [carries_behind, carries_front, carries_alone, Nat.reduceLeDiff, Nat.reduceSub, true_and]
    refine ⟨?_, ?_, ?_, ?_, ?_, ?_, ?_, ?_⟩
    · cases x.state <;> rfl
    · cases x.restart <;> cases x.state with
      | busy m => cases m <;> rfl
      | idle w _ => cases w <;> rfl
      | _ => rfl
    · cases x.state <;> rfl
    · cases x.state with
      | halted c => cases c <;> rfl
      | _ => rfl
    · cases x.cover <;> rfl
    · cases h : x.cover with
      | none => rfl
      | some o => cases o <;> rfl
    · cases (s.boundJob p).bind s.job with
      | none => dsimp only; exact ⟨rfl, rfl⟩
      | some j => dsimp only; exact ⟨rfl, rfl⟩
    · rfl
  · intro s b
    have hb : b = _ := s.startBody
    rw [hb]
    simp only [carries_behind, carries_front, carries_alone, Nat.reduceLeDiff, Nat.reduceSub, and_true]
    refine ⟨?_, ?_⟩
    · cases s.cause <;> rfl
    · cases s.lost <;> rfl

end Sys2Proof.Machine
end

section
/-! PROOF. The requests that read: their figures, and that the oldest waiting job is the oldest (R9, R23, R101, R124, R144,
R146, R149, R160, R171). -/

namespace Sys2Proof.Machine

/-! ## The oldest waiting job -/

/-- What a search for the greatest key keeps: the best so far is of the list, and no entry seen has a greater key. -/
def BestOf (key : Entry → Nat) (seen : List Entry) : Option Entry → Prop
  | none => seen = []
  | some b => b ∈ seen ∧ ∀ d ∈ seen, key d ≤ key b

theorem pickMax_best (key : Entry → Nat) (l : List Entry) : BestOf key l (pickMax key l) := by
  unfold pickMax
  induction l using List.reverseRecOn with
  | nil => rfl
  | append_singleton l e ih =>
    rw [List.foldl_append, List.foldl_cons, List.foldl_nil]
    generalize l.foldl _ none = best at ih
    cases best with
    | none =>
      have none_seen : l = [] := ih
      simp [none_seen, BestOf]
    | some b =>
      obtain ⟨hb, hmax⟩ : b ∈ l ∧ ∀ d ∈ l, key d ≤ key b := ih
      dsimp only
      split
      case isTrue lt =>
        refine ⟨by simp, fun d hd => ?_⟩
        rcases List.mem_append.mp hd with hd | hd
        · exact (hmax d hd).trans lt.le
        · rw [List.mem_singleton.mp hd]
      case isFalse ge =>
        refine ⟨by simp [hb], fun d hd => ?_⟩
        rcases List.mem_append.mp hd with hd | hd
        · exact hmax d hd
        · rw [List.mem_singleton.mp hd]
          omega

theorem pickMax_eq_some {key : Entry → Nat} {l : List Entry} {e : Entry} (h : pickMax key l = some e) :
    e ∈ l ∧ ∀ d ∈ l, key d ≤ key e := by
  have best := pickMax_best key l
  rw [h] at best
  exact best

theorem pickMax_eq_none {key : Entry → Nat} {l : List Entry} (h : pickMax key l = none) : l = [] := by
  have best := pickMax_best key l
  rw [h] at best
  exact best

theorem State.mem_waiting {s : State} {a : AccountNo} {e : Entry} :
    e ∈ s.waiting a ↔ ∃ j, s.job e = some j ∧ j.account = a ∧ j.state = .creditWait := by
  simp [State.waiting, allEntries, Option.any_eq_true, Job.waitsOn, and_comm]

theorem State.oldestWaiting_some {s : State} {a : AccountNo} {e : Entry} (h : s.oldestWaiting a = some e) :
    ∃ i, s.job e = some i ∧ i.account = a ∧ i.state = .creditWait ∧
      ∀ d j, s.job d = some j → j.account = a → j.state = .creditWait → s.age j ≤ s.age i := by
  obtain ⟨mem, max⟩ := pickMax_eq_some h
  obtain ⟨i, hi, ha, hw⟩ := State.mem_waiting.mp mem
  refine ⟨i, hi, ha, hw, fun d j hj hja hjw => ?_⟩
  have key := max d (State.mem_waiting.mpr ⟨j, hj, hja, hjw⟩)
  simpa [State.ageAt, hi, hj] using key

theorem State.oldestWaiting_none {s : State} {a : AccountNo} (h : s.oldestWaiting a = none) (d : Entry) (j : Job)
    (hj : s.job d = some j) (ha : j.account = a) : j.state ≠ .creditWait := fun hw => by
  have mem := State.mem_waiting.mpr ⟨j, hj, ha, hw⟩
  have none_waits : s.waiting a = [] := pickMax_eq_none h
  rw [none_waits] at mem
  cases mem

/-! ## The figures of each read -/

/-- A read leaves the state, so that its answer alone is to be compared. -/
theorem answers {a b : List Byte} (h : a = b) (s : State) : (okWith a, s) = (okWith b, s) := by rw [h]

/-- Two rows of fields are the same when the first fields are and the rests are. -/
theorem append_eq {a b x y : List Byte} (h : a = x) (h' : b = y) : a ++ b = x ++ y := by rw [h, h']

/-- Two rows of fields are the same when the first two of one are the first of the other, and the rests are. -/
theorem append_pair {a b c x y : List Byte} (h : a ++ b = x) (h' : c = y) : a ++ (b ++ c) = x ++ y := by
  rw [← List.append_assoc, h, h']

/-- The oldest waiting job is live, so that its number and its serial are those of its record. -/
theorem State.oldestWaiting_bind (s : State) (a : AccountNo) {α : Type} (f : Entry × Job → α) :
    ((s.oldestWaiting a).bind fun e => (s.job e).map fun j => (e, j)).map f =
      (s.oldestWaiting a).bind fun e => (s.job e).map fun j => f (e, j) := by
  cases s.oldestWaiting a with
  | none => rfl
  | some e => cases h : s.job e <;> simp [h]

theorem State.oldestWaiting_number (s : State) (a : AccountNo) :
    ((s.oldestWaiting a).bind fun e => (s.job e).map fun j => (e, j)).map (fun w => w.1.val) =
      (s.oldestWaiting a).map (·.val) := by
  cases h : s.oldestWaiting a with
  | none => rfl
  | some e =>
    obtain ⟨j, hj, -⟩ := State.oldestWaiting_some h
    simp [hj]

/-- The waiting jobs of an account are its jobs in CREDIT_WAIT. -/
theorem State.waiting_length (s : State) (a : AccountNo) : (s.waiting a).length =
    s.countJobs a fun j => j.state == .creditWait := by
  unfold State.waiting State.countJobs Job.waitsOn
  simp only [Bool.and_comm]

/-- An ALERT REPORT is the part time, the entry's 24 bytes and the panel byte (spec/12.5). -/
theorem State.alertReport_split (s : State) (n : AlertNo) (act : AlertAction) (again : Bool) :
    ∃ entry : List Byte, entry.length = 24 ∧ (∀ a, s.alert n = some a → entry = alertBytes n a act again) ∧
      (s.reportMsg (.alert n act again)).body = le 4 s.time.toNat ++ (entry ++ le 1 s.panelByte) := by
  cases h : s.alert n with
  | none =>
    refine ⟨le 1 n.val ++ (le 1 act.code ++ (le 1 (flagBits [again, false]) ++ le 21 0)), by simp, by simp, ?_⟩
    simp only [s.freeAlertBody h, List.append_assoc]
  | some a =>
    refine ⟨alertBytes n a act again, ?_, fun b hb => by rw [Option.some.inj hb], ?_⟩
    · simp [alertBytes, optLe_eq, Source.bytes_eq]
    · simp only [State.reportMsg, State.reportContents, State.alertReport, h]

theorem State.alertReport_entry {s : State} {n : AlertNo} {a : Alert} (h : s.alert n = some a) (act : AlertAction)
    (again : Bool) : ((s.reportMsg (.alert n act again)).body.drop 4).take 24 = alertBytes n a act again := by
  obtain ⟨entry, length, is, body⟩ := s.alertReport_split n act again
  rw [body, List.drop_left' (length_le 4 _), List.take_left' length, is a h]

theorem State.alertReport_end (s : State) (n : AlertNo) (act : AlertAction) (again : Bool) :
    (s.reportMsg (.alert n act again)).body.drop 28 = le 1 s.panelByte := by
  obtain ⟨entry, length, -, body⟩ := s.alertReport_split n act again
  rw [body, ← List.append_assoc, List.drop_left' (by simp [length])]

/-- The rows of a press's meter, each by its number. -/
theorem State.meters_flatMap (s : State) (p : PressNo) (f : Meter → List Byte) :
    (s.ret.meters[p]).toList.flatMap f = (List.finRange 16).flatMap fun m => f (s.meter p m.val) := by
  have rows : (s.ret.meters[p]).toList = (List.finRange 16).map fun m => s.meter p m.val := by
    apply List.ext_getElem <;> simp [State.meter]
  rw [rows, List.flatMap_map]

/-- One byte spells a number below 256. -/
theorem le_one (n : Nat) : le 1 n = [BitVec.ofNat 8 n] := rfl

theorem le_one_toNat (b : Byte) : le 1 b.toNat = [b] := by simp [le_one]

/-- Settles O17: each read executed, its figures compared field after field. -/
theorem readsChangeNothing : Obligations.ReadsChangeNothing := by
  intro s tag hs
  refine ⟨?_, ?_, ?_, ?_, ?_, ?_, ?_, ?_, ?_, ?_, ?_⟩
  · intro h e j hn
    refine exec_free hs rfl ?_
    rw [performRequest, reqJobStatus, withJob_names hn]
    refine answers ?_ s
    unfold State.statusBytes Job.commitBytes
    simp only [List.append_assoc]
    iterate 6 refine append_eq rfl ?_
    refine append_pair ?_ ?_
    · cases j.runs <;> rfl
    iterate 2 refine append_eq rfl ?_
    refine append_eq ?_ ?_
    · simp only [Job.total, Job.perCopy]
      cases j.runs <;> rfl
    iterate 7 refine append_eq rfl ?_
    refine append_eq ?_ ?_
    · cases j.commit <;> rfl
    iterate 3 refine append_eq rfl ?_
    refine append_eq ?_ (append_eq ?_ (append_eq ?_ (append_eq ?_ ?_)))
    · cases j.commit with
      | none => rfl
      | some c =>
        rcases c with ⟨seq, gen, estimate, charged, filter, cursor⟩
        cases cursor <;> rfl
    all_goals cases j.state <;> rfl
  · intro a x count oldest estimate
    refine exec_free hs rfl ?_
    rw [performRequest, reqAccountRead, withAccount_val]
    refine answers ?_ s
    have hest : ((s.oldestWaiting a).bind fun e => (s.job e).bind fun j => j.commit.map (·.estimate)) = estimate := by
      simp only [estimate, oldest]
      cases s.oldestWaiting a with
      | none => rfl
      | some e => cases h : s.job e <;> simp [h]
    have hserial : ((s.oldestWaiting a).bind fun e => (s.job e).map fun j => j.serial.toNat) =
        oldest.map fun w => w.2.serial.toNat := (s.oldestWaiting_bind a fun w => w.2.serial.toNat).symm
    simp only [hest, hserial, s.waiting_length, ← s.oldestWaiting_number]
    rfl
  · intro a e h
    exact State.oldestWaiting_some h
  · intro a h
    exact State.oldestWaiting_none h
  · intro role hr t o
    refine exec_free hs rfl ?_
    have two : role = 0 ∨ role = 1 := by
      rcases Nat.le_one_iff_eq_zero_or_eq_one.mp hr with h | h
      · exact .inl (BitVec.eq_of_toNat_eq h)
      · exact .inr (BitVec.eq_of_toNat_eq h)
    rcases two with rfl | rfl
    · refine answers ?_ s
      simp [PriceTable.bytes, t, o, List.flatMap, List.append_assoc]
      rfl
    · refine answers ?_ s
      simp [PriceTable.bytes, t, o, List.flatMap, List.append_assoc]
      rfl
  · intro p hp r
    refine exec_free hs rfl ?_
    rw [performRequest, reqPressRead, withPress_ofNat, if_neg (by simp [hp])]
    refine answers ?_ s
    have body : (s.reportMsg (.press p)).body.drop 4 = s.pressContents p := rfl
    rw [body]
    simp only [PressRec.settingBytes, List.append_assoc]
    iterate 3 refine append_eq rfl ?_
    refine append_eq ?_ ?_
    · change capsBytes r.caps = _
      cases r.caps <;> rfl
    rfl
  · intro n f
    refine exec_free hs rfl ?_
    have hn := n.isLt
    have number : (BitVec.ofNat 8 n.val).toNat = n.val := by simp; omega
    have read : performRequest (.filterRead (BitVec.ofNat 8 n.val)) s = (okWith f.bytes, s) := by
      simp [performRequest, reqFilterRead, number, f]
    rw [read]
    refine answers ?_ s
    have account : le 1 f.account.toNat = [f.account] := le_one_toNat _
    have mask : le 1 f.mask.toNat = [f.mask] := le_one_toNat _
    simp only [Filter.bytes, account, mask, List.append_assoc]
    refine append_eq rfl (append_pair rfl (append_eq rfl (append_eq rfl (append_eq rfl ?_))))
    cases f.action <;> rfl
  · refine exec_free hs rfl ?_
    rw [performRequest, reqAlertList]
    refine answers ?_ s
    rw [← List.flatMap_def, State.alertReport_end]
    have ordinary : (ordinaryAlerts.filter fun n => (s.alert n).isSome) =
        (List.finRange 32).filter fun n => (s.alert n).isSome && n != 31 := by
      have below : ∀ n : AlertNo, decide (n.val < 31) = (n != 31) := by decide
      simp only [ordinaryAlerts, allAlerts, List.filter_filter, below]
    rw [ordinary]
    refine append_eq (append_eq (append_eq (append_eq ?_ rfl) rfl) rfl) rfl
    refine congrArg (List.flatMap · (List.finRange 32)) (funext fun n => ?_)
    cases h : s.alert n with
    | none => rfl
    | some a => rw [State.alertReport_entry h]; rfl
  · refine exec_free hs rfl ?_
    rw [performRequest, reqAlertLevels]
    refine answers ?_ s
    have single : s.ret.levels.toList.map (le 1) = s.ret.levels.toList.map fun n => [BitVec.ofNat 8 n] := rfl
    rw [Retained.levelBytes, single, ← List.flatMap_def, ← List.map_eq_flatMap]
    rfl
  · refine exec_free hs rfl ?_
    rw [performRequest, reqStatus, if_neg (by decide), if_neg (by decide)]
    refine answers ?_ s
    rw [State.figures, hs.intake]
    rfl
  · intro p hp
    refine exec_free hs rfl ?_
    rw [performRequest, reqMeterRead, withPress_ofNat, if_neg (by decide), if_neg (by simp [hp])]
    refine answers ?_ s
    rw [← List.flatMap_def]
    exact s.meters_flatMap p Meter.bytes

end Sys2Proof.Machine
end

section
/-! SUPPORT. One order for a chain of updates: what changes the spool, then the presses, then the jobs, then the retained
records, and last what makes a report pending. -/

namespace Sys2Proof.Machine

/-! ## Reports already pending -/

/-- A report that any report of its subject is the same as: of a job or a press (R170). -/
def Report.Plain (r : Report) : Prop := ∀ x, r.sameSubject x = true → x = r

@[simp] theorem Report.plain_job (e : Entry) : (Report.job e).Plain := by
  intro x h
  cases x <;> simp_all [Report.sameSubject]

@[simp] theorem Report.plain_press (p : PressNo) : (Report.press p).Plain := by
  intro x h
  cases x <;> simp_all [Report.sameSubject]

theorem Report.sameSubject_comm (r x : Report) : r.sameSubject x = x.sameSubject r := by
  cases r <;> cases x <;> simp [Report.sameSubject, Bool.beq_comm]

@[simp] theorem Report.sameSubject_self (r : Report) : r.sameSubject r = true := by
  cases r <;> simp [Report.sameSubject]

section Pending

variable {s : State} {r : Report}

/-- A report of a job or a press that is pending stays where it is (R170). -/
@[simp] theorem State.mark_of_pending (hr : r.Plain) (h : r ∈ s.reports) : s.mark r = s := by
  have same : (s.reports.map fun x => if r.sameSubject x then r else x) = s.reports := by
    refine List.map_id'' (fun x => ?_) _
    split
    · exact (hr x ‹_›).symm
    · rfl
  have any : s.reports.any r.sameSubject = true := List.any_eq_true.mpr ⟨r, h, r.sameSubject_self⟩
  rw [State.mark, if_pos any, same]

@[simp] theorem State.pending_mark_self (s : State) (r : Report) : r ∈ (s.mark r).reports := by
  unfold State.mark
  split
  case isTrue any =>
    obtain ⟨x, hx, same⟩ := List.any_eq_true.mp any
    exact List.mem_map.mpr ⟨x, hx, by simp [same]⟩
  case isFalse => simp

@[simp] theorem State.pending_mark (hr : r.Plain) (x : Report) (h : r ∈ s.reports) : r ∈ (s.mark x).reports := by
  unfold State.mark
  split
  · refine List.mem_map.mpr ⟨r, h, ?_⟩
    split
    case isTrue same => exact hr x (by rw [Report.sameSubject_comm]; exact same)
    case isFalse => rfl
  · simp [h]

theorem State.pending_setAlert (hr : r.Plain) (n : AlertNo) (a : Option Alert) (act : AlertAction) (b : Bool)
    (h : r ∈ s.reports) : r ∈ (s.setAlert n a act b).reports :=
  State.pending_mark (s := { s with alerts := s.alerts.set n a }) hr _ h

@[simp] theorem State.pending_raise (hr : r.Plain) (k : AlertKind) (src : Source) (d : Option Nat)
    (h : r ∈ s.reports) : r ∈ (s.raise k src d).reports := by
  unfold State.raise State.overflowRaise
  repeat' split
  all_goals first | exact h | exact State.pending_setAlert hr _ _ _ _ h

@[simp] theorem State.pending_endCondition (hr : r.Plain) (k : AlertKind) (src : Source)
    (h : r ∈ s.reports) : r ∈ (s.endCondition k src).reports := by
  unfold State.endCondition
  repeat' split
  all_goals first | exact h | exact State.pending_setAlert hr _ _ _ _ h

end Pending

/-! ## The spool, the presses and the jobs first -/

/-- Put a spool in the place of the present one. -/
def State.setSpool (sp : Spool) (s : State) : State := { s with spool := sp }

section SetSpool

variable (s : State) (sp : Spool)

@[simp] theorem State.setSpool_spool : (s.setSpool sp).spool = sp := rfl
@[simp] theorem State.setSpool_jobs : (s.setSpool sp).jobs = s.jobs := rfl
@[simp] theorem State.setSpool_presses : (s.setSpool sp).presses = s.presses := rfl
@[simp] theorem State.setSpool_ret : (s.setSpool sp).ret = s.ret := rfl
@[simp] theorem State.setSpool_reports : (s.setSpool sp).reports = s.reports := rfl
@[simp] theorem State.setSpool_low : (s.setSpool sp).low = s.low := rfl
@[simp] theorem State.setSpool_time : (s.setSpool sp).time = s.time := rfl
@[simp] theorem State.setSpool_agenda : (s.setSpool sp).agenda = s.agenda := rfl
@[simp] theorem State.setSpool_demand : (s.setSpool sp).demand = s.demand := rfl
@[simp] theorem State.job_setSpool (e : Entry) : (s.setSpool sp).job e = s.job e := rfl
@[simp] theorem State.press_setSpool (p : PressNo) : (s.setSpool sp).press p = s.press p := rfl
@[simp] theorem State.pressRec_setSpool (p : PressNo) : (s.setSpool sp).pressRec p = s.pressRec p := rfl
@[simp] theorem State.circuit_setSpool (c : CircuitNo) : (s.setSpool sp).circuit c = s.circuit c := rfl
@[simp] theorem State.account_setSpool (a : AccountNo) : (s.setSpool sp).account a = s.account a := rfl

end SetSpool

theorem beside_setSpool (sp : Spool) : Beside (State.setSpool sp) :=
  ⟨fun _ => ⟨rfl, rfl, rfl⟩, fun _ => rfl, fun _ _ _ => rfl⟩

theorem beside_modRec (p : PressNo) (f : PressRec → PressRec) : Beside (State.modRec p f) :=
  ⟨fun _ => ⟨rfl, rfl, rfl⟩, fun _ => rfl, fun _ _ _ => rfl⟩

section Order

variable (s : State) (p : PressNo) (e : Entry) (f g : Press → Press)

@[simp] theorem State.modPress_twice : (s.modPress p f).modPress p g = s.modPress p fun x => g (f x) :=
  s.modPress_modPress f g

@[simp] theorem State.modPress_setJob (j : Option Job) : (s.setJob e j).modPress p f = (s.modPress p f).setJob e j := rfl
@[simp] theorem State.modPress_modAccount (a : AccountNo) (k : Account → Account) :
    (s.modAccount a k).modPress p f = (s.modPress p f).modAccount a k := rfl
@[simp] theorem State.modPress_modMeter (q : PressNo) (m : Nat) (k : Meter → Meter) :
    (s.modMeter q m k).modPress p f = (s.modPress p f).modMeter q m k := rfl
@[simp] theorem State.modPress_modRec (q : PressNo) (k : PressRec → PressRec) :
    (s.modRec q k).modPress p f = (s.modPress p f).modRec q k := rfl
@[simp] theorem State.modPress_modCircuit (c : CircuitNo) (k : Circuit → Circuit) :
    (s.modCircuit c k).modPress p f = (s.modPress p f).modCircuit c k := rfl
@[simp] theorem State.setSpool_modPress (sp : Spool) :
    (s.modPress p f).setSpool sp = (s.setSpool sp).modPress p f := rfl

@[simp] theorem State.setJob_twice (i j : Option Job) : (s.setJob e i).setJob e j = s.setJob e j := by
  simp [State.setJob]
@[simp] theorem State.setJob_modAccount (j : Option Job) (a : AccountNo) (k : Account → Account) :
    (s.modAccount a k).setJob e j = (s.setJob e j).modAccount a k := rfl
@[simp] theorem State.setJob_modMeter (j : Option Job) (q : PressNo) (m : Nat) (k : Meter → Meter) :
    (s.modMeter q m k).setJob e j = (s.setJob e j).modMeter q m k := rfl
@[simp] theorem State.setJob_modRec (j : Option Job) (q : PressNo) (k : PressRec → PressRec) :
    (s.modRec q k).setJob e j = (s.setJob e j).modRec q k := rfl
@[simp] theorem State.setJob_modCircuit (j : Option Job) (c : CircuitNo) (k : Circuit → Circuit) :
    (s.modCircuit c k).setJob e j = (s.setJob e j).modCircuit c k := rfl
@[simp] theorem State.setSpool_setJob (sp : Spool) (j : Option Job) :
    (s.setJob e j).setSpool sp = (s.setSpool sp).setJob e j := rfl

@[simp] theorem State.modAccount_twice (a : AccountNo) (k l : Account → Account) :
    (s.modAccount a k).modAccount a l = s.modAccount a fun x => l (k x) := by
  simp [State.modAccount, State.account]
@[simp] theorem State.modAccount_modMeter (a : AccountNo) (k : Account → Account) (q : PressNo) (m : Nat)
    (l : Meter → Meter) : (s.modMeter q m l).modAccount a k = (s.modAccount a k).modMeter q m l := rfl
@[simp] theorem State.modAccount_modRec (a : AccountNo) (k : Account → Account) (q : PressNo) (l : PressRec → PressRec) :
    (s.modRec q l).modAccount a k = (s.modAccount a k).modRec q l := rfl
@[simp] theorem State.setSpool_modAccount (sp : Spool) (a : AccountNo) (k : Account → Account) :
    (s.modAccount a k).setSpool sp = (s.setSpool sp).modAccount a k := rfl
@[simp] theorem State.setSpool_modMeter (sp : Spool) (q : PressNo) (m : Nat) (k : Meter → Meter) :
    (s.modMeter q m k).setSpool sp = (s.setSpool sp).modMeter q m k := rfl
@[simp] theorem State.setSpool_modRec (sp : Spool) (q : PressNo) (k : PressRec → PressRec) :
    (s.modRec q k).setSpool sp = (s.setSpool sp).modRec q k := rfl
@[simp] theorem State.setSpool_twice (a b : Spool) : (s.setSpool a).setSpool b = s.setSpool b := rfl

/-- Changing a live job is writing it. -/
theorem State.modJob_live {s : State} {e : Entry} {j : Job} (h : s.job e = some j) (k : Job → Job) :
    s.modJob e k = s.setJob e (some (k j)) := by
  rw [State.modJob, h]
  rfl

/-- Two changes of a press that do the same to it are one. -/
theorem State.modPress_congr {s : State} {p : PressNo} {f g : Press → Press} (h : f (s.press p) = g (s.press p)) :
    s.modPress p f = s.modPress p g := by
  rw [State.modPress, h]
  rfl

end Order

/-! ## What makes a report pending last -/

section Reports

variable (s : State) (r : Report) (k : AlertKind) (src : Source) (d : Option Nat)

@[simp] theorem State.setSpool_mark (sp : Spool) : (s.mark r).setSpool sp = (s.setSpool sp).mark r := rfl
@[simp] theorem State.setSpool_raise (sp : Spool) : (s.raise k src d).setSpool sp = (s.setSpool sp).raise k src d :=
  ((beside_setSpool sp).raise s k src d).symm
@[simp] theorem State.setSpool_endCondition (sp : Spool) :
    (s.endCondition k src).setSpool sp = (s.setSpool sp).endCondition k src :=
  ((beside_setSpool sp).endCondition s k src).symm

@[simp] theorem State.modPress_mark (p : PressNo) (f : Press → Press) :
    (s.mark r).modPress p f = (s.modPress p f).mark r := rfl
@[simp] theorem State.modPress_raise (p : PressNo) (f : Press → Press) :
    (s.raise k src d).modPress p f = (s.modPress p f).raise k src d := ((beside_modPress p f).raise s k src d).symm
@[simp] theorem State.modPress_endCondition (p : PressNo) (f : Press → Press) :
    (s.endCondition k src).modPress p f = (s.modPress p f).endCondition k src :=
  ((beside_modPress p f).endCondition s k src).symm

@[simp] theorem State.setJob_mark (e : Entry) (j : Option Job) : (s.mark r).setJob e j = (s.setJob e j).mark r := rfl
@[simp] theorem State.setJob_raise (e : Entry) (j : Option Job) :
    (s.raise k src d).setJob e j = (s.setJob e j).raise k src d := ((beside_setJob e j).raise s k src d).symm
@[simp] theorem State.setJob_endCondition (e : Entry) (j : Option Job) :
    (s.endCondition k src).setJob e j = (s.setJob e j).endCondition k src :=
  ((beside_setJob e j).endCondition s k src).symm

@[simp] theorem State.modAccount_mark (a : AccountNo) (f : Account → Account) :
    (s.mark r).modAccount a f = (s.modAccount a f).mark r := rfl
@[simp] theorem State.modAccount_raise (a : AccountNo) (f : Account → Account) :
    (s.raise k src d).modAccount a f = (s.modAccount a f).raise k src d :=
  ((beside_modAccount a f).raise s k src d).symm
@[simp] theorem State.modAccount_endCondition (a : AccountNo) (f : Account → Account) :
    (s.endCondition k src).modAccount a f = (s.modAccount a f).endCondition k src :=
  ((beside_modAccount a f).endCondition s k src).symm

@[simp] theorem State.modMeter_mark (p : PressNo) (m : Nat) (f : Meter → Meter) :
    (s.mark r).modMeter p m f = (s.modMeter p m f).mark r := rfl
@[simp] theorem State.modMeter_raise (p : PressNo) (m : Nat) (f : Meter → Meter) :
    (s.raise k src d).modMeter p m f = (s.modMeter p m f).raise k src d :=
  ((beside_modMeter p m f).raise s k src d).symm
@[simp] theorem State.modMeter_endCondition (p : PressNo) (m : Nat) (f : Meter → Meter) :
    (s.endCondition k src).modMeter p m f = (s.modMeter p m f).endCondition k src :=
  ((beside_modMeter p m f).endCondition s k src).symm

@[simp] theorem State.modRec_mark (p : PressNo) (f : PressRec → PressRec) :
    (s.mark r).modRec p f = (s.modRec p f).mark r := rfl
@[simp] theorem State.modRec_raise (p : PressNo) (f : PressRec → PressRec) :
    (s.raise k src d).modRec p f = (s.modRec p f).raise k src d := ((beside_modRec p f).raise s k src d).symm
@[simp] theorem State.modRec_endCondition (p : PressNo) (f : PressRec → PressRec) :
    (s.endCondition k src).modRec p f = (s.modRec p f).endCondition k src :=
  ((beside_modRec p f).endCondition s k src).symm

@[simp] theorem State.modCircuit_mark (c : CircuitNo) (f : Circuit → Circuit) :
    (s.mark r).modCircuit c f = (s.modCircuit c f).mark r := rfl

end Reports

/-! ## Forgetting what a step has raised -/

/-- A state with nothing left to settle, all else as it was. -/
def State.calm (s : State) : State := { s with agenda := [], demand := false }

section Calm

variable (s : State)

theorem State.calm_quiet {s : State} (h : Quiet s) : s.calm = s := by
  obtain ⟨agenda, demand⟩ := h
  unfold State.calm
  rw [← agenda, ← demand]

theorem beside_calm : Beside State.calm := ⟨fun _ => ⟨rfl, rfl, rfl⟩, fun _ => rfl, fun _ _ _ => rfl⟩

@[simp] theorem State.calm_push (t : Task) : (s.push t).calm = s.calm := rfl
@[simp] theorem State.calm_wantDemand : s.wantDemand.calm = s.calm := rfl
@[simp] theorem State.calm_setSpool (sp : Spool) : (s.setSpool sp).calm = s.calm.setSpool sp := rfl
@[simp] theorem State.calm_setJob (e : Entry) (j : Option Job) : (s.setJob e j).calm = s.calm.setJob e j := rfl
@[simp] theorem State.calm_modPress (p : PressNo) (f : Press → Press) : (s.modPress p f).calm = s.calm.modPress p f := rfl
@[simp] theorem State.calm_modAccount (a : AccountNo) (f : Account → Account) :
    (s.modAccount a f).calm = s.calm.modAccount a f := rfl
@[simp] theorem State.calm_modMeter (p : PressNo) (m : Nat) (f : Meter → Meter) :
    (s.modMeter p m f).calm = s.calm.modMeter p m f := rfl
@[simp] theorem State.calm_modRec (p : PressNo) (f : PressRec → PressRec) : (s.modRec p f).calm = s.calm.modRec p f := rfl
@[simp] theorem State.calm_modCircuit (c : CircuitNo) (f : Circuit → Circuit) :
    (s.modCircuit c f).calm = s.calm.modCircuit c f := rfl
@[simp] theorem State.calm_mark (r : Report) : (s.mark r).calm = s.calm.mark r := rfl
@[simp] theorem State.calm_raise (k : AlertKind) (src : Source) (d : Option Nat) :
    (s.raise k src d).calm = s.calm.raise k src d := (beside_calm.raise s k src d).symm
@[simp] theorem State.calm_endCondition (k : AlertKind) (src : Source) :
    (s.endCondition k src).calm = s.calm.endCondition k src := (beside_calm.endCondition s k src).symm

end Calm

end Sys2Proof.Machine
end

section
/-! SUPPORT. Settling, piece by piece: what a step has raised comes outermost in a chain of updates, and is settled from the
front. -/

namespace Sys2Proof.Machine

/-! ## What a step raises, outermost -/

section Raised

variable (s : State) (t : Task)

@[simp] theorem State.setSpool_push (sp : Spool) : (s.push t).setSpool sp = (s.setSpool sp).push t := rfl
@[simp] theorem State.modPress_push (p : PressNo) (f : Press → Press) : (s.push t).modPress p f = (s.modPress p f).push t := rfl
@[simp] theorem State.setJob_push (e : Entry) (j : Option Job) : (s.push t).setJob e j = (s.setJob e j).push t := rfl
@[simp] theorem State.modAccount_push (a : AccountNo) (f : Account → Account) :
    (s.push t).modAccount a f = (s.modAccount a f).push t := rfl
@[simp] theorem State.modMeter_push (p : PressNo) (m : Nat) (f : Meter → Meter) :
    (s.push t).modMeter p m f = (s.modMeter p m f).push t := rfl
@[simp] theorem State.modRec_push (p : PressNo) (f : PressRec → PressRec) : (s.push t).modRec p f = (s.modRec p f).push t := rfl
@[simp] theorem State.modCircuit_push (c : CircuitNo) (f : Circuit → Circuit) :
    (s.push t).modCircuit c f = (s.modCircuit c f).push t := rfl
@[simp] theorem State.mark_push (r : Report) : (s.push t).mark r = (s.mark r).push t := rfl
@[simp] theorem State.raise_push (k : AlertKind) (src : Source) (d : Option Nat) :
    (s.push t).raise k src d = (s.raise k src d).push t := (beside_push t).raise s k src d
@[simp] theorem State.endCondition_push (k : AlertKind) (src : Source) :
    (s.push t).endCondition k src = (s.endCondition k src).push t := (beside_push t).endCondition s k src

@[simp] theorem State.wantDemand_push : (s.push t).wantDemand = s.wantDemand.push t := rfl
@[simp] theorem State.wantDemand_twice : s.wantDemand.wantDemand = s.wantDemand := rfl
@[simp] theorem State.setSpool_wantDemand (sp : Spool) : s.wantDemand.setSpool sp = (s.setSpool sp).wantDemand := rfl
@[simp] theorem State.modPress_wantDemand (p : PressNo) (f : Press → Press) :
    s.wantDemand.modPress p f = (s.modPress p f).wantDemand := rfl
@[simp] theorem State.setJob_wantDemand (e : Entry) (j : Option Job) : s.wantDemand.setJob e j = (s.setJob e j).wantDemand := rfl
@[simp] theorem State.modAccount_wantDemand (a : AccountNo) (f : Account → Account) :
    s.wantDemand.modAccount a f = (s.modAccount a f).wantDemand := rfl
@[simp] theorem State.modMeter_wantDemand (p : PressNo) (m : Nat) (f : Meter → Meter) :
    s.wantDemand.modMeter p m f = (s.modMeter p m f).wantDemand := rfl
@[simp] theorem State.modRec_wantDemand (p : PressNo) (f : PressRec → PressRec) :
    s.wantDemand.modRec p f = (s.modRec p f).wantDemand := rfl
@[simp] theorem State.modCircuit_wantDemand (c : CircuitNo) (f : Circuit → Circuit) :
    s.wantDemand.modCircuit c f = (s.modCircuit c f).wantDemand := rfl
@[simp] theorem State.mark_wantDemand (r : Report) : s.wantDemand.mark r = (s.mark r).wantDemand := rfl
@[simp] theorem State.raise_wantDemand (k : AlertKind) (src : Source) (d : Option Nat) :
    s.wantDemand.raise k src d = (s.raise k src d).wantDemand := beside_wantDemand.raise s k src d
@[simp] theorem State.endCondition_wantDemand (k : AlertKind) (src : Source) :
    s.wantDemand.endCondition k src = (s.endCondition k src).wantDemand := beside_wantDemand.endCondition s k src

end Raised

/-! ## Quiet, still and idle states through a chain of updates -/

section Through

variable (s : State)

@[simp] theorem quiet_setSpool (sp : Spool) : Quiet (s.setSpool sp) ↔ Quiet s := Iff.rfl
@[simp] theorem quiet_modPress (p : PressNo) (f : Press → Press) : Quiet (s.modPress p f) ↔ Quiet s := Iff.rfl
@[simp] theorem quiet_setJob (e : Entry) (j : Option Job) : Quiet (s.setJob e j) ↔ Quiet s := Iff.rfl
@[simp] theorem quiet_modAccount (a : AccountNo) (f : Account → Account) : Quiet (s.modAccount a f) ↔ Quiet s := Iff.rfl
@[simp] theorem quiet_modMeter (p : PressNo) (m : Nat) (f : Meter → Meter) : Quiet (s.modMeter p m f) ↔ Quiet s := Iff.rfl
@[simp] theorem quiet_modRec (p : PressNo) (f : PressRec → PressRec) : Quiet (s.modRec p f) ↔ Quiet s := Iff.rfl
@[simp] theorem quiet_modCircuit (c : CircuitNo) (f : Circuit → Circuit) : Quiet (s.modCircuit c f) ↔ Quiet s := Iff.rfl
@[simp] theorem quiet_mark (r : Report) : Quiet (s.mark r) ↔ Quiet s := Iff.rfl
@[simp] theorem quiet_raise (k : AlertKind) (src : Source) (d : Option Nat) : Quiet (s.raise k src d) ↔ Quiet s := by
  simp [Quiet]
@[simp] theorem quiet_endCondition (k : AlertKind) (src : Source) : Quiet (s.endCondition k src) ↔ Quiet s := by
  simp [Quiet]

@[simp] theorem still_setSpool (sp : Spool) : Still (s.setSpool sp) ↔ Still s := Iff.rfl
@[simp] theorem still_setJob (e : Entry) (j : Option Job) : Still (s.setJob e j) ↔ Still s := Iff.rfl
@[simp] theorem still_modAccount (a : AccountNo) (f : Account → Account) : Still (s.modAccount a f) ↔ Still s := Iff.rfl
@[simp] theorem still_modMeter (p : PressNo) (m : Nat) (f : Meter → Meter) : Still (s.modMeter p m f) ↔ Still s := Iff.rfl
@[simp] theorem still_modRec (p : PressNo) (f : PressRec → PressRec) : Still (s.modRec p f) ↔ Still s := Iff.rfl
@[simp] theorem still_modCircuit (c : CircuitNo) (f : Circuit → Circuit) : Still (s.modCircuit c f) ↔ Still s := Iff.rfl
@[simp] theorem still_mark (r : Report) : Still (s.mark r) ↔ Still s := Iff.rfl
@[simp] theorem still_push (t : Task) : Still (s.push t) ↔ Still s := Iff.rfl
@[simp] theorem still_wantDemand : Still s.wantDemand ↔ Still s := Iff.rfl
@[simp] theorem still_raise (k : AlertKind) (src : Source) (d : Option Nat) : Still (s.raise k src d) ↔ Still s := by
  simp [Still]
@[simp] theorem still_endCondition (k : AlertKind) (src : Source) : Still (s.endCondition k src) ↔ Still s := by
  simp [Still]

/-- A press that stays out of IDLE, ASLEEP and WAKE_WAIT leaves a still state still. -/
theorem Still.modPress {s : State} (h : Still s) (p : PressNo) {f : Press → Press}
    (hf : (f (s.press p)).state.isIdle = false ∧ (f (s.press p)).state ≠ .asleep ∧
      ∀ o, (f (s.press p)).state ≠ .wakeWait o) : Still (s.modPress p f) := by
  intro q
  rw [State.press_modPress]
  split
  · exact hf
  · exact h q

@[simp] theorem noWork_mark (r : Report) : NoWork (s.mark r) ↔ NoWork s := ⟨fun h => ⟨h.free, h.nobody⟩, fun h => ⟨h.free, h.nobody⟩⟩
@[simp] theorem noWork_push (t : Task) : NoWork (s.push t) ↔ NoWork s := ⟨fun h => ⟨h.free, h.nobody⟩, fun h => ⟨h.free, h.nobody⟩⟩
@[simp] theorem noWork_wantDemand : NoWork s.wantDemand ↔ NoWork s := ⟨fun h => ⟨h.free, h.nobody⟩, fun h => ⟨h.free, h.nobody⟩⟩
@[simp] theorem noWork_modMeter (p : PressNo) (m : Nat) (f : Meter → Meter) : NoWork (s.modMeter p m f) ↔ NoWork s :=
  ⟨fun h => ⟨h.free, h.nobody⟩, fun h => ⟨h.free, h.nobody⟩⟩
@[simp] theorem noWork_modRec (p : PressNo) (f : PressRec → PressRec) : NoWork (s.modRec p f) ↔ NoWork s :=
  ⟨fun h => ⟨h.free, h.nobody⟩, fun h => ⟨h.free, h.nobody⟩⟩
@[simp] theorem noWork_raise (k : AlertKind) (src : Source) (d : Option Nat) : NoWork (s.raise k src d) ↔ NoWork s :=
  ⟨fun h => ⟨by simpa using h.free, by simpa using h.nobody⟩, fun h => ⟨by simpa using h.free, by simpa using h.nobody⟩⟩
@[simp] theorem noWork_endCondition (k : AlertKind) (src : Source) : NoWork (s.endCondition k src) ↔ NoWork s :=
  ⟨fun h => ⟨by simpa using h.free, by simpa using h.nobody⟩, fun h => ⟨by simpa using h.free, by simpa using h.nobody⟩⟩

/-- A press that does not come to wait on demand leaves a part with no work without work. -/
theorem NoWork.modPress {s : State} (h : NoWork s) (p : PressNo) {f : Press → Press}
    (hf : (f (s.press p)).state ≠ .wakeWait .demand) : NoWork (s.modPress p f) := by
  refine ⟨h.free, fun q => ?_⟩
  rw [State.press_modPress]
  split
  · exact hf
  · exact h.nobody q

@[simp] theorem State.boundJob_setSpool (q : PressNo) (sp : Spool) : (s.setSpool sp).boundJob q = s.boundJob q := rfl
@[simp] theorem State.boundJob_modPress (q p : PressNo) (f : Press → Press) : (s.modPress p f).boundJob q = s.boundJob q := rfl
@[simp] theorem State.boundJob_modAccount (q : PressNo) (a : AccountNo) (f : Account → Account) :
    (s.modAccount a f).boundJob q = s.boundJob q := rfl
@[simp] theorem State.boundJob_modMeter (q p : PressNo) (m : Nat) (f : Meter → Meter) :
    (s.modMeter p m f).boundJob q = s.boundJob q := rfl
@[simp] theorem State.boundJob_modRec (q p : PressNo) (f : PressRec → PressRec) :
    (s.modRec p f).boundJob q = s.boundJob q := rfl
@[simp] theorem State.boundJob_modCircuit (q : PressNo) (c : CircuitNo) (f : Circuit → Circuit) :
    (s.modCircuit c f).boundJob q = s.boundJob q := rfl
@[simp] theorem State.boundJob_mark (q : PressNo) (r : Report) : (s.mark r).boundJob q = s.boundJob q := rfl
@[simp] theorem State.boundJob_push (q : PressNo) (t : Task) : (s.push t).boundJob q = s.boundJob q := rfl
@[simp] theorem State.boundJob_wantDemand (q : PressNo) : s.wantDemand.boundJob q = s.boundJob q := rfl
@[simp] theorem State.boundJob_raise (q : PressNo) (k : AlertKind) (src : Source) (d : Option Nat) :
    (s.raise k src d).boundJob q = s.boundJob q := by simp [State.boundJob]
@[simp] theorem State.boundJob_endCondition (q : PressNo) (k : AlertKind) (src : Source) :
    (s.endCondition k src).boundJob q = s.boundJob q := by simp [State.boundJob]

/-- A job that is written and stays bound to its press stays the job bound to it (R1). -/
theorem State.boundJob_setJob {s : State} {p : PressNo} {e : Entry} {j : Job} (h : s.boundJob p = some e)
    (hj : j.state.bound = some p) : (s.setJob e (some j)).boundJob p = some e := by
  obtain ⟨-, first⟩ := State.boundJob_eq_some_iff.mp h
  refine State.boundJob_eq_some_iff.mpr ⟨⟨j, by simp, hj⟩, fun d hd i hi => first d hd i ?_⟩
  rwa [State.job_setJob, if_neg (ne_of_gt hd)] at hi

end Through

/-! ## Settling from the front -/

/-- Settling with work for at least `k` pieces takes one state to another. -/
def Settles (k : Nat) (s t : State) : Prop := ∀ n, k ≤ n → s.settleLoop n = t

namespace Settles

variable {s t u : State} {k : Nat}

theorem settle (h : Settles k s t) (hk : k ≤ 2048) : s.settle = t := h 2048 hk

theorem quiet (h : Quiet s) : Settles 1 s s := by
  intro n hn
  obtain ⟨m, rfl⟩ : ∃ m, n = m + 1 := ⟨n - 1, by omega⟩
  exact State.settleLoop_nil m h

/-- The only piece of work is done, and what it raises is settled. -/
theorem task {w : Task} (ha : s.agenda = []) (hd : (s.push w).demandNext = false)
    (h : Settles k (s.perform w) t) : Settles (k + 1) (s.push w) t := by
  intro n hn
  obtain ⟨m, rfl⟩ : ∃ m, n = m + 1 := ⟨n - 1, by omega⟩
  have front : (s.push w).agenda = [w] := by simp [State.push, ha]
  have rest : ({ s.push w with agenda := [] } : State) = s := by rw [← ha]; rfl
  have first : (s.perform w).newFirst 0 = s.perform w := by simp [State.newFirst]
  rw [State.settleLoop_cons m front hd, rest, List.length_nil, first]
  exact h m (by omega)

/-- An examination raised is made before wake demand is evaluated (R75). -/
theorem examine (ha : s.agenda = []) {p : PressNo} (h : Settles k (s.examine p) t) :
    Settles (k + 1) (s.push (.examine p)) t :=
  task ha (by simp [State.demandNext, State.push, ha, Task.isDecision]) h

/-- Wake demand that is asked for with nothing else to do is evaluated. -/
theorem demand (hq : Quiet s) (h : Settles k s.evalDemand t) : Settles (k + 1) s.wantDemand t := by
  intro n hn
  obtain ⟨m, rfl⟩ : ∃ m, n = m + 1 := ⟨n - 1, by omega⟩
  have off : ({ s.wantDemand with demand := false } : State) = s := by rw [← hq.2]; rfl
  rw [State.settleLoop_demand m (by simp [State.demandNext, State.wantDemand, hq.1]), off]
  exact h m (by omega)

/-- Wake demand is evaluated before a decision that has been raised with it (R75). -/
theorem demand_decision (hq : Quiet s) {w : Task} (hw : w.isDecision = true)
    (h : Settles k (s.push w).evalDemand t) : Settles (k + 1) (s.wantDemand.push w) t := by
  intro n hn
  obtain ⟨m, rfl⟩ : ∃ m, n = m + 1 := ⟨n - 1, by omega⟩
  have off : ({ s.wantDemand.push w with demand := false } : State) = s.push w := by
    have := hq.2
    cases s
    simp_all [State.push, State.wantDemand]
  rw [State.settleLoop_demand m (by simp [State.demandNext, State.wantDemand, State.push, hq.1, hw]), off]
  exact h m (by omega)

/-- Wake demand asks for nothing while no press is IDLE, ASLEEP or waiting. -/
theorem demand_still (hq : Quiet s) (h : Still s) : Settles 2 s.wantDemand s :=
  demand hq (by rw [State.evalDemand_still h]; exact quiet hq)

/-- Wake demand asks for nothing when there is no work. -/
theorem demand_noWork (hq : Quiet s) (h : NoWork s) : Settles 2 s.wantDemand s :=
  demand hq (by rw [State.evalDemand_noWork h]; exact quiet hq)

/-- A job's decision is forgotten with the wake demand raised with it while no press is IDLE, ASLEEP or waiting. -/
theorem decideJob_still (hq : Quiet s) (h : Still s) (e : Entry) : Settles 4 (s.wantDemand.push (.decideJob e)) s := by
  intro n hn
  have agenda : (s.wantDemand.push (.decideJob e)).agenda = [.decideJob e] := by simp [State.push, hq.1]
  have forgotten := State.settleLoop_stillJobs [.decideJob e] n _ agenda (by simp) (by simpa using h) (by simpa using hn)
  rw [forgotten]
  exact State.calm_quiet hq

/-- A press's decision is forgotten with the wake demand raised with it when there is no work. -/
theorem decidePress_noWork (hq : Quiet s) (h : NoWork s) (p : PressNo) :
    Settles 3 (s.wantDemand.push (.decidePress p)) s := by
  refine demand_decision hq rfl ?_
  have work : NoWork (s.push (.decidePress p)) := by simpa using h
  rw [State.evalDemand_noWork work]
  refine task hq.1 (by simp [State.demandNext, State.push, hq.2]) ?_
  show Settles 1 (s.decidePress p) s
  rw [State.decidePress_noJobs h.free]
  exact quiet hq

end Settles

end Sys2Proof.Machine
end

section
/-! PROOF. Reports that become pending, and the end of a report (R22, R158, R169, R170). -/

namespace Sys2Proof.Machine

/-- That an entry is FREE is kept by every small change inside the part. -/
theorem freeEntry_local (e : Entry) : Local fun s => s.job e = none where
  press _ _ _ h := h
  record _ _ _ _ h := h
  circuit _ _ _ h := h
  meter _ _ _ _ h := h
  account _ _ _ _ _ h := h
  job d f s _ h := by
    rw [State.job_modJob]
    split
    · subst_vars
      rw [h]
      rfl
    · exact h
  write d j j' s hj _ _ h := by
    rw [State.job_setJob]
    split
    · subst_vars
      exact absurd hj (by simp [h])
    · exact h
  report _ _ h := h
  raise k src d s _ h := (s.job_raise k src d e).trans h
  ended k src s h := (s.job_endCondition k src e).trans h
  spool _ _ _ h := h
  sticky _ _ h := h
  agenda _ _ h := h
  demand _ _ h := h

/-- A report whose subject is not pending goes to the tail (R170). -/
theorem State.mark_tail {s : State} {r : Report} (h : ∀ x ∈ s.reports, r.sameSubject x = false) :
    s.mark r = { s with reports := s.reports ++ [r] } := by
  have any : s.reports.any r.sameSubject = false := List.any_eq_false.mpr fun x hx => by simp [h x hx]
  simp [State.mark, any]

/-- A report takes the place of the one of its subject that is pending (R170). -/
theorem State.mark_place {s : State} {r x : Report} {before after : List Report} (hr : s.reports = before ++ x :: after)
    (hx : r.sameSubject x = true) (h : ∀ y ∈ before ++ after, r.sameSubject y = false) :
    s.mark r = { s with reports := before ++ r :: after } := by
  have any : s.reports.any r.sameSubject = true := List.any_eq_true.mpr ⟨x, by simp [hr], hx⟩
  have others : ∀ l : List Report, (∀ y ∈ l, r.sameSubject y = false) →
      (l.map fun y => if r.sameSubject y then r else y) = l := fun l hl =>
    (List.map_congr_left fun y hy => if_neg (by simp [hl y hy])).trans (List.map_id' l)
  rw [State.mark, if_pos any, hr, List.map_append, List.map_cons, if_pos hx,
    others before fun y hy => h y (by simp [hy]), others after fun y hy => h y (by simp [hy])]

/-- The end of a final report frees the entry, while its job is there (R22). -/
theorem State.endReport_final {s : State} {x : TxReport} {e : Entry} {n : Serial} {j : Job} (hx : s.txReport = some x)
    (hf : x.final = some (e, n)) (hj : s.job e = some j) (hn : j.serial = n) (ho : ∃ o, j.state = .finished o) :
    s.endReport = (((({ s with txReport := none } : State).setJob e none).endCondition .jobStarved (.job n)).endCondition
      .creditWait (.job n)).wantDemand.settle := by
  obtain ⟨o, ho⟩ := ho
  have live : ({ s with txReport := none } : State).job e = some j := hj
  simp only [State.endReport, hx, hf, State.freeEntry, live, hn, ho, JobState.outcome?, Option.isSome_some,
    decide_true, Bool.and_self, if_true]

/-- Settles O16: the queue's list before and after, and a freed entry stays free while the step settles. -/
theorem reportTransmitted : Obligations.ReportTransmitted := by
  refine ⟨?_, fun s x hrun hq hx => ⟨fun hf => ?_, fun e n j hf hj hn ho => ?_⟩⟩
  · intro s r same
    have subject : ∀ x, same x ↔ r.sameSubject x = true := by
      intro x
      cases r <;> cases x <;> simp [same, Report.sameSubject]
    have not_subject : ∀ x, ¬ same x ↔ r.sameSubject x = false := fun x => by rw [subject, Bool.not_eq_true]
    refine ⟨fun h => State.mark_tail fun x hx => (not_subject x).mp (h x hx), fun before x after hr hs h => ?_⟩
    exact State.mark_place hr ((subject x).mp hs) fun y hy => (not_subject y).mp (h y hy)
  · show whenRunning State.endReport s = _
    rw [whenRunning, if_pos hrun]
    simp only [State.endReport, hx, hf]
  · have ended := State.endReport_final hx hf hj hn ho
    have run : exec .reportTransmitted s = .next s.endReport := by
      show whenRunning State.endReport s = _
      rw [whenRunning, if_pos hrun]
    rw [run, ended]
    refine ⟨⟨_, rfl, ?_, ?_⟩, fun hs => congrArg Host.Outcome.next ?_⟩
    · exact (freeEntry_local e).settle (by simp)
    · simp
      rfl
    · have quiet : Quiet ({ s with txReport := none } : State) := hq
      have still : Still ({ s with txReport := none } : State) := hs
      exact (Settles.demand_still (by simpa using quiet) (by simpa using still)).settle (by decide)

end Sys2Proof.Machine
end

section
/-! SUPPORT. The operations of presses and jobs in a state that is known: each as the chain of updates it makes. -/

namespace Sys2Proof.Machine

/-! ## Entering and leaving press states (R91) -/

section Presses

variable {s : State} {p : PressNo} {e : Entry} {j : Job} {now : Option Nat}

theorem State.putState_eq (s : State) (p : PressNo) (st : PressState) : s.putState p st =
    ((s.modPress p fun x => { x with state := st }).mark (.press p)).wantDemand := rfl

theorem State.mediaWaitEnded_none (s : State) (p : PressNo) : s.mediaWaitEnded p none = s := rfl

theorem State.mediaWaitEnded_some (s : State) (p : PressNo) (m : Nat) : s.mediaWaitEnded p (some m) =
    ((s.modPress p fun x => { x with state := .busy none }).mark (.press p)).endCondition .mediaOut (.press p) := rfl

/-- Media wait ends on a BUSY press as it ends (R51). -/
theorem State.endMediaWait_busy (h : (s.press p).state = .busy now) : s.endMediaWait p = s.mediaWaitEnded p now := by
  unfold State.endMediaWait
  cases now <;> simp [h, State.mediaWaitEnded_none, State.mediaWaitEnded_some]

theorem State.leave_other (h : ∀ m, (s.press p).state ≠ .busy m) : s.leave p = s := by
  unfold State.leave
  split
  case h_1 m busy => exact absurd busy (h _)
  case h_2 => rfl

theorem State.enter_other (h : ∀ m, (s.press p).state ≠ .busy m) (st : PressState) : s.enter p st = s.putState p st := by
  rw [State.enter, State.leave_other h]

@[simp] theorem State.job_mediaWaitEnded (d : Entry) : (s.mediaWaitEnded p now).job d = s.job d := by
  cases now <;> simp [State.mediaWaitEnded_none, State.mediaWaitEnded_some]

@[simp] theorem State.boundJob_mediaWaitEnded (q : PressNo) : (s.mediaWaitEnded p now).boundJob q = s.boundJob q := by
  cases now <;> simp [State.mediaWaitEnded_none, State.mediaWaitEnded_some]

@[simp] theorem State.quiet_mediaWaitEnded : Quiet (s.mediaWaitEnded p now) ↔ Quiet s := by
  cases now <;> simp [State.mediaWaitEnded_none, State.mediaWaitEnded_some]

theorem Still.mediaWaitEnded (h : Still s) : Still (s.mediaWaitEnded p now) := by
  cases now with
  | none => exact h
  | some m =>
    rw [State.mediaWaitEnded_some, still_endCondition, still_mark]
    exact h.modPress p (by simp [PressState.isIdle])

/-- Leaving BUSY ends media wait and stops the starve timer of the job bound (R50, R51). -/
theorem State.leave_busy (h : (s.press p).state = .busy now) (hb : s.boundJob p = some e) (hj : s.job e = some j) :
    s.leave p = (s.mediaWaitEnded p now).setJob e (some { j with starve := none }) := by
  have left : s.leave p = (s.endMediaWait p).stopStarve p := by
    unfold State.leave
    simp only [h]
  rw [left, State.endMediaWait_busy h, State.stopStarve, State.boundJob_mediaWaitEnded, hb]
  exact State.modJob_live (by rw [State.job_mediaWaitEnded, hj]) _

/-- Leaving BUSY with no job bound ends media wait alone (R51). -/
theorem State.leave_unbound (h : (s.press p).state = .busy now) (hb : s.boundJob p = none) :
    s.leave p = s.mediaWaitEnded p now := by
  have left : s.leave p = (s.endMediaWait p).stopStarve p := by
    unfold State.leave
    simp only [h]
  rw [left, State.endMediaWait_busy h, State.stopStarve, State.boundJob_mediaWaitEnded, hb]

theorem State.releasePress_other (h : ∀ m, (s.press p).state ≠ .busy m) : s.releasePress p = s := by
  unfold State.releasePress
  split
  case h_1 m busy => exact absurd busy (h _)
  case h_2 => rfl

theorem State.releasePress_busy (h : (s.press p).state = .busy now) : s.releasePress p = s.enterIdle p := by
  unfold State.releasePress
  simp only [h]

/-- A press whose cover is not OPEN enters IDLE and comes to its decision (R66, R91). -/
theorem State.enterIdle_closed (h : (s.press p).cover ≠ some true) :
    s.enterIdle p = (s.enter p (.idle false 0)).push (.decidePress p) := by
  rw [State.enterIdle, if_neg h]

theorem State.enterIdle_open (h : (s.press p).cover = some true) : s.enterIdle p = s.enter p (.halted .cover) := by
  rw [State.enterIdle, if_pos h]

theorem State.enterBusy_closed (h : (s.press p).cover ≠ some true) :
    s.enterBusy p = (s.enter p (.busy none)).push (.examine p) := by
  rw [State.enterBusy, if_neg h]

end Presses

/-! ## Moves of a live job (R22) -/

section Jobs

variable {s : State} {p : PressNo} {e : Entry} {j : Job}

theorem State.moveJob_live (h : s.job e = some j) (st : JobState) : s.moveJob e st =
    ((s.setJob e (some { j with state := st, starve := none })).mark (.job e)).wantDemand := by
  rw [State.moveJob, State.modJob_live h]

theorem State.enterQueued_live (h : s.job e = some j) : s.enterQueued e =
    (((s.setJob e (some { j with state := .queued s.time, starve := none })).mark (.job e)).wantDemand).push
      (.decideJob e) := by
  rw [State.enterQueued, State.moveJob_live h]

/-- A drain begun with sheets in the path goes on (R19). -/
theorem State.startDrain_path {now : Option Nat} (hb : (s.press p).state = .busy now) (hp : (s.press p).path ≠ [])
    (h : s.job e = some j) (t : DrainTarget) : s.startDrain p e t =
      (((s.mediaWaitEnded p now).setJob e (some { j with state := .draining p t, starve := none })).mark
        (.job e)).wantDemand := by
  have path : ((s.mediaWaitEnded p now).press p).path.isEmpty = false := by
    cases now <;> simp [State.mediaWaitEnded_none, State.mediaWaitEnded_some, hp]
  rw [State.startDrain, State.endMediaWait_busy hb, State.moveJob_live ((s.job_mediaWaitEnded e).trans h)]
  simp [State.endDrainIfEmpty, path]

/-- A drain begun on an empty path ends as it begins: the job takes its target, and the press is released (R19). -/
theorem State.startDrain_empty (hb : ∀ m, (s.press p).state = .busy m → m = none) (hp : (s.press p).path = [])
    (h : s.job e = some j) (t : DrainTarget) : s.startDrain p e t =
      (((((s.setJob e (some { j with state := .draining p t, starve := none })).mark (.job e)).wantDemand).takeTarget e
        t).releasePress p) := by
  have wait : s.endMediaWait p = s := by
    unfold State.endMediaWait
    split
    case h_1 m busy => exact absurd (hb _ busy) (by simp)
    case h_2 => rfl
  rw [State.startDrain, wait, State.moveJob_live h]
  simp [State.endDrainIfEmpty, hp]

end Jobs

end Sys2Proof.Machine
end

section
/-! PROOF. The wake, calibration and starve time-outs (R17, R50, R92, R98, R115). -/

namespace Sys2Proof.Machine

/-- Wake demand asks for nothing when there is no work, or no press is IDLE, ASLEEP or waiting. -/
theorem Settles.demand_either {s : State} (hq : Quiet s) (h : NoWork s ∨ Still s) : Settles 2 s.wantDemand s :=
  h.elim (Settles.demand_noWork hq) (Settles.demand_still hq)

/-- A state other than IDLE, ASLEEP and WAKE_WAIT, entered by a press, leaves a part with no work, or still, so. -/
theorem State.either_modPress {s : State} (h : NoWork s ∨ Still s) (p : PressNo) {f : Press → Press}
    (hf : (f (s.press p)).state.isIdle = false ∧ (f (s.press p)).state ≠ .asleep ∧
      ∀ o, (f (s.press p)).state ≠ .wakeWait o) : NoWork (s.modPress p f) ∨ Still (s.modPress p f) := by
  have ⟨_, _, waits⟩ := hf
  exact h.imp (fun w => w.modPress p (waits .demand)) (fun w => w.modPress p hf)

/-- A path of service sheets is lost with nothing but the press touched (R61). -/
theorem State.losePath_service {s : State} {p : PressNo} (h : ∀ x ∈ (s.press p).path, x.job = none) :
    s.losePath p = s.modPress p lostPath := by
  unfold State.losePath
  cases hp : (s.press p).path with
  | nil => rfl
  | cons x rest =>
    have service : x.job = none := h x (by simp [hp])
    simp only [service]
    rfl

/-- Settles O51: each expiry as the chain of updates it makes, and the wake demand it raises forgotten. -/
theorem timeOuts : Obligations.TimeOuts := by
  intro s hrun hq
  refine ⟨fun p n hs hst hn => ?_, fun p run n hs hst hn hpath => ?_,
    fun e j p t hs hj hst hstarve ht now hbusy hpath => ?_⟩
  · have due : s.wakeDue p = true := by simpa [State.wakeDue, hst, Config.wakeMs] using hn
    show whenRunning (State.failWake p) s = _
    rw [whenRunning, if_pos hrun, State.failWake, if_pos due, State.enter_other (by simp [hst]), State.putState_eq,
      State.raise_wantDemand]
    refine congrArg Host.Outcome.next ((Settles.demand_either (by simpa using hq) ?_).settle (by decide))
    simpa using State.either_modPress hs p (by simp [PressState.isIdle])
  · have due : s.calibrationDue p = true := by simpa [State.calibrationDue, hst, Config.calibrationMs] using hn
    show whenRunning (State.failCalibration p) s = _
    rw [whenRunning, if_pos hrun, State.failCalibration, if_pos due, State.failRun, State.losePath_service hpath,
      State.enter_other (by simp [lostPath, hst]), State.putState_eq, State.raise_wantDemand, State.modPress_twice]
    refine congrArg Host.Outcome.next ((Settles.demand_either (by simpa using hq) ?_).settle (by decide))
    simpa using State.either_modPress hs p (by simp [PressState.isIdle])
  · have due : s.starveDue e = some p := by simp [State.starveDue, hj, hst, hstarve, ht]
    show whenRunning (State.starveOut e) s = _
    rw [whenRunning, if_pos hrun]
    simp only [State.starveOut, due]
    rw [State.startDrain_path hbusy hpath hj]
    refine congrArg Host.Outcome.next ((Settles.demand_still (by simpa using hq) ?_).settle (by decide))
    simpa using hs.mediaWaitEnded

end Sys2Proof.Machine
end

section
/-! SUPPORT. Decisions and wake demand while no job is offered to the presses, and while no press is there to ask. -/

namespace Sys2Proof.Machine

/-! ## No job offered -/

/-- A job that is not QUEUED is not eligible (R15). -/
theorem State.eligible_not_queued {s : State} {e : Entry} (h : ∀ j, s.job e = some j → ∀ t, j.state ≠ .queued t) :
    s.eligible e = false := by
  unfold State.eligible
  cases hj : s.job e with
  | none => rfl
  | some j =>
    have not_queued : j.state.isQueued = false := by
      unfold JobState.isQueued
      split
      case h_1 t queued => exact absurd queued (h j hj t)
      case h_2 => rfl
    simp [not_queued]

section Unoffered

variable {s : State} (h : ∀ e, s.offered e = false)
include h

theorem State.candidates_unoffered (p : PressNo) : s.candidates p = [] := by
  simp [State.candidates, State.isCandidate, h]

/-- A press with no candidate stays as it is at its decision point (R66). -/
theorem State.decidePress_unoffered (p : PressNo) : s.decidePress p = s := by
  simp [State.decidePress, State.bestCandidate, State.candidates_unoffered h, pickMax]

theorem State.wakeForPress_unoffered (p : PressNo) : s.wakeForPress p = s := by
  simp [State.wakeForPress, State.pressDemand, h]

theorem State.wakeForPool_unoffered (q : PoolNo) (n : Nat) : s.wakeForPool q n = s := by
  cases n with
  | zero => rfl
  | succ n => simp [State.wakeForPool, State.poolWanted, State.poolJobs, h]

theorem State.keepWanted_unoffered (p : PressNo) : s.keepWanted p = s := by
  unfold State.keepWanted
  split <;> simp [State.candidates_unoffered h]

/-- Wake demand asks for nothing and withdraws nothing while no job is offered and nobody waits on demand. -/
theorem State.evalDemand_unoffered (nobody : ∀ p, (s.press p).state ≠ .wakeWait .demand) : s.evalDemand = s := by
  unfold State.evalDemand
  dsimp only
  rw [foldl_same (fun s p => State.wakeForPress p s) _ (State.wakeForPress_unoffered h),
    foldl_same (fun s q => State.wakeForPool q 12 s) _ fun q => State.wakeForPool_unoffered h q 12]
  exact State.trim_nobody nobody (State.keepWanted_unoffered h)

end Unoffered

/-- A press's decision, with no job eligible and nobody waiting on demand, is forgotten. -/
theorem Settles.decidePress_unoffered {s : State} (hq : Quiet s) (he : ∀ e, s.eligible e = false)
    (nobody : ∀ p, (s.press p).state ≠ .wakeWait .demand) (p : PressNo) :
    Settles 3 (s.wantDemand.push (.decidePress p)) s := by
  have offered : ∀ t : State, (∀ e, t.eligible e = s.eligible e) → ∀ e, t.offered e = false := fun t ht e => by
    simp [State.offered, ht, he]
  refine demand_decision hq rfl ?_
  rw [State.evalDemand_unoffered (s := s.push (.decidePress p)) (offered _ fun _ => rfl) nobody]
  refine task hq.1 (by simp [State.demandNext, State.push, hq.2]) ?_
  show Settles 1 (s.decidePress p) s
  rw [State.decidePress_unoffered (offered s fun _ => rfl)]
  exact quiet hq

/-! ## The only live job -/

section Alone

variable {s : State} {e : Entry}

/-- While the only live job is not QUEUED, none is eligible (R15). -/
theorem State.eligible_alone (lone : ∀ d, d ≠ e → s.job d = none)
    (h : ∀ j, s.job e = some j → ∀ t, j.state ≠ .queued t) (d : Entry) : s.eligible d = false := by
  refine State.eligible_not_queued fun j hj => ?_
  by_cases hd : d = e
  · exact h j (hd ▸ hj)
  · simp [lone d hd] at hj

/-- While the only live job is not bound, no press has one (R1). -/
theorem State.boundJob_alone (lone : ∀ d, d ≠ e → s.job d = none)
    (h : ∀ j, s.job e = some j → j.state.bound = none) (p : PressNo) : s.boundJob p = none := by
  refine State.boundJob_eq_none_iff.mpr fun d j hj => ?_
  by_cases hd : d = e
  · simp [h j (hd ▸ hj)]
  · simp [lone d hd] at hj

/-- While the only live job does not wait for credit, nobody does. -/
theorem State.waiting_alone (lone : ∀ d, d ≠ e → s.job d = none)
    (h : ∀ j, s.job e = some j → j.state ≠ .creditWait) (a : AccountNo) : s.waiting a = [] := by
  refine List.eq_nil_iff_forall_not_mem.mpr fun d hd => ?_
  obtain ⟨j, hj, -, hw⟩ := State.mem_waiting.mp hd
  by_cases he : d = e
  · exact h j (he ▸ hj) hw
  · simp [lone d he] at hj

end Alone

/-! ## A press released with nothing to do (R73) -/

/-- A BUSY press without media wait that no job is bound to goes to IDLE, and to its decision (R66, R91). -/
theorem State.releasePress_idle {s : State} {p : PressNo} (busy : (s.press p).state = .busy none)
    (cover : (s.press p).cover ≠ some true) (unbound : s.boundJob p = none) :
    s.releasePress p = (s.putState p (.idle false 0)).push (.decidePress p) := by
  rw [State.releasePress_busy busy, State.enterIdle_closed cover, State.enter, State.leave_unbound busy unbound,
    State.mediaWaitEnded_none]

/-- A press released while no job is eligible and nobody waits on demand goes to IDLE and stays there. -/
theorem Settles.released {s : State} {p : PressNo} (hq : Quiet s) (busy : (s.press p).state = .busy none)
    (cover : (s.press p).cover ≠ some true) (unbound : s.boundJob p = none) (he : ∀ e, s.eligible e = false)
    (nobody : ∀ q, (s.press q).state ≠ .wakeWait .demand) :
    Settles 3 (s.wantDemand.releasePress p)
      ((s.modPress p fun x => { x with state := .idle false 0 }).mark (.press p)) := by
  rw [State.releasePress_idle (s := s.wantDemand) busy cover unbound, State.putState_eq]
  simp only [State.modPress_wantDemand, State.mark_wantDemand, State.wantDemand_twice]
  refine Settles.decidePress_unoffered (s := (s.modPress p _).mark (.press p)) (by simpa using hq) he (fun q => ?_) p
  rw [State.press_mark, State.press_modPress]
  split
  · simp
  · exact nobody q

end Sys2Proof.Machine
end

section
/-! PROOF. JOB CANCEL (R20, R21). -/

namespace Sys2Proof.Machine

/-! ## The re-check of an account for which nobody waits (R136) -/

section Waiting

variable {s : State} {a : AccountNo} {e : Entry}

theorem State.oldestWaiting_nobody (h : s.waiting a = []) : s.oldestWaiting a = none := by
  rw [State.oldestWaiting, h]
  rfl

theorem State.recheck_nobody (h : s.waiting a = []) : s.recheck a = s := by
  simp only [State.recheck, State.recheckLoop, State.oldestWaiting_nobody h]

/-- Nobody comes to wait for credit when a job is written that does not. -/
theorem State.waiting_setJob_nobody (h : s.waiting a = []) {j : Job} (hj : j.state ≠ .creditWait) :
    (s.setJob e (some j)).waiting a = [] := by
  rw [List.eq_nil_iff_forall_not_mem] at h ⊢
  intro d hd
  obtain ⟨i, hi, ha, hw⟩ := State.mem_waiting.mp hd
  rw [State.job_setJob] at hi
  split at hi
  · obtain rfl := Option.some.inj hi
    exact hj hw
  · exact h d (State.mem_waiting.mpr ⟨i, hi, ha, hw⟩)

end Waiting

/-- What FINISHED makes of the accounts: the hold remaining is released (R140). -/
def State.holdReleased (j : Job) (s : State) : State :=
  match j.hold with
  | some n => s.modAccount j.account fun a => { a with holdTotal := a.holdTotal - n }
  | none => s

/-- A job that is FINISHED while nobody waits for its account's credit: its hold released, its pages freed (R21). -/
theorem State.finishJob_nobody {s : State} {e : Entry} {j : Job} (h : s.job e = some j)
    (hw : j.hold = none ∨ s.waiting j.account = []) (o : JobOutcome) : s.finishJob e o =
      ((((s.setSpool (s.spool.freeJob e)).setJob e (some { j with state := .finished o, hold := none, starve := none })
        ).holdReleased j).mark (.job e)).wantDemand := by
  unfold State.finishJob State.holdReleased
  simp only [h]
  cases hold : j.hold with
  | none => rfl
  | some n =>
    have nobody : s.waiting j.account = [] := hw.resolve_left (by simp [hold])
    have after : ∀ k : Account → Account, ((s.setJob e (some { j with
        state := .finished o, hold := none, starve := none })).modAccount j.account k).waiting j.account = [] :=
      fun k => State.waiting_setJob_nobody nobody (by simp)
    have release : ∀ k : Account → Account, ∀ t : State, (t.modAccount j.account k).waiting j.account = [] →
        (if 0 < n then (t.modAccount j.account k).recheck j.account else t.modAccount j.account k) =
          t.modAccount j.account k := fun k t ht => by
      rw [State.recheck_nobody ht]
      exact ite_self _
    dsimp only [State.releaseHold]
    rw [release _ _ (after _)]
    rfl

section Released

variable {s : State} {j : Job}

@[simp] theorem State.quiet_holdReleased : Quiet (s.holdReleased j) ↔ Quiet s := by
  unfold State.holdReleased
  cases j.hold <;> simp

@[simp] theorem State.still_holdReleased : Still (s.holdReleased j) ↔ Still s := by
  unfold State.holdReleased
  cases j.hold <;> simp

@[simp] theorem State.job_holdReleased (e : Entry) : (s.holdReleased j).job e = s.job e := by
  unfold State.holdReleased
  cases j.hold <;> simp

@[simp] theorem State.press_holdReleased (p : PressNo) : (s.holdReleased j).press p = s.press p := by
  unfold State.holdReleased
  cases j.hold <;> simp

end Released

/-- A job that ends where it stands, with nobody waiting for its account's credit (R20, R21). -/
def State.ended (e : Entry) (j : Job) (o : JobOutcome) (s : State) : State :=
  (((s.setSpool (s.spool.freeJob e)).setJob e (some { j with state := .finished o, hold := none, starve := none })
    ).holdReleased j).mark (.job e)

theorem State.cancelJob_unbound {s : State} {e : Entry} {j : Job} (hb : j.state.bound = none)
    (hnf : ∀ o, j.state ≠ .finished o) :
    s.cancelJob e j = some (s.finishJob e (if j.state = .fault then .faulted else .cancelled)).settle := by
  unfold State.cancelJob
  cases hst : j.state with
  | printing p => simp [hst, JobState.bound] at hb
  | draining p t => simp [hst, JobState.bound] at hb
  | finished o => exact absurd hst (hnf o)
  | fault => rfl
  | _ => rfl

/-- A cancelled PRINTING job with an empty path ends, and its press is released (R19, R20). -/
theorem State.startDrain_cancelled {s : State} {p : PressNo} {e : Entry} {j : Job}
    (hb : ∀ m, (s.press p).state = .busy m → m = none) (hp : (s.press p).path = []) (h : s.job e = some j)
    (hw : j.hold = none ∨ s.waiting j.account = []) :
    s.startDrain p e .cancelled = ((s.ended e j .cancelled).wantDemand).releasePress p := by
  have drains : (((s.setJob e (some { j with state := .draining p .cancelled, starve := none })).mark
      (.job e)).wantDemand).job e = some { j with state := .draining p .cancelled, starve := none } := by simp
  rw [State.startDrain_empty hb hp h, State.takeTarget]
  simp only [drains]
  rw [State.finishJob_nobody drains (hw.imp_right fun w => State.waiting_setJob_nobody w (by simp))]
  unfold State.ended State.holdReleased
  cases j.hold <;> simp

/-- A JOB CANCEL that is taken answers with the state the job holds after it (R20). -/
theorem performRequest_jobCancel {s t : State} {h : Handle} {e : Entry} {i j : Job} (hn : Names s h e j)
    (hc : s.cancelJob e j = some t) (hj : t.job e = some i) :
    performRequest (.jobCancel h) s = (okWith (le 1 i.state.code), t) := by
  rw [performRequest, reqJobCancel, withJob_names hn]
  simp only [hc, State.stateCode, hj]
  rfl

/-- Settles O26: a drain that goes on by `State.startDrain_path`; an end by `State.finishJob_nobody`, the wake demand
forgotten; and the release of a BUSY press after it. -/
theorem jobCancelled : Obligations.JobCancelled := by
  intro s tag h e j hs hn
  refine ⟨fun p t hst => ?_, fun p now still hst hpath hbusy => ?_, ?_⟩
  · have cancel : s.cancelJob e j = some (s.setJob e (some { j with state := .draining p .cancelled })) := by
      simp only [State.cancelJob, hst, State.setTarget, State.modJob_live hn.live]
    exact exec_free hs rfl (performRequest_jobCancel hn cancel (State.job_setJob_self ..))
  · have cancel : s.cancelJob e j = some (s.startDrain p e .cancelled).settle := by
      simp only [State.cancelJob, hst]
    rw [State.startDrain_path hbusy hpath hn.live,
      (Settles.demand_still (by simpa using hs.quiet) (by simpa using still.mediaWaitEnded)).settle (by decide)] at cancel
    exact exec_free hs rfl (performRequest_jobCancel hn cancel (State.job_setJob_self ..))
  · intro o freed released takes
    have fate : s.ended e j o = released.mark (.job e) := by
      simp only [released, freed, State.ended, State.holdReleased]
      cases j.hold <;> rfl
    have quiet : Quiet (s.ended e j o) := by simpa [State.ended] using hs.quiet
    have job : (s.ended e j o).job e = some { j with state := .finished o, hold := none, starve := none } := by
      simp [State.ended]
    rw [← fate]
    have printing : ∀ p, j.state = .printing p → (s.press p).path = [] → (j.hold = none ∨ s.waiting j.account = []) →
        (∀ m, (s.press p).state = .busy m → m = none) →
        s.cancelJob e j = some ((s.ended e j o).wantDemand.releasePress p).settle := fun p hst hpath hw hbusy => by
      have cancelled : o = .cancelled := by simp [o, hst]
      simp only [State.cancelJob, hst, State.startDrain_cancelled hbusy hpath hn.live hw, cancelled]
    refine ⟨fun still hnf hw => ?_, fun p hst hpath hbusy hcover hlone hnobody => ?_⟩
    · have settled : (s.ended e j o).wantDemand.settle = s.ended e j o :=
        (Settles.demand_still quiet (by simpa [State.ended] using still)).settle (by decide)
      refine ⟨fun hb => ?_, fun p hst hpath hjam => ?_⟩
      · have cancel := State.cancelJob_unbound (s := s) (e := e) hb hnf
        rw [State.finishJob_nobody hn.live hw] at cancel
        exact exec_free hs rfl (performRequest_jobCancel hn (cancel.trans (congrArg some settled)) job)
      · have idle : ∀ m, (s.press p).state ≠ .busy m := by
          rcases hjam with jammed | ⟨c, halted⟩ <;> simp [*]
        have cancel := printing p hst hpath hw fun m busy => absurd busy (idle m)
        rw [State.releasePress_other (by simpa [State.ended] using idle), settled] at cancel
        exact exec_free hs rfl (performRequest_jobCancel hn cancel job)
    · have cancel := printing p hst hpath (.inr (State.waiting_alone hlone (by simp [hn.live, hst]) _))
        fun m busy => by simpa [hbusy] using busy.symm
      have lone : ∀ d, d ≠ e → (s.ended e j o).job d = none := fun d hd => by
        simp [State.ended, State.job_setJob, hd.symm, hlone d hd]
      have unbound := State.boundJob_alone lone (fun i hi => by rw [← Option.some.inj (job.symm.trans hi)]; rfl) p
      have none_eligible := State.eligible_alone lone fun i hi t => by
        rw [← Option.some.inj (job.symm.trans hi)]
        simp
      rw [(Settles.released quiet (by simpa [State.ended] using hbusy) (by simpa [State.ended] using hcover) unbound
        none_eligible (by simpa [State.ended] using hnobody)).settle (by decide)] at cancel
      exact exec_free hs rfl (performRequest_jobCancel hn cancel job)

end Sys2Proof.Machine
end

section
/-! PROOF. JOB COMMIT: the quote, the flag, and the credit check (R8, R11, R12, R22, R135). -/

namespace Sys2Proof.Machine

/-! ## The admission test (R135) -/

theorem State.hasWaiting_iff {s : State} {a : AccountNo} :
    s.hasWaiting a = true ↔ ∃ e j, s.job e = some j ∧ j.account = a ∧ j.state = .creditWait := by
  simp [State.hasWaiting, allEntries, Option.any_eq_true, Job.waitsOn, and_comm]

theorem State.creditFits_iff {s : State} {a : AccountNo} {n : Nat} : s.creditFits a n = true ↔
    if a = 0 then (s.account a).holdTotal + n ≤ 281474976710655
      else (n : Int) ≤ ((s.account a).balance + (s.account a).limit) * 1000 - (s.account a).residue
        - (s.account a).holdTotal := by
  unfold State.creditFits
  by_cases h : a = 0
  · have account : a = house := h
    rw [if_pos account, if_pos h, decide_eq_true_eq, Config.max48]
  · have account : ¬ a = house := h
    rw [if_neg account, if_neg h, decide_eq_true_eq, Account.available]

theorem State.admits_iff {s : State} {a : AccountNo} {n : Nat} : s.admits a n = true ↔
    (∀ e j, s.job e = some j → j.account = a → j.state ≠ .creditWait) ∧ s.creditFits a n = true := by
  rw [State.admits, Bool.and_eq_true, Bool.not_eq_true', Bool.eq_false_iff, Ne, State.hasWaiting_iff]
  simp

/-! ## The quote (R8, R11) -/

/-- What a quote leaves beside the job: the commit counter raised, and the reports of its outcome pending. -/
def State.quoteTold (e : Entry) (j : Job) (s : State) : State :=
  let out := s.filterOutcome j
  let q : State := { s with commitCounter := s.commitCounter + 1 }
  let q := if out.redirected = none then q else q.mark (.job e)
  if out.flagged then q.raise .jobFlagged (.job j.serial) none else q

theorem State.quoteJob_eq (s : State) (e : Entry) (j : Job) :
    s.quoteJob e j = (s.quoteTold e j).setJob e (some (committed s j)) := by
  have same : ({ s with commitCounter := s.commitCounter + 1 } : State).filterOutcome j = s.filterOutcome j := rfl
  unfold State.quoteJob State.quoteTold committed
  dsimp only
  rw [same]
  cases hr : (s.filterOutcome j).redirected <;> cases hf : (s.filterOutcome j).flagged <;> simp

section QuoteTold

variable {s : State} {e : Entry} {j : Job}

/-- The quote's reports change the report queue and the alerts alone. -/
theorem State.quoteTold_frame (s : State) (e : Entry) (j : Job) : s.quoteTold e j =
    { s with
      commitCounter := s.commitCounter + 1, alerts := (s.quoteTold e j).alerts, reports := (s.quoteTold e j).reports } := by
  unfold State.quoteTold
  dsimp only
  split
  · rw [State.raise_frame]
    split <;> rfl
  · split <;> rfl

theorem State.quoteTold_quiet (h : Quiet s) : Quiet (s.quoteTold e j) := by
  rw [State.quoteTold_frame]
  exact h

theorem State.quoteTold_still (h : Still s) : Still (s.quoteTold e j) := by
  rw [State.quoteTold_frame]
  exact h

theorem State.quoteTold_job (d : Entry) : (s.quoteTold e j).job d = s.job d := by
  rw [State.quoteTold_frame]
  rfl

theorem State.quoteTold_time : (s.quoteTold e j).time = s.time := by
  rw [State.quoteTold_frame]

theorem State.quoteTold_account (a : AccountNo) : (s.quoteTold e j).account a = s.account a := by
  rw [State.quoteTold_frame]
  rfl

end QuoteTold

/-- A quote leaves the admission test of every account as it was: the job is still OPEN. -/
theorem State.quoteJob_admits {s : State} {e : Entry} {j : Job} (h : s.job e = some j) (a : AccountNo) (n : Nat) :
    (s.quoteJob e j).admits a n = s.admits a n := by
  have fits : (s.quoteJob e j).creditFits a n = s.creditFits a n := by
    simp only [State.creditFits, State.quoteJob_eq, State.account_setJob, State.quoteTold_account]
  have waits : ∀ d, ((s.quoteJob e j).job d).any (fun i => i.waitsOn a) = (s.job d).any fun i => i.waitsOn a := fun d => by
    rw [State.quoteJob_eq, State.job_setJob]
    split
    · subst_vars
      rw [h]
      rfl
    · rw [State.quoteTold_job]
  simp only [State.admits, State.hasWaiting, fits, waits]

/-- A job admitted at commit goes to HELD under a hold flag, else to QUEUED and to its decision (R8, R12). -/
theorem State.admitted {s : State} {e : Entry} {j : Job} (n : Nat) :
    (s.reserve e j n).enterAdmitted e =
      let t := s.modAccount j.account fun a => { a with holdTotal := a.holdTotal + n }
      if j.keptHeld then (t.setJob e (some { j with hold := some n, state := .held })).mark (.job e)
      else (((t.setJob e (some { j with hold := some n, state := .queued s.time })).mark (.job e)).wantDemand).push
        (.decideJob e) := by
  have kept : ({ j with hold := some n } : Job).keptHeld = j.keptHeld := rfl
  simp only [State.enterAdmitted, State.reserve, State.job_setJob_self, kept]
  split <;> simp

/-- Settles O24: the quote as a chain of updates that leaves the admission test as it was, and each outcome of the test. -/
theorem jobCommitted : Obligations.JobCommitted := by
  refine ⟨fun s a est => ?_, ?_⟩
  · rw [State.admits_iff, State.creditFits_iff]
  · intro s tag h e j hs hn hhost href out est q0 q1 q reply onHold
    have told : q = s.quoteTold e j := rfl
    have quote := s.quoteJob_eq e j
    have live : (s.quoteJob e j).job e = some (committed s j) := by simp [quote]
    have run : ∀ t st, ((s.quoteJob e j).offerCredit e).settle = t → t.job e = some st →
        performRequest (.jobCommit h) s = (reply st.state, t) := fun t st ht hj => by
      rw [performRequest, reqJobCommit, withJob_names hn]
      simp only [href, live, Option.bind_some, committed, ht, State.stateCode, hj]
      rfl
    have offer : (s.quoteJob e j).offerCredit e = if s.admits j.account est then
          ((s.quoteJob e j).reserve e (committed s j) est).enterAdmitted e
        else (((s.quoteJob e j).setJob e (some { committed s j with state := .creditWait })).mark (.job e)).raise .creditWait
          (.job j.serial) none := by
      have admits := State.quoteJob_admits hn.live j.account est
      simp only [State.offerCredit, live]
      rw [← admits]
      rfl
    have quiet : Quiet q := told ▸ s.quoteTold_quiet hs.quiet
    have kept : (committed s j).keptHeld = out.hold := by simp [Job.keptHeld, committed, hhost, out]
    have account : (committed s j).account = j.account := rfl
    refine ⟨fun hadm => ?_, fun hadm hout => ?_, fun hadm hout still => ?_⟩
    all_goals refine exec_free hs rfl ?_
    · refine run _ { committed s j with state := .creditWait } ?_ (by simp)
      rw [offer, if_neg (by simp [hadm]), quote, State.setJob_twice, ← told]
      exact State.settle_quiet (by simpa using quiet)
    · refine run _ { committed s j with state := .held, hold := some est } ?_ (by simp)
      rw [offer, if_pos hadm, State.admitted, kept, hout, account, quote, ← told]
      simp only [if_true, State.setJob_modAccount, State.setJob_twice, onHold]
      exact State.settle_quiet (by simpa using quiet)
    · refine run _ { committed s j with state := .queued s.time, hold := some est } ?_ (by simp)
      rw [offer, if_pos hadm, State.admitted, kept, hout, account, quote, ← told]
      have time : q.time = s.time := told ▸ s.quoteTold_time
      have calm : Still q := told ▸ s.quoteTold_still still
      simp only [Bool.false_eq_true, if_false, State.setJob_modAccount, State.setJob_twice, onHold, State.setJob_time, time]
      exact (Settles.decideJob_still (by simpa using quiet) (by simpa using calm) e).settle (by decide)

end Sys2Proof.Machine
end

section
/-! SUPPORT. The examination of the sheet conditions of a BUSY press whose job prints (R46, R50, R51), and the start of a
sheet (R47, R48). -/

namespace Sys2Proof.Machine

/-! ## The conditions (R46) -/

theorem State.pressReady_iff {s : State} {p : PressNo} : s.pressReady p = true ↔ ¬ NoStart s p := by
  unfold State.pressReady NoStart
  cases s.low <;> cases (s.press p).send <;> simp
  omega

theorem State.sheetReady_iff {s : State} {e : Entry} {sh : Sheet} :
    s.sheetReady e sh = true ↔ ∀ k ∈ sh.pages, s.pageIs e .complete k = true := by
  simp [State.sheetReady]

/-- A COMPLETE page is not DAMAGED. -/
theorem State.pageIs_damaged {s : State} {e : Entry} {k : Nat} (h : s.pageIs e .complete k = true) :
    s.pageIs e .damaged k = false := by
  unfold State.pageIs at h ⊢
  cases hp : s.spool.page e k with
  | none => simp [hp] at h
  | some x =>
    have complete : x.2.state = .complete := by simpa [hp] using h
    simp [complete]

theorem State.sheetDamaged_undamaged {s : State} {e : Entry} {j : Job} {n : Nat} {sh : Sheet} (h : Undamaged s e j n)
    (hsh : j.sheetOf n = some sh) : s.sheetDamaged e sh = false := by
  simp only [State.sheetDamaged, List.any_eq_false]
  intro k hk
  simp [h sh k hsh hk]

theorem State.undamaged_ready {s : State} {e : Entry} {j : Job} {n : Nat} {sh : Sheet} (hsh : j.sheetOf n = some sh)
    (h : ∀ k ∈ sh.pages, s.pageIs e .complete k = true) : Undamaged s e j n := by
  intro sh' k hsh' hk
  obtain rfl := Option.some.inj (hsh'.symm.trans hsh)
  exact State.pageIs_damaged (h k hk)

theorem Job.cursorSheet_iff {j : Job} {n : Nat} {sh : Sheet} : j.cursorSheet = some (n, sh) ↔
    ∃ c, j.commit = some c ∧ c.cursor = some n ∧ j.sheetOf n = some sh := by
  unfold Job.cursorSheet
  cases j.commit with
  | none => simp
  | some c =>
    cases hc : c.cursor with
    | none => simp [hc]
    | some m =>
      simp only [Option.map_eq_some_iff, Prod.mk.injEq, Option.some.injEq, exists_eq_left', hc]
      constructor
      · rintro ⟨sh', h, rfl, rfl⟩
        exact ⟨rfl, h⟩
      · rintro ⟨rfl, h⟩
        exact ⟨sh, h, rfl, rfl⟩

theorem SheetReady.cursorSheet {s : State} {p : PressNo} {e : Entry} {j : Job} (h : SheetReady s p e j) :
    ∃ n sh, j.cursorSheet = some (n, sh) ∧ j.sheetOf n = some sh ∧ s.loaded p sh.media = true ∧
      ∀ k ∈ sh.pages, s.pageIs e .complete k = true := by
  obtain ⟨c, n, sh, hc, hn, hsh, loaded, ready⟩ := h
  exact ⟨n, sh, Job.cursorSheet_iff.mpr ⟨c, hc, hn, hsh⟩, hsh, loaded, ready⟩

/-! ## The starve timer (R50) -/

theorem State.starveOf_sheet {s : State} {e : Entry} {j : Job} {n : Nat} {sh : Sheet}
    (hc : j.cursorSheet = some (n, sh)) : s.starveOf e j =
      if s.sheetReady e sh then none else some (j.starve.getD { elapsed := 0, limit := s.ret.schedule.starve * 1000 }) := by
  have missing : (sh.pages.any fun k => !s.pageIs e .complete k) = !s.sheetReady e sh := by
    simp [State.sheetReady, List.not_all_eq_any_not]
  simp only [State.starveOf, hc, Option.any_some, missing]
  cases s.sheetReady e sh <;> rfl

theorem State.sheetReady_missing {s : State} {e : Entry} {sh : Sheet}
    (missing : ∃ k ∈ sh.pages, s.pageIs e .complete k = false) : s.sheetReady e sh = false := by
  rw [Bool.eq_false_iff, Ne, State.sheetReady_iff]
  obtain ⟨k, hk, no⟩ := missing
  exact fun all => by simp [all k hk] at no

theorem State.starveOf_missing {s : State} {e : Entry} {j : Job} {n : Nat} {sh : Sheet}
    (hc : j.cursorSheet = some (n, sh)) (missing : ∃ k ∈ sh.pages, s.pageIs e .complete k = false) :
    s.starveOf e j = some (j.starve.getD { elapsed := 0, limit := s.ret.schedule.starve * 1000 }) := by
  rw [State.starveOf_sheet hc, State.sheetReady_missing missing]
  rfl

theorem State.starveOf_end {s : State} {e : Entry} {j : Job} (hc : j.cursorSheet = none) : s.starveOf e j = none := by
  simp [State.starveOf, hc]

theorem State.pageIs_congr {s t : State} (spool : t.spool = s.spool) : t.pageIs = s.pageIs := by
  funext e st k
  simp only [State.pageIs, spool]

theorem State.sheetReady_congr {s t : State} (spool : t.spool = s.spool) (e : Entry) (sh : Sheet) :
    t.sheetReady e sh = s.sheetReady e sh := by
  rw [State.sheetReady, State.pageIs_congr spool, State.sheetReady]

/-- The starve timer of a job depends on the spool and on its setting alone. -/
theorem State.starveOf_congr {s t : State} (spool : t.spool = s.spool)
    (limit : t.ret.schedule.starve = s.ret.schedule.starve) (e : Entry) (j : Job) : t.starveOf e j = s.starveOf e j := by
  unfold State.starveOf
  rw [State.pageIs_congr spool, limit]

theorem State.updateStarve_live {s : State} {e : Entry} {j : Job} (h : s.job e = some j) (waits : Bool) :
    s.updateStarve e waits = s.setJob e (some { j with
      starve := if waits then some (j.starve.getD { elapsed := 0, limit := s.ret.schedule.starve * 1000 }) else none }) := by
  rw [State.updateStarve, State.modJob_live h]
  cases waits <;> cases j.starve <;> rfl

/-! ## Examining -/

section Examine

variable {s : State} {p q : PressNo} {e : Entry} {j : Job} {now : Option Nat}

theorem State.examine_printing (busy : (s.press p).state = .busy now) (bound : s.boundJob p = some e)
    (live : s.job e = some j) (printing : j.state = .printing q) : s.examine p = s.examineJob p e j := by
  simp only [State.examine, busy, bound, live, printing]

theorem State.updateMediaWait_loaded (busy : (s.press p).state = .busy now) {m : Nat} (h : s.loaded p m = true) :
    s.updateMediaWait p (some m) = s.mediaWaitEnded p now := by
  simp only [State.updateMediaWait, busy, h, if_true, State.endMediaWait_busy busy]

/-- With the cursor at END media wait ends and the starve timer stops (R50, R51). -/
theorem State.examineJob_end (busy : (s.press p).state = .busy now) (live : s.job e = some j)
    (hc : j.cursorSheet = none) :
    s.examineJob p e j = (s.mediaWaitEnded p now).setJob e (some { j with starve := none }) := by
  have wait : s.updateMediaWait p none = s.mediaWaitEnded p now := by
    simp only [State.updateMediaWait, busy, State.endMediaWait_busy busy]
  simp only [State.examineJob, hc, wait]
  rw [State.updateStarve_live (by simpa using live)]
  rfl

/-- The press's and the supply's conditions are as they were after media wait and the starve timer. -/
theorem State.pressReady_examined (j : Option Job) : ((s.mediaWaitEnded p now).setJob e j).pressReady p = s.pressReady p := by
  rw [Bool.eq_iff_iff, State.pressReady_iff, State.pressReady_iff]
  cases now <;> simp [State.mediaWaitEnded_none, State.mediaWaitEnded_some, NoStart, State.depth]

theorem State.mediaWaitEnded_spool : (s.mediaWaitEnded p now).spool = s.spool := by
  cases now <;> simp [State.mediaWaitEnded_none, State.mediaWaitEnded_some]

theorem State.mediaWaitEnded_ret : (s.mediaWaitEnded p now).ret = s.ret := by
  cases now <;> simp [State.mediaWaitEnded_none, State.mediaWaitEnded_some]

/-- A sheet whose media class is LOADED: media wait ends, the starve timer runs while a page is missing, and the sheet
starts where all is ready (R46, R50, R51). -/
theorem State.examineJob_loaded (busy : (s.press p).state = .busy now) (live : s.job e = some j) {n : Nat} {sh : Sheet}
    (hc : j.cursorSheet = some (n, sh)) (whole : s.sheetDamaged e sh = false) (loaded : s.loaded p sh.media = true) :
    s.examineJob p e j =
      let t := (s.mediaWaitEnded p now).setJob e (some { j with starve := s.starveOf e j })
      if s.sheetReady e sh && s.pressReady p then t.startSheet p (some (e, n)) sh.media sh.sides else t := by
  have examined : (s.mediaWaitEnded p now).updateStarve e (!s.sheetReady e sh) =
      (s.mediaWaitEnded p now).setJob e (some { j with starve := s.starveOf e j }) := by
    rw [State.updateStarve_live (by simpa using live), State.starveOf_sheet hc, State.mediaWaitEnded_ret]
    cases s.sheetReady e sh <;> rfl
  have after (i : Option Job) : ((s.mediaWaitEnded p now).setJob e i).sheetReady e sh = s.sheetReady e sh :=
    State.sheetReady_congr (s := s) State.mediaWaitEnded_spool e sh
  have trays (i : Option Job) : ((s.mediaWaitEnded p now).setJob e i).loaded p sh.media = true := by
    have same : ((s.mediaWaitEnded p now).setJob e i).pressRec p = s.pressRec p := by
      simp [State.pressRec, State.mediaWaitEnded_ret]
    simpa only [State.loaded, same] using loaded
  simp only [State.examineJob, hc, whole, State.updateMediaWait_loaded busy loaded, examined, after, trays,
    State.pressReady_examined, Bool.false_eq_true, if_false, Bool.and_true]

/-- What media wait for a class makes of a press that is not yet in it (R51). -/
def State.mediaWaitBegun (p : PressNo) (now : Option Nat) (m : Nat) (s : State) : State :=
  if now = some m then s
  else
    let t := s.modPress p fun x => { x with state := .busy (some m) }
    (if now = none then t.mark (.press p) else t).raise .mediaOut (.press p) (some m)

/-- A sheet whose media class no tray is LOADED with: media wait for it, the starve timer while a page is missing
(R50, R51). -/
theorem State.examineJob_unloaded (busy : (s.press p).state = .busy now) (live : s.job e = some j) {n : Nat} {sh : Sheet}
    (hc : j.cursorSheet = some (n, sh)) (whole : s.sheetDamaged e sh = false) (unloaded : s.loaded p sh.media = false) :
    s.examineJob p e j = (s.mediaWaitBegun p now sh.media).setJob e (some { j with starve := s.starveOf e j }) := by
  have waits : s.updateMediaWait p (some sh.media) = s.mediaWaitBegun p now sh.media := by
    simp only [State.updateMediaWait, State.mediaWaitBegun, busy, unloaded]
    cases now <;> rfl
  have job : (s.mediaWaitBegun p now sh.media).job e = some j := by
    unfold State.mediaWaitBegun
    split
    · exact live
    · split <;> simpa using live
  have ret : (s.mediaWaitBegun p now sh.media).ret = s.ret := by
    unfold State.mediaWaitBegun
    split
    · rfl
    · split <;> simp
  have examined : (s.mediaWaitBegun p now sh.media).updateStarve e (!s.sheetReady e sh) =
      (s.mediaWaitBegun p now sh.media).setJob e (some { j with starve := s.starveOf e j }) := by
    rw [State.updateStarve_live job, State.starveOf_sheet hc, ret]
    cases s.sheetReady e sh <;> rfl
  have trays (i : Option Job) : ((s.mediaWaitBegun p now sh.media).setJob e i).loaded p sh.media = false := by
    have same : ((s.mediaWaitBegun p now sh.media).setJob e i).pressRec p = s.pressRec p := by simp [State.pressRec, ret]
    simpa only [State.loaded, same] using unloaded
  simp only [State.examineJob, hc, whole, waits, examined, trays, Bool.false_eq_true,
    if_false, Bool.and_false, Bool.false_and]

/-! ## What an examination does, by the state of the sheet at the cursor -/

section Outcomes

variable (busy : (s.press p).state = .busy now) (bound : s.boundJob p = some e) (live : s.job e = some j)
  (printing : j.state = .printing q)
include busy bound live printing

/-- With the cursor at END nothing starts (R43, R46). -/
theorem State.examine_end (hc : j.cursorSheet = none) :
    s.examine p = (s.mediaWaitEnded p now).setJob e (some { j with starve := none }) := by
  rw [State.examine_printing busy bound live printing, State.examineJob_end busy live hc]

/-- A sheet that is ready waits for the press or the supply alone (R46). -/
theorem State.examine_noStart (ready : SheetReady s p e j) (hn : NoStart s p) :
    s.examine p = (s.mediaWaitEnded p now).setJob e (some { j with starve := none }) := by
  obtain ⟨n, sh, hc, hsh, loaded, complete⟩ := ready.cursorSheet
  have whole := State.sheetDamaged_undamaged (State.undamaged_ready hsh complete) hsh
  have rest : s.pressReady p = false := by
    rw [Bool.eq_false_iff, Ne, State.pressReady_iff]
    exact fun h => h hn
  rw [State.examine_printing busy bound live printing, State.examineJob_loaded busy live hc whole loaded,
    State.starveOf_sheet hc, State.sheetReady_iff.mpr complete]
  simp [rest]

/-- A page of the sheet is missing: the starve timer runs (R50). -/
theorem State.examine_missing {n : Nat} {sh : Sheet} (hc : j.cursorSheet = some (n, sh)) (whole : Undamaged s e j n)
    (loaded : s.loaded p sh.media = true) (missing : ∃ k ∈ sh.pages, s.pageIs e .complete k = false) :
    s.examine p = (s.mediaWaitEnded p now).setJob e (some { j with starve := s.starveOf e j }) := by
  obtain ⟨c, -, -, hsh⟩ := Job.cursorSheet_iff.mp hc
  have unready : s.sheetReady e sh = false := State.sheetReady_missing missing
  rw [State.examine_printing busy bound live printing,
    State.examineJob_loaded busy live hc (State.sheetDamaged_undamaged whole hsh) loaded]
  simp [unready]

/-- No tray is LOADED for the sheet: media wait (R51). -/
theorem State.examine_unloaded {n : Nat} {sh : Sheet} (hc : j.cursorSheet = some (n, sh)) (whole : Undamaged s e j n)
    (unloaded : s.loaded p sh.media = false) :
    s.examine p = (s.mediaWaitBegun p now sh.media).setJob e (some { j with starve := s.starveOf e j }) := by
  obtain ⟨c, -, -, hsh⟩ := Job.cursorSheet_iff.mp hc
  rw [State.examine_printing busy bound live printing,
    State.examineJob_unloaded busy live hc (State.sheetDamaged_undamaged whole hsh) unloaded]

/-- A sheet that is ready starts where the press and the supply let it (R46, R47). -/
theorem State.examine_starts {n : Nat} {sh : Sheet} (hc : j.cursorSheet = some (n, sh))
    (loaded : s.loaded p sh.media = true) (complete : ∀ k ∈ sh.pages, s.pageIs e .complete k = true)
    (free : ¬ NoStart s p) :
    s.examine p = ((s.mediaWaitEnded p now).setJob e (some { j with starve := none })).startSheet p (some (e, n)) sh.media
      sh.sides := by
  obtain ⟨c, -, -, hsh⟩ := Job.cursorSheet_iff.mp hc
  have whole := State.sheetDamaged_undamaged (State.undamaged_ready hsh complete) hsh
  rw [State.examine_printing busy bound live printing, State.examineJob_loaded busy live hc whole loaded,
    State.starveOf_sheet hc, State.sheetReady_iff.mpr complete]
  simp [State.pressReady_iff.mpr free]

end Outcomes

end Examine

end Sys2Proof.Machine
end

section
/-! SUPPORT. The sending of a sheet (R47, R48, R81, R86): the next stretch of a side, the frame the transmitter takes, and
the start of a sheet on a free line and behind a frame. -/

namespace Sys2Proof.Machine

section Send

variable {s : State} {p : PressNo} {e : Entry} {j : Job}

/-- The next stretch of a page on a side, its check good (R34). -/
theorem State.fetch_page {ent : PathEntry} {n side framed k d : Nat} {pg : Page} {data : List Byte} {last : Bool}
    (he : ent.job = some (e, n)) (live : s.job e = some j) (hk : j.pageOnSide n side = some k)
    (page : s.spool.page e k = some (d, pg)) (block : s.spool.readBlock pg framed = .bytes data last) :
    s.fetch p ent side framed = .chunk data last := by
  simp only [State.fetch, he, live, Option.bind_some, hk, page, block]

/-- The next stretch of a page whose check fails (R35). -/
theorem State.fetch_failed {ent : PathEntry} {n side framed k d : Nat} {pg : Page}
    (he : ent.job = some (e, n)) (live : s.job e = some j) (hk : j.pageOnSide n side = some k)
    (page : s.spool.page e k = some (d, pg)) (block : s.spool.readBlock pg framed = .failed) :
    s.fetch p ent side framed = .failed e d k pg := by
  simp only [State.fetch, he, live, Option.bind_some, hk, page, block]

theorem State.feedSide_chunk {ent : PathEntry} {side framed : Nat} {data : List Byte} {last : Bool}
    (h : s.fetch p ent side framed = .chunk data last) : s.feedSide p ent side framed = s.modPress p fun x =>
      { x with txq := x.txq ++ dataFrames ent.seq side data last, send := .sending side (framed + data.length) last } := by
  simp only [State.feedSide, h]

/-- The transmitter's next frame from the front of the queue (R81). -/
theorem nextFrameAt_front {credits : Nat} {f : PFrame} {rest : List PFrame} (h : f.needsCredit = true → 0 < credits) :
    nextFrameAt credits (f :: rest) = some 0 := by
  unfold nextFrameAt
  rw [List.findIdx?_cons]
  cases hf : f.needsCredit with
  | false => rfl
  | true => simp [h hf]

/-- A frame that takes no credit goes on a free line at once (R81). -/
theorem State.pump_control {f : PFrame} {rest : List PFrame} (line : (s.press p).line = none)
    (queue : (s.press p).txq = f :: rest) (hf : f.needsCredit = false) :
    s.pump p = s.modPress p fun x => { x with line := some f, txq := rest } := by
  have front := nextFrameAt_front (credits := (s.press p).credits) (f := f) (rest := rest) (by simp [hf])
  simp only [State.pump, line, Option.isSome_none, Bool.false_eq_true, if_false, queue, front, List.getElem?_cons_zero, hf]
  exact State.modPress_congr (by simp [queue])

/-- A SHEET or DATA frame at the front goes on a free line with a credit, and what follows it is framed (R48, R81, R86). -/
theorem State.pump_credit {f : PFrame} {rest : List PFrame} (line : (s.press p).line = none)
    (queue : (s.press p).txq = f :: rest) (hf : f.needsCredit = true) (credit : 0 < (s.press p).credits) :
    s.pump p = (s.modPress p fun x => { x with line := some f, txq := rest, credits := x.credits - 1 }).feed p := by
  have front := nextFrameAt_front (f := f) (rest := rest) fun _ => credit
  simp only [State.pump, line, Option.isSome_none, Bool.false_eq_true, if_false, queue, front, List.getElem?_cons_zero, hf,
    if_true]
  exact congrArg (State.feed p) (State.modPress_congr (by simp [queue]))

/-- The page on side 1 is the sheet's first (R42). -/
theorem Job.pageOnSide_one {n : Nat} {sh : Sheet} (h : j.sheetOf n = some sh) : j.pageOnSide n 1 = some sh.side1 := by
  simp [Job.pageOnSide, h]

/-- A sheet starts on a free line with nothing to send: SHEET goes at once, the frames of side 1's first stretch behind it
(R47, R48). -/
theorem State.startSheet_free {n media sides d : Nat} {sh : Sheet} {pg : Page} {data : List Byte} {last : Bool}
    (line : (s.press p).line = none) (queue : (s.press p).txq = []) (credit : 0 < (s.press p).credits)
    (live : s.job e = some j) (hsh : j.sheetOf n = some sh) (page : s.spool.page e sh.side1 = some (d, pg))
    (block : s.spool.readBlock pg 0 = .bytes data last) :
    s.startSheet p (some (e, n)) media sides = s.modPress p (started (some (e, n)) media sides data last) := by
  unfold State.startSheet
  dsimp only
  rw [if_neg (by simp [line]), State.pump_credit (f := .sheet (s.press p).seq media sides) (rest := []) (by simp [line])
    (by simp [queue]) rfl (by simpa using credit)]
  simp only [State.feed, State.modPress_twice, State.press_modPress_self, Press.unsent, List.any_nil, Bool.false_eq_true,
    if_false, List.getLast?_append, List.getLast?_singleton, Option.some_or, Bool.not_false, if_true]
  refine Eq.trans (State.feedSide_chunk (data := data) (last := last) ?_) ?_
  · exact State.fetch_page rfl live (Job.pageOnSide_one hsh) page block
  · rw [State.modPress_twice]
    exact State.modPress_congr (by simp [started])

/-- A sheet starts behind a frame on the line (R47, R48). -/
theorem State.startSheet_behind {n media sides d : Nat} {sh : Sheet} {pg : Page} {data : List Byte} {last : Bool}
    (line : (s.press p).line ≠ none) (queue : (s.press p).txq = [])
    (live : s.job e = some j) (hsh : j.sheetOf n = some sh) (page : s.spool.page e sh.side1 = some (d, pg))
    (block : s.spool.readBlock pg 0 = .bytes data last) :
    s.startSheet p (some (e, n)) media sides = s.modPress p fun x =>
      { x with
        seq := x.seq + 1, txq := .sheet x.seq media sides :: dataFrames x.seq 1 data last
        send := .sending 1 data.length last
        path := x.path ++ [{ seq := x.seq, job := some (e, n), sides := sides, media := media, state := .sending }] } := by
  unfold State.startSheet
  dsimp only
  rw [if_pos (by simpa [Option.isSome_iff_ne_none] using line)]
  refine Eq.trans (State.feedSide_chunk (data := data) (last := last) ?_) ?_
  · exact State.fetch_page rfl live (Job.pageOnSide_one hsh) page block
  · rw [State.modPress_twice]
    exact State.modPress_congr (by simp [queue])

end Send

end Sys2Proof.Machine
end

section
/-! PROOF. JOB DATA that passes its checks (R17, R29 to R33, R46, R47, R50). -/

namespace Sys2Proof.Machine

/-! ## The checks and the reply -/

theorem isBegin_flags (b e : Bool) : isBegin (BitVec.ofNat 8 (flagBits [b, e])) = b := by cases b <;> cases e <;> rfl

theorem isEnd_flags (b e : Bool) : isEnd (BitVec.ofNat 8 (flagBits [b, e])) = e := by cases b <;> cases e <;> rfl

theorem flags_toNat (b e : Bool) : (BitVec.ofNat 8 (flagBits [b, e])).toNat ≤ 3 := by cases b <;> cases e <;> decide

theorem JobState.takesData_iff {st : JobState} : st.takesData = true ↔ st ≠ .fault ∧ ∀ o, st ≠ .finished o := by
  cases st <;> simp [JobState.takesData]

/-- The page of a segment in page order: a new one for BEGIN, else the FILLING one (R28). -/
def InOrder (s : State) (e : Entry) (j : Job) (page : Nat) (begins : Bool) (d : Nat) (pg : Page) : Prop :=
  if begins then j.runs.isSome = true ∧ s.spool.filling e = none ∧ j.received < j.pageCount ∧ page = j.received ∧
      s.spool.freeDescriptors ≠ 0 ∧ d = firstGap 0 s.spool.pool ∧
      pg = { job := e, number := page, state := .filling, byteLen := 0, first := none, last := none }
    else s.spool.filling e = some (d, pg) ∧ pg.number = page

theorem InOrder.segmentPage {s : State} {e : Entry} {j : Job} {page d : Nat} {begins : Bool} {pg : Page}
    (h : InOrder s e j page begins d pg) : s.segmentPage e j page begins = some (d, pg) := by
  unfold InOrder at h
  unfold State.segmentPage
  cases begins with
  | true =>
    obtain ⟨runs, filling, received, number, -, hd, hpg⟩ := h
    simp [runs, filling, received, number, hd, hpg, Spool.openPage]
  | false =>
    obtain ⟨filling, number⟩ := h
    simp [filling, number]

theorem InOrder.descriptors {s : State} {e : Entry} {j : Job} {page d : Nat} {begins : Bool} {pg : Page}
    (h : InOrder s e j page begins d pg) : (begins && s.spool.freeDescriptors = 0) = false := by
  unfold InOrder at h
  cases begins with
  | true =>
    obtain ⟨-, -, -, -, free, -⟩ := h
    simp [free]
  | false => rfl

/-- A segment that passes its checks is taken, and answered with the figures of what it leaves (R29, R30). -/
theorem performRequest_jobData {s t : State} {h : Handle} {page : BitVec 16} {begins ends : Bool} {data : List Byte}
    {e : Entry} {j : Job} {d : Nat} {pg : Page} (hn : Names s h e j) (length : data.length ≤ 1024)
    (takes : j.state.takesData = true) (order : InOrder s e j page.toNat begins d pg)
    (size : pg.byteLen + data.length ≤ 4194304) (blocks : blocksNeeded data.length (s.spool.room pg) ≤ s.spool.freeBlocks)
    (ht : s.takeSegment e d pg data ends = t) (spool : t.spool = s.spool.storeSegment d pg data ends) :
    performRequest (.jobData h page (BitVec.ofNat 8 (flagBits [begins, ends])) data) s =
      (okWith (le 2 page.toNat ++ le 1 (if ends then 1 else 0) ++ le 4 (pg.byteLen + data.length)
        ++ le 2 (if ends then j.received + 1 else j.received)
        ++ le 2 (s.spool.storeSegment d pg data ends).freeBlocks
        ++ le 2 (s.spool.storeSegment d pg data ends).freeDescriptors), t) := by
  have enough : decide (s.spool.freeBlocks < s.segmentBlocks pg data.length) = false :=
    decide_eq_false (Nat.not_lt.mpr blocks)
  have code : (if ends then PageState.complete else .filling).code = if ends then 1 else 0 := by cases ends <;> rfl
  rw [performRequest, reqJobData, if_neg (by simpa [Config.maxSegment] using length), withJob_names hn,
    if_neg (by have := flags_toNat begins ends; omega), if_neg (by simp [takes]), isBegin_flags, isEnd_flags,
    order.segmentPage]
  simp only [order.descriptors, Bool.false_or, enough, ht, spool, code, Bool.false_eq_true, if_false]
  rw [if_neg (by simpa [Config.maxPageBytes] using size)]

/-! ## A page that becomes COMPLETE (R32) -/

section Completed

variable {s : State} {e : Entry} {i : Job} (live : s.job e = some i) (was : Bool)
include live

theorem State.leaveStarved_other (h : i.state ≠ .starved) : s.leaveStarved e = s := by
  simp [State.leaveStarved, live, h]

theorem State.pageCompleted_unbound (nq : ∀ t, i.state ≠ .queued t) (ns : i.state ≠ .starved)
    (nb : i.state.bound = none) : s.pageCompleted e was = s := by
  have uneligible : s.eligible e = false := State.eligible_not_queued fun j hj =>
    Option.some.inj (live.symm.trans hj) ▸ nq
  simp [State.pageCompleted, uneligible, State.leaveStarved_other live ns, live, nb]

/-- A job that is bound has the conditions of its press examined (R32). -/
theorem State.pageCompleted_bound {p : PressNo} (hb : i.state.bound = some p) :
    s.pageCompleted e was = s.push (.examine p) := by
  have nq : ∀ t, i.state ≠ .queued t := fun t h => by simp [h, JobState.bound] at hb
  have ns : i.state ≠ .starved := fun h => by simp [h, JobState.bound] at hb
  have uneligible : s.eligible e = false := State.eligible_not_queued fun j hj =>
    Option.some.inj (live.symm.trans hj) ▸ nq
  simp [State.pageCompleted, uneligible, State.leaveStarved_other live ns, live, hb]

/-- A QUEUED job takes its decision if it has become eligible (R15, R67). -/
theorem State.pageCompleted_queued {t : Time} (hst : i.state = .queued t) :
    s.pageCompleted e was = s ∨ s.pageCompleted e was = s.wantDemand.push (.decideJob e) := by
  unfold State.pageCompleted
  cases s.eligible e && !was with
  | false => exact .inl (by simp [State.leaveStarved_other live, live, hst, JobState.bound])
  | true =>
    have same : ((s.wantDemand).push (.decideJob e)).leaveStarved e = (s.wantDemand).push (.decideJob e) :=
      State.leaveStarved_other (i := i) live (by simp [hst])
    exact .inr (by simp [same, live, hst, JobState.bound])

/-- A STARVED job goes on to QUEUED when every page of the sheet at its cursor is COMPLETE (R17). -/
theorem State.pageCompleted_starved (hst : i.state = .starved) : s.pageCompleted e was =
    if s.cursorReady e then
      (((((s.setJob e (some { i with state := .queued s.time, starve := none })).mark (.job e)).endCondition .jobStarved
        (.job i.serial)).wantDemand).push (.decideJob e))
    else s := by
  have uneligible : s.eligible e = false := State.eligible_not_queued fun j hj =>
    Option.some.inj (live.symm.trans hj) ▸ by simp [hst]
  have left : s.leaveStarved e = if s.cursorReady e then (s.enterQueued e).endCondition .jobStarved (.job i.serial)
      else s := by
    simp [State.leaveStarved, live, hst]
  cases hr : s.cursorReady e with
  | false => simp [State.pageCompleted, uneligible, left, hr, live, hst, JobState.bound]
  | true => simp [State.pageCompleted, uneligible, left, hr, State.enterQueued_live live, JobState.bound]

end Completed

/-- What a segment with END leaves, before the completion of its page is handed on (R32). -/
theorem State.takeSegment_end {s : State} {e : Entry} {j : Job} (live : s.job e = some j) (d : Nat) (pg : Page)
    (data : List Byte) : s.takeSegment e d pg data true =
      (((s.setSpool (s.spool.storeSegment d pg data true)).setJob e (some { j with received := j.received + 1 })
        ).pageCompleted e (s.eligible e)).settle := by
  have write := State.modJob_live (s := s.setSpool (s.spool.storeSegment d pg data true)) (j := j) live fun j =>
    { j with received := j.received + 1 }
  exact congrArg (fun t => (State.pageCompleted e (s.eligible e) t).settle) write

/-- A press whose job drains starts no sheet (R46). -/
theorem State.examine_draining {s : State} {p q : PressNo} {e : Entry} {j : Job} {t : DrainTarget}
    (bound : s.boundJob p = some e) (live : s.job e = some j) (hst : j.state = .draining q t)
    (cal : ∀ r t, (s.press p).state ≠ .calibrating r t) : s.examine p = s := by
  unfold State.examine
  split
  · simp only [bound, live, hst]
  · rename_i h; exact absurd h (cal _ _)
  · rfl

/-- A live job written as it is leaves the state as it is. -/
theorem State.setJob_same {s : State} {e : Entry} {j : Job} (h : s.job e = some j) : s.setJob e (some j) = s := by
  rw [State.setJob, ← h]
  simp [State.job]

/-- Settles O21: the checks and the reply once, for whatever state the segment leaves; then that state, by the job's. -/
theorem jobDataStored : Obligations.JobDataStored := by
  intro s tag h page begins ends data e j d pg hs hn length nfault nfin order size blocks sp received stored takes
  have answer : ∀ t, s.takeSegment e d pg data ends = t → t.spool = sp → takes t := fun t ht hsp =>
    exec_free hs rfl (performRequest_jobData hn length (JobState.takesData_iff.mpr ⟨nfault, nfin⟩) order size blocks ht hsp)
  have quiet : Quiet stored := hs.quiet
  have calm : Still s → Still stored := fun still => still
  have live : stored.job e = some { j with received := received } := State.job_setJob_self ..
  have taken : ends = true → s.takeSegment e d pg data ends = (stored.pageCompleted e (s.eligible e)).settle := fun hends => by
    have end_taken := State.takeSegment_end hn.live d pg data
    simp only [stored, sp, received, hends]
    exact end_taken
  have printing : ∀ p t, ends = true → BoundAlone s p e j → stored.examine p = t → Quiet t → t.spool = sp → takes t :=
      fun p t hends alone ht hq hsp => by
    refine answer t ?_ hsp
    rw [taken hends, State.pageCompleted_bound live _ alone.bound]
    exact (Settles.examine (k := 1) quiet.1 (by rw [ht]; exact Settles.quiet hq)).settle (by decide)
  have bound : ∀ p, BoundAlone s p e j → stored.boundJob p = some e := fun p alone =>
    State.boundJob_setJob (j := { j with received := received }) alone.boundJob alone.bound
  refine ⟨fun cases => ?_, fun still hst hends => ?_, ?_, ?_⟩
  · cases hends : ends with
    | false =>
      have same : stored = s.setSpool sp := by
        simp only [stored, received, hends]
        exact State.setJob_same (s := s.setSpool sp) hn.live
      refine answer stored ?_ rfl
      rw [same, hends]
      simp only [State.takeSegment, sp, hends]
      rfl
    | true =>
      have unbound : (∀ t, j.state ≠ .queued t) → j.state ≠ .starved → j.state.bound = none → takes stored :=
        fun nq ns nb => answer stored (by
          rw [taken hends, State.pageCompleted_unbound live _ nq ns nb]
          exact State.settle_quiet quiet) rfl
      rcases cases hends with hst | hst | hst | ⟨still, t, hst⟩ | ⟨p, alone, cal, hst⟩
      · exact unbound (by simp [hst]) (by simp [hst]) (by simp [hst, JobState.bound])
      · exact unbound (by simp [hst]) (by simp [hst]) (by simp [hst, JobState.bound])
      · exact unbound (by simp [hst]) (by simp [hst]) (by simp [hst, JobState.bound])
      · refine answer stored ?_ rfl
        rw [taken hends]
        rcases State.pageCompleted_queued live (s.eligible e) hst with completed | completed
        · rw [completed]
          exact State.settle_quiet quiet
        · rw [completed]
          exact (Settles.decideJob_still quiet (calm still) e).settle (by decide)
      · refine printing p stored hends alone ?_ quiet rfl
        rcases hst with ⟨t, draining⟩ | idle
        · exact State.examine_draining (bound p alone) live draining cal
        · exact State.examine_other idle cal
  · have completed := State.pageCompleted_starved live (s.eligible e) hst
    refine ⟨fun wait => answer _ ?_ rfl, fun ready => answer _ ?_ ?_⟩
    · rw [taken hends, completed, if_neg (by simp [wait])]
      exact State.settle_quiet quiet
    · rw [taken hends, completed, if_pos ready]
      exact (Settles.decideJob_still (by simpa using quiet) (by simpa using calm still) e).settle (by decide)
    · exact State.endCondition_spool ..
  · intro p c i sh hends alone hst hc hi hsh hbusy hload whole
    have cursor : ({ j with received := received } : Job).cursorSheet = some (i, sh) :=
      Job.cursorSheet_iff.mpr ⟨c, hc, hi, hsh⟩
    have examined := State.examine_unloaded (s := stored) hbusy (bound p alone) live hst cursor whole hload
    have starve : (if ∀ k ∈ sh.pages, stored.pageIs e .complete k = true then none
          else some (j.starve.getD { elapsed := 0, limit := s.ret.schedule.starve * 1000 })) =
        stored.starveOf e { j with received := received } := by
      rw [State.starveOf_sheet cursor]
      by_cases ready : ∀ k ∈ sh.pages, stored.pageIs e .complete k = true
      · rw [if_pos ready, if_pos (State.sheetReady_iff.mpr ready)]
      · rw [if_neg ready, if_neg (fun h => ready (State.sheetReady_iff.mp h))]
        rfl
    rw [starve]
    refine printing p _ hends alone (examined.trans ?_) quiet rfl
    rw [State.mediaWaitBegun, if_pos rfl]
  · intro p hends alone hst hbusy moved
    have busy : (stored.press p).state = .busy none := hbusy
    refine ⟨fun c hc hcur => ?_, fun c i sh hc hi hsh hload whole missing => ?_, fun ready => ⟨fun rests => ?_, ?_⟩⟩
    · have cursor : moved.cursorSheet = none := by simp [Job.cursorSheet, moved, hc, hcur]
      exact printing p _ hends alone (State.examine_end busy (bound p alone) live hst cursor) quiet rfl
    · have cursor : moved.cursorSheet = some (i, sh) := Job.cursorSheet_iff.mpr ⟨c, hc, hi, hsh⟩
      have examined := State.examine_missing busy (bound p alone) live hst cursor whole hload missing
      rw [State.starveOf_missing cursor missing] at examined
      exact printing p _ hends alone examined quiet rfl
    · exact printing p _ hends alone (State.examine_noStart busy (bound p alone) live hst ready rests) quiet rfl
    · intro c i sh d' pg' bytes last free line queue hc hi hsh hpage hblock
      have cursor : moved.cursorSheet = some (i, sh) := Job.cursorSheet_iff.mpr ⟨c, hc, hi, hsh⟩
      obtain ⟨n, sh', hc', -, loaded, complete⟩ := ready.cursorSheet
      obtain ⟨rfl, rfl⟩ := Prod.mk.inj (Option.some.inj (hc'.symm.trans cursor))
      have examined := State.examine_starts busy (bound p alone) live hst cursor loaded complete free
      have credit : 0 < (stored.press p).credits := Nat.pos_of_ne_zero fun zero => free (.inl zero)
      have started := State.startSheet_free (s := stored.setJob e (some { moved with starve := none })) (p := p)
        (media := sh'.media) (sides := sh'.sides) line queue credit (State.job_setJob_self ..) hsh hpage hblock
      refine printing p _ hends alone (examined.trans (started.trans ?_)) quiet rfl
      rfl

end Sys2Proof.Machine
end

section
/-! SUPPORT. The decisions of DSA while wake demand has nobody to ask: a binding (R66, R67, R71), a calibration before it
(R74). -/

namespace Sys2Proof.Machine

/-! ## Wake demand with nobody to ask -/

/-- Wake demand does nothing while no press is ASLEEP, in WAKE_WAIT, or IDLE with SLEEP_PENDING (R76 to R78, R109). -/
theorem State.evalDemand_awake {s : State} (h : Awake s) : s.evalDemand = s := by
  have asleep : ∀ p, (s.press p).state ≠ .asleep := fun p => (h p).1
  have nobody : ∀ p, (s.press p).state ≠ .wakeWait .demand := fun p => (h p).2.1 .demand
  have none_asleep : ∀ q, (s.poolPresses q).find? (fun p => (s.press p).state == .asleep) = none := by simp [asleep]
  have pool : ∀ q n, s.wakeForPool q n = s := fun q n => by
    cases n with
    | zero => rfl
    | succ n => simp [State.wakeForPool, none_asleep]
  have press : ∀ p, s.wakeForPress p = s := fun p => by simp [State.wakeForPress, asleep]
  have keep : ∀ p, s.keepWanted p = s := fun p => by
    unfold State.keepWanted
    split
    case h_1 t pending => exact absurd pending ((h p).2.2 t)
    case h_2 => rfl
  unfold State.evalDemand
  dsimp only
  rw [foldl_same (fun s p => State.wakeForPress p s) _ press,
    foldl_same (fun s q => State.wakeForPool q 12 s) _ fun q => pool q 12]
  exact State.trim_nobody nobody keep

/-- Wake demand has nobody to ask in any state with the same press states. -/
theorem Awake.of_press {s t : State} (h : Awake s) (same : ∀ p, t.press p = s.press p) : Awake t := fun p => by
  rw [same]
  exact h p

/-- A press that comes to a state wake demand does not ask for leaves it nobody to ask. -/
theorem Awake.modPress {s : State} (h : Awake s) (p : PressNo) {f : Press → Press}
    (hf : (f (s.press p)).state ≠ .asleep ∧ (∀ o, (f (s.press p)).state ≠ .wakeWait o) ∧
      ∀ t, (f (s.press p)).state ≠ .idle true t) : Awake (s.modPress p f) := by
  intro q
  rw [State.press_modPress]
  split
  · exact hf
  · exact h q

theorem Settles.demand_awake {s : State} (hq : Quiet s) (h : Awake s) : Settles 2 s.wantDemand s :=
  Settles.demand hq (by rw [State.evalDemand_awake h]; exact Settles.quiet hq)

/-- A decision raised with wake demand is taken, when wake demand has nobody to ask. -/
theorem Settles.decision_awake {s t : State} {w : Task} {k : Nat} (hq : Quiet s) (h : Awake s) (hw : w.isDecision = true)
    (ht : Settles k (s.perform w) t) : Settles (k + 2) (s.wantDemand.push w) t := by
  refine Settles.demand_decision hq hw ?_
  rw [State.evalDemand_awake (s := s.push w) h]
  exact Settles.task hq.1 (by simp [State.demandNext, State.push, hq.2]) ht

/-! ## Eligible jobs (R15) -/

theorem State.cursorReady_iff {s : State} {e : Entry} {j : Job} (h : s.job e = some j) : s.cursorReady e = true ↔
    ∃ n sh, j.cursorSheet = some (n, sh) ∧ s.sheetReady e sh = true := by
  simp [State.cursorReady, h, Option.any_eq_true]

theorem State.eligible_iff {s : State} {e : Entry} {j : Job} (h : s.job e = some j) : s.eligible e = true ↔
    (∃ t, j.state = .queued t) ∧ if j.copies = 1 then s.cursorReady e = true else j.received = j.pageCount := by
  have queued : j.state.isQueued = true ↔ ∃ t, j.state = .queued t := by
    cases j.state <;> simp [JobState.isQueued]
  simp only [State.eligible, h, Option.any_some, Bool.and_eq_true, queued]
  split <;> simp

/-- A QUEUED job whose sheet waits for the press alone is eligible. -/
theorem SheetWaits.eligible {s : State} {p : PressNo} {e : Entry} {j : Job} {t : Time} (h : SheetWaits s p e j)
    (live : s.job e = some j) (hst : j.state = .queued t) : s.eligible e = true := by
  obtain ⟨n, sh, hc, -, -, complete⟩ := h.sheet.cursorSheet
  refine (State.eligible_iff live).mpr ⟨⟨t, hst⟩, ?_⟩
  split
  case isTrue => exact (State.cursorReady_iff live).mpr ⟨n, sh, hc, State.sheetReady_iff.mpr complete⟩
  case isFalse copies => exact h.received.resolve_left copies

/-- What makes a sheet ready is the job's commit and runs, the spool and the press's trays alone (R46). -/
theorem SheetReady.of_same {s t : State} {p : PressNo} {e : Entry} {j i : Job} (h : SheetReady s p e j)
    (commit : i.commit = j.commit) (sheets : i.sheetOf = j.sheetOf) (spool : t.spool = s.spool)
    (trays : t.pressRec p = s.pressRec p) : SheetReady t p e i := by
  obtain ⟨c, n, sh, hc, hn, hsh, loaded, complete⟩ := h
  refine ⟨c, n, sh, commit.trans hc, hn, sheets ▸ hsh, ?_, ?_⟩
  · rwa [State.loaded, trays]
  · rwa [State.pageIs_congr spool]

theorem State.boundJob_congr {s t : State} (jobs : t.jobs = s.jobs) : t.boundJob = s.boundJob := by
  funext p
  simp only [State.boundJob, State.job, jobs]

/-! ## A binding (R71) -/

/-- What a binding with no sheet started leaves: the job PRINTING, the press BUSY, its FAIR pointer at the job's account
in FAIR mode, both reports pending. -/
def State.boundTo (p : PressNo) (e : Entry) (j : Job) (s : State) : State :=
  (((s.setJob e (some { j with state := .printing p, starve := none })).mark (.job e)).modPress p fun x =>
    { x with
      state := .busy none, heldPool := none
      fair := if s.ret.schedule.mode = .fair then j.account else x.fair }).mark (.press p)

section Bind

variable {s : State} {p : PressNo} {e : Entry} {j : Job}

theorem State.bind_eq (live : s.job e = some j) (idle : (s.press p).state.isIdle = true)
    (cover : (s.press p).cover ≠ some true) :
    s.bind p e = ((s.boundTo p e j).wantDemand).push (.examine p) := by
  have not_busy : ∀ m, (s.press p).state ≠ .busy m := fun m busy => by simp [busy, PressState.isIdle] at idle
  simp only [State.bind, live]
  rw [State.enterBusy_closed (by simpa [State.moveJob] using cover),
    State.enter_other (by simpa [State.moveJob] using not_busy), State.putState_eq, State.moveJob_live live]
  simp only [State.boundTo, State.mark_wantDemand, State.modPress_wantDemand, State.modPress_push, State.modPress_mark,
    State.modPress_twice, State.modPress_setJob]
  rfl

/-- A press that no job is bound to has the one bound to it that is written so (R1). -/
theorem State.boundJob_setJob_new {i : Job} (unbound : ∀ d i, s.job d = some i → i.state.bound ≠ some p)
    (hb : i.state.bound = some p) : (s.setJob e (some i)).boundJob p = some e := by
  refine State.boundJob_eq_some_iff.mpr ⟨⟨i, by simp, hb⟩, fun d hd k hk => unbound d k ?_⟩
  rwa [State.job_setJob, if_neg (ne_of_gt hd)] at hk

/-- A binding is the whole effect where the press has no credit and wake demand has nobody to ask. -/
theorem Settles.bound (hq : Quiet s) (aw : Awake s) (live : s.job e = some j) (idle : (s.press p).state.isIdle = true)
    (cover : (s.press p).cover ≠ some true) (credits : (s.press p).credits = 0)
    (unbound : ∀ d i, s.job d = some i → i.state.bound ≠ some p) (sheet : SheetReady s p e j) :
    Settles 3 (s.bind p e) (s.boundTo p e j) := by
  rw [State.bind_eq live idle cover]
  have quiet : Quiet (s.boundTo p e j) := hq
  have awake : Awake (s.boundTo p e j) :=
    (aw.modPress p (f := fun x =>
      { x with
        state := .busy none, heldPool := none
        fair := if s.ret.schedule.mode = .fair then j.account else x.fair }) (by simp)).of_press fun q => by
      simp [State.boundTo]
  refine Settles.examine (by simpa using quiet.1) ?_
  have examined : (s.boundTo p e j).wantDemand.examine p = (s.boundTo p e j).wantDemand := by
    have busy : ((s.boundTo p e j).wantDemand.press p).state = .busy none := by simp [State.boundTo]
    have bound : (s.boundTo p e j).wantDemand.boundJob p = some e := by
      have new := State.boundJob_setJob_new (e := e) (i := { j with state := .printing p, starve := none }) unbound rfl
      rw [State.boundJob_congr (s := s.setJob e (some { j with state := .printing p, starve := none })) (by rfl)]
      exact new
    have job : (s.boundTo p e j).wantDemand.job e = some { j with state := .printing p, starve := none } := by
      simp [State.boundTo]
    have ready : SheetReady (s.boundTo p e j).wantDemand p e { j with state := .printing p, starve := none } :=
      sheet.of_same rfl rfl (by simp [State.boundTo]) (by simp [State.boundTo])
    have rests : NoStart (s.boundTo p e j).wantDemand p := .inl (by simp [State.boundTo, credits])
    rw [State.examine_noStart busy bound job rfl ready rests, State.mediaWaitEnded_none]
    exact State.setJob_same job
  rw [examined]
  exact Settles.demand_awake quiet awake

end Bind

/-! ## A calibration (R74, R98, R114) -/

section Calibrate

variable {s : State} {p : PressNo}

/-- What the entry into CALIBRATING leaves on a free line with nothing to send: the run its due flags ask for, the resume
mark cleared, CALIBRATE on the line, the report pending. -/
def State.calibrated (p : PressNo) (s : State) : State :=
  (s.modPress p fun x =>
    { x with
      state := .calibrating { long := (s.pressRec p).longDue, count := if (s.pressRec p).longDue then 3 else 1
                              started := 0 } 0
      resumeMark := false
      line := some (.calibrate (s.pressRec p).longDue (if (s.pressRec p).longDue then 3 else 1)) }).mark (.press p)

theorem State.enterCalibrating_eq (not_busy : ∀ m, (s.press p).state ≠ .busy m) (cover : (s.press p).cover ≠ some true)
    (queue : (s.press p).txq = []) (line : (s.press p).line = none) :
    s.enterCalibrating p = ((s.calibrated p).wantDemand).push (.examine p) := by
  rw [State.enterCalibrating, if_neg cover]
  dsimp only
  rw [State.enter_other not_busy, State.putState_eq, State.give]
  simp only [State.modPress_wantDemand, State.modPress_mark, State.modPress_twice]
  rw [State.pump_control (f := .calibrate (s.pressRec p).longDue (if (s.pressRec p).longDue then 3 else 1)) (rest := [])
    (by simpa using line) (by simp [queue, PressRec.newRun]) rfl]
  simp only [State.modPress_wantDemand, State.modPress_mark, State.modPress_twice, State.calibrated, PressRec.newRun]
  exact congrArg (fun t => ((State.mark (.press p) t).wantDemand).push (.examine p)) (State.modPress_congr (by simp [queue]))

/-- A calibrating press on which no sheet starts stays as it is (R114). -/
theorem State.examine_calibrating {run : CalRun} {t : Nat} (h : (s.press p).state = .calibrating run t)
    (rests : NoStart s p) : s.examine p = s := by
  have ready : s.pressReady p = false := by
    rw [Bool.eq_false_iff, Ne, State.pressReady_iff]
    exact fun free => free rests
  simp only [State.examine, h, State.examinePattern, ready, Bool.and_false, Bool.false_eq_true, if_false]
  cases s.patternMedia p <;> rfl

/-- The entry into CALIBRATING is the whole effect where the press has no credit and wake demand has nothing to ask. -/
theorem Settles.calibrated {k : Nat} (hq : Quiet s) (not_busy : ∀ m, (s.press p).state ≠ .busy m)
    (cover : (s.press p).cover ≠ some true) (queue : (s.press p).txq = []) (line : (s.press p).line = none)
    (credits : (s.press p).credits = 0) (demand : Settles k (s.calibrated p).wantDemand (s.calibrated p)) :
    Settles (k + 1) (s.enterCalibrating p) (s.calibrated p) := by
  rw [State.enterCalibrating_eq not_busy cover queue line]
  have quiet : Quiet (s.calibrated p) := by simpa [State.calibrated] using hq
  refine Settles.examine (by simpa using quiet.1) ?_
  have state : ((s.calibrated p).wantDemand.press p).state = .calibrating
      { long := (s.pressRec p).longDue, count := if (s.pressRec p).longDue then 3 else 1, started := 0 } 0 := by
    simp [State.calibrated]
  rw [State.examine_calibrating state (.inl (by simp [State.calibrated, credits]))]
  exact demand

theorem State.awake_calibrated (h : Awake s) : Awake (s.calibrated p) :=
  (h.modPress p (f := fun x =>
    { x with
      state := .calibrating { long := (s.pressRec p).longDue, count := if (s.pressRec p).longDue then 3 else 1
                              started := 0 } 0
      resumeMark := false
      line := some (.calibrate (s.pressRec p).longDue (if (s.pressRec p).longDue then 3 else 1)) })
    (by simp)).of_press fun q => by simp [State.calibrated]

end Calibrate

/-! ## The decision of a job (R67, R74) -/

section DecideJob

variable {s : State} {p : PressNo} {e : Entry} {j : Job}

/-- An idle press of a job's target that fits it (R65). -/
def FreeFor (s : State) (j : Job) (q : PressNo) : Prop :=
  (s.press q).state.isIdle = true ∧ s.isOf j.target q = true ∧ s.fits q j = true

/-- A press with a calibration due flag (R74). -/
def Due (s : State) (q : PressNo) : Prop := (s.pressRec q).shortDue = true ∨ (s.pressRec q).longDue = true

theorem State.due_iff {q : PressNo} : (s.pressRec q).due = true ↔ Due s q := by simp [PressRec.due, Due]

theorem State.free_iff {q : PressNo} (hq : s.agenda = []) : ((s.press q).state.isIdle && s.isOf j.target q && s.fits q j
    && !s.agenda.contains (.decidePress q)) = true ↔ FreeFor s j q := by
  simp [FreeFor, hq, and_assoc]

/-- An eligible job is bound to the lowest idle fitting press without a due flag (R71). -/
theorem State.decideJob_bind (live : s.job e = some j) (eligible : s.eligible e = true) (hq : s.agenda = [])
    (free : FreeFor s j p) (fit : ¬ Due s p) (lowest : ∀ q < p, FreeFor s j q → Due s q) : s.decideJob e = s.bind p e := by
  have found : (s.idleFitting j).find? (fun p => !(s.pressRec p).due) = some p := by
    rw [State.idleFitting, List.find?_filter, allPresses, find?_finRange_iff]
    refine ⟨?_, fun q hq' => ?_⟩
    · have undue : (s.pressRec p).due = false := by rw [Bool.eq_false_iff, Ne, State.due_iff]; exact fit
      rw [(State.free_iff hq).mpr free, undue]
      rfl
    · by_cases h : FreeFor s j q
      · rw [State.due_iff.mpr (lowest q hq' h)]
        simp
      · have no := (not_congr (State.free_iff (j := j) (q := q) hq)).mpr h
        rw [Bool.not_eq_true] at no
        rw [no]
        rfl
  simp only [State.decideJob, live, eligible, if_true, found]

/-- Where every idle fitting press of an eligible job has a due flag, the lowest of them calibrates (R74). -/
theorem State.decideJob_calibrate (live : s.job e = some j) (eligible : s.eligible e = true) (hq : s.agenda = [])
    (free : FreeFor s j p) (all : ∀ q, FreeFor s j q → Due s q ∧ p ≤ q) : s.decideJob e = s.enterCalibrating p := by
  have none_fit : (s.idleFitting j).find? (fun p => !(s.pressRec p).due) = none := by
    refine List.find?_eq_none.mpr fun q hq' => ?_
    have h := (State.free_iff hq).mp (List.mem_filter.mp hq').2
    simp [State.due_iff.mpr (all q h).1]
  have first : (s.idleFitting j).head? = some p := by
    rw [State.idleFitting, List.head?_filter, allPresses, find?_finRange_iff]
    refine ⟨(State.free_iff hq).mpr free, fun q hq' => ?_⟩
    rw [Bool.eq_false_iff, Ne, State.free_iff hq]
    exact fun h => absurd hq' (Fin.not_lt.mpr (all q h).2)
  simp only [State.decideJob, live, eligible, if_true, none_fit, first]

/-- With no press IDLE an eligible job asks for wake demand alone (R67). -/
theorem State.decideJob_none_idle (live : s.job e = some j) (eligible : s.eligible e = true)
    (none_idle : ∀ q, (s.press q).state.isIdle = false) : s.decideJob e = s.wantDemand := by
  have empty : s.idleFitting j = [] := by simp [State.idleFitting, none_idle]
  simp [State.decideJob, live, eligible, empty]

end DecideJob

end Sys2Proof.Machine
end

section
/-! SUPPORT. Wake demand while one job alone is offered to the presses (R75 to R78). -/

namespace Sys2Proof.Machine

/-! ## What eligibility and the pool in force depend on -/

theorem State.eligible_congr {s t : State} (jobs : t.jobs = s.jobs) (spool : t.spool = s.spool) :
    t.eligible = s.eligible := by
  have job : t.job = s.job := by
    funext d
    simp only [State.job, jobs]
  funext e
  simp only [State.eligible, State.cursorReady, job, State.sheetReady_congr spool]

theorem State.poolInForce_congr {s t : State} {p : PressNo} (bound : t.boundJob p = s.boundJob p)
    (held : (t.press p).heldPool = (s.press p).heldPool) (pool : t.pressRec p = s.pressRec p) :
    t.poolInForce p = s.poolInForce p := by
  simp only [State.poolInForce, bound, held, pool]

/-- A job that is not bound, written so again, leaves every press its bound job (R1). -/
theorem State.boundJob_setJob_unbound {s : State} {e : Entry} {j i : Job} (live : s.job e = some j)
    (hj : j.state.bound = none) (hi : i.state.bound = none) : (s.setJob e (some i)).boundJob = s.boundJob := by
  have same : ∀ p d, ((s.setJob e (some i)).job d).any (fun k => k.state.bound == some p) =
      (s.job d).any fun k => k.state.bound == some p := fun p d => by
    rw [State.job_setJob]
    split
    case isTrue he => simp [← he, live, hj, hi]
    case isFalse => rfl
  funext p
  simp only [State.boundJob, same]

/-! ## Demand with one job offered -/

/-- One live job alone is offered to the presses (R65, R67). -/
structure Offers (s : State) (e : Entry) (j : Job) : Prop where
  live : s.job e = some j
  only : ∀ d, s.offered d = true ↔ d = e

namespace Offers

variable {s : State} {e : Entry} {j : Job} (h : Offers s e j)
include h

theorem pressDemand_iff (q : PressNo) : s.pressDemand q = true ↔ j.target = .press q ∧ s.fits q j = true := by
  simp [State.pressDemand, h.only, h.live, allEntries]

theorem poolJobs_of (k : PoolNo) : s.poolJobs k = if j.target = .pool k then [e] else [] := by
  have only : ∀ d, (s.offered d && (s.job d).any fun i => i.target == .pool k) =
      (decide (j.target = .pool k) && decide (d = e)) := fun d => by
    by_cases hd : d = e
    · subst hd
      simp [(h.only d).mpr rfl, h.live, Bool.beq_eq_decide_eq]
    · have no : s.offered d = false := by rw [Bool.eq_false_iff, Ne, h.only]; exact hd
      simp [no, hd]
  rw [State.poolJobs, List.filter_congr fun d _ => only d]
  split
  case isTrue ht =>
    have one : allEntries.count e = 1 := List.count_eq_one_of_mem (List.nodup_finRange 64) (List.mem_finRange e)
    simp [ht, List.filter_eq, one]
  case isFalse ht => simp [ht]

theorem poolFitting_iff (k : PoolNo) (q : PressNo) :
    s.poolFitting k q = true ↔ s.poolInForce q = some k ∧ j.target = .pool k ∧ s.fits q j = true := by
  rw [State.poolFitting, h.poolJobs_of]
  split
  case isTrue ht => simp [ht, h.live]
  case isFalse ht => simp [ht]

end Offers

/-! ## Wake demand with nothing left to ask -/

/-- Every step of wake demand is done: who is asked for has been asked, who waits is wanted, nobody goes to sleep
(R76 to R78, R109). -/
structure Served (s : State) : Prop where
  press : ∀ q, (s.press q).state = .asleep → s.pressDemand q = false
  pool : ∀ k, s.poolAwake k < s.poolWanted k → ∀ q, s.poolFitting k q = true → (s.press q).state ≠ .asleep
  wait : ∀ q, s.withdrawable q = true →
    ∃ k, s.poolInForce q = some k ∧ s.poolFitting k q = true ∧ s.poolAwake k ≤ s.poolWanted k
  keep : ∀ q t, (s.press q).state ≠ .idle true t

namespace Served

variable {s : State} (h : Served s)
include h

theorem wakeForPress (q : PressNo) : s.wakeForPress q = s := by
  by_cases asleep : (s.press q).state = .asleep <;> simp [State.wakeForPress, asleep, h.press]

theorem wakeForPool (k : PoolNo) (n : Nat) : s.wakeForPool k n = s := by
  cases n with
  | zero => rfl
  | succ n =>
    rw [State.wakeForPool]
    split
    case isTrue short =>
      have nobody : (s.poolPresses k).find? (fun q => (s.press q).state == .asleep) = none := by
        refine List.find?_eq_none.mpr fun q hq => ?_
        simpa using h.pool k short q (List.mem_filter.mp hq).2
      rw [nobody]
    case isFalse => rfl

theorem trimPress (q : PressNo) : s.trimPress q = s := by
  unfold State.trimPress
  by_cases waits : s.withdrawable q = true
  · obtain ⟨k, hk, fits, -⟩ := h.wait q waits
    simp [hk, fits]
  · simp [waits]

theorem trimPool (k : PoolNo) : s.trimPool k (s.poolAwake k - s.poolWanted k) = s := by
  by_cases excess : s.poolAwake k ≤ s.poolWanted k
  · rw [Nat.sub_eq_zero_of_le excess]
    rfl
  · obtain ⟨n, hn⟩ : ∃ n, s.poolAwake k - s.poolWanted k = n + 1 := ⟨s.poolAwake k - s.poolWanted k - 1, by omega⟩
    have nobody : (allPresses.filter fun q => s.poolInForce q == some k).reverse.find? s.withdrawable = none := by
      refine List.find?_eq_none.mpr fun q hq waits => ?_
      obtain ⟨i, hi, -, few⟩ := h.wait q waits
      have of_k : s.poolInForce q = some k := by simpa using (List.mem_filter.mp (List.mem_reverse.mp hq)).2
      rw [Option.some.inj (hi.symm.trans of_k)] at few
      exact excess few
    rw [hn, State.trimPool, nobody]

/-- The withdrawals, and the presses kept awake, do nothing. -/
theorem trims :
    (allPresses.foldl (fun s p => State.keepWanted p s)
      (allPresses.foldl (fun s p => State.trimPress p s)
        ((List.finRange 4).foldl (fun s q => State.trimPool q (s.poolAwake q - s.poolWanted q) s)
          (allPresses.foldl (fun s p => if (s.poolInForce p).isNone then State.trimPress p s else s) s)))) = s := by
  have none_pool : ∀ p, (if (s.poolInForce p).isNone then State.trimPress p s else s) = s := fun p => by
    rw [h.trimPress p, ite_self]
  have keep : ∀ p, State.keepWanted p s = s := fun p => by
    unfold State.keepWanted
    split
    case h_1 t pending => exact absurd pending (h.keep p t)
    case h_2 => rfl
  rw [foldl_same (fun (s : State) p => if (s.poolInForce p).isNone then State.trimPress p s else s) _ none_pool,
    foldl_same (fun (s : State) q => State.trimPool q (s.poolAwake q - s.poolWanted q) s) _ h.trimPool,
    foldl_same (fun s p => State.trimPress p s) _ h.trimPress]
  exact foldl_same (fun s p => State.keepWanted p s) _ keep

theorem evalDemand : s.evalDemand = s := by
  unfold State.evalDemand
  dsimp only
  rw [foldl_same (fun s p => State.wakeForPress p s) _ h.wakeForPress,
    foldl_same (fun s q => State.wakeForPool q 12 s) _ fun k => h.wakeForPool k 12]
  exact h.trims

end Served

/-- A fold of operations of which one alone does something does it once. -/
theorem foldl_once {α β : Type} (f : β → α → β) {b c : β} {a : α} (one : f b a = c) (others : ∀ x, x ≠ a → f b x = b)
    (after : ∀ x, f c x = c) (l : List α) (mem : a ∈ l) : l.foldl f b = c := by
  induction l with
  | nil => simp at mem
  | cons x l ih =>
    by_cases hx : x = a
    · rw [List.foldl_cons, hx, one]
      exact foldl_same f l after
    · rw [List.foldl_cons, others x hx]
      exact ih (List.mem_of_ne_of_mem (Ne.symm hx) mem)

/-- Press demand that one press alone answers (R76). -/
theorem State.evalDemand_press {s t : State} {p : PressNo} (one : s.wakeForPress p = t)
    (others : ∀ q, q ≠ p → s.wakeForPress q = s) (h : Served t) : s.evalDemand = t := by
  unfold State.evalDemand
  dsimp only
  rw [foldl_once (fun s p => State.wakeForPress p s) one others h.wakeForPress allPresses (List.mem_finRange p),
    foldl_same (fun s q => State.wakeForPool q 12 s) _ fun k => h.wakeForPool k 12]
  exact h.trims

/-- Pool demand of one pool alone (R77). -/
theorem State.evalDemand_pool {s t : State} {k : PoolNo} (press : ∀ q, s.wakeForPress q = s) (one : s.wakeForPool k 12 = t)
    (others : ∀ i, i ≠ k → s.wakeForPool i 12 = s) (h : Served t) : s.evalDemand = t := by
  unfold State.evalDemand
  dsimp only
  rw [foldl_same (fun s p => State.wakeForPress p s) _ press,
    foldl_once (fun s q => State.wakeForPool q 12 s) one others (fun i => h.wakeForPool i 12) _ (List.mem_finRange k)]
  exact h.trims

/-! ## A wake on demand -/

section Wake

variable {s : State} {p : PressNo} {e : Entry} {j : Job}

/-- What a wake request on demand leaves where others wait for the circuit (R105). -/
def State.wakeAsked (p : PressNo) (s : State) : State :=
  ((s.modPress p fun x => { x with state := .wakeWait .demand }).mark (.press p)).modCircuit (s.pressRec p).circuit
    fun c => { c with queue := c.queue ++ [p] }

theorem State.requestWake_queued (asleep : (s.press p).state = .asleep)
    (others : (s.circuit (s.pressRec p).circuit).queue ≠ []) :
    s.requestWake p .demand = (s.wakeAsked p).wantDemand := by
  rw [State.requestWake, State.enter_other (by simp [asleep]), State.putState_eq, State.joinQueue]
  simp [others, State.wakeAsked]

/-- The press a job alone offered is to wake: it is ASLEEP and of the job's target, fits it, others wait for its circuit,
and, where the target is a pool, it is the lowest one of its fitting presses that is ASLEEP, none of which is awake. -/
structure Wakes (s : State) (p : PressNo) (j : Job) : Prop where
  asleep : (s.press p).state = .asleep
  queued : (s.circuit (s.pressRec p).circuit).queue ≠ []
  isOf : s.isOf j.target p = true
  fits : s.fits p j = true
  nobody : ∀ q, (s.press q).state.isIdle = false ∧ (s.press q).state ≠ .wakeWait .demand
  target : j.target = .press p ∨ ((∃ k, j.target = .pool k) ∧ ∀ q, s.isOf j.target q = true → s.fits q j = true →
    (s.press q).state = .down ∨ (s.press q).state = .sleeping ∨ ((s.press q).state = .asleep ∧ p ≤ q))

theorem Offers.wakeAsked (h : Offers s e j) : Offers (s.wakeAsked p) e j := by
  refine ⟨by simpa [State.wakeAsked] using h.live, fun d => ?_⟩
  have offered : (s.wakeAsked p).offered d = s.offered d := by
    rw [State.offered, State.eligible_congr (s := s) (by simp [State.wakeAsked]) (by simp [State.wakeAsked])]
    simp [State.wakeAsked, State.offered]
  rw [offered]
  exact h.only d

theorem State.fits_wakeAsked : (s.wakeAsked p).fits = s.fits := by
  funext q i
  simp [State.fits, State.wakeAsked]

theorem State.poolInForce_wakeAsked (q : PressNo) : (s.wakeAsked p).poolInForce q = s.poolInForce q := by
  refine State.poolInForce_congr (by simp [State.wakeAsked]) ?_ (by simp [State.wakeAsked])
  by_cases hq : p = q <;> simp [State.wakeAsked, State.press_modPress, hq]

theorem State.press_wakeAsked (q : PressNo) : ((s.wakeAsked p).press q).state =
    if p = q then .wakeWait .demand else (s.press q).state := by
  by_cases hq : p = q <;> simp [State.wakeAsked, State.press_modPress, hq]

theorem Offers.poolFitting_wakeAsked (o : Offers s e j) (k : PoolNo) (q : PressNo) :
    (s.wakeAsked p).poolFitting k q = s.poolFitting k q := by
  rw [Bool.eq_iff_iff, o.poolFitting_iff, o.wakeAsked.poolFitting_iff, State.fits_wakeAsked, State.poolInForce_wakeAsked]

theorem Offers.poolWanted_wakeAsked (o : Offers s e j) (k : PoolNo) : (s.wakeAsked p).poolWanted k = s.poolWanted k := by
  have presses : (s.wakeAsked p).poolPresses k = s.poolPresses k :=
    List.filter_congr fun q _ => o.poolFitting_wakeAsked k q
  rw [State.poolWanted, State.poolWanted, presses, o.poolJobs_of, o.wakeAsked.poolJobs_of]

/-- The fitting presses of the pool an offered job has as its target (R77). -/
theorem Offers.fitting_iff (o : Offers s e j) {k : PoolNo} (ht : j.target = .pool k) (q : PressNo) :
    s.poolFitting k q = true ↔ s.isOf j.target q = true ∧ s.fits q j = true := by
  simp [o.poolFitting_iff, ht, State.isOf]

namespace Wakes

variable (w : Wakes s p j) {k : PoolNo} (ht : j.target = .pool k)
include w

theorem target_of_press {q : PressNo} (hq : j.target = .press q) : p = q := by
  simpa [hq, State.isOf] using w.isOf

section Pool

include ht

theorem poolInForce : s.poolInForce p = some k := by simpa [ht, State.isOf] using w.isOf

variable (o : Offers s e j)
include o

/-- The figure of presses wanted is 1: one job, and at least one press that fits it (R77). -/
theorem poolWanted : s.poolWanted k = 1 := by
  have mem : p ∈ s.poolPresses k :=
    List.mem_filter.mpr ⟨List.mem_finRange p, (o.fitting_iff ht p).mpr ⟨w.isOf, w.fits⟩⟩
  have some_press := List.length_pos_of_mem mem
  rw [State.poolWanted, o.poolJobs_of, if_pos ht]
  exact Nat.min_eq_left some_press

theorem unawake {q : PressNo} (hq : s.poolFitting k q = true) : (s.press q).state.awake = false := by
  obtain ⟨isOf, fits⟩ := (o.fitting_iff ht q).mp hq
  have target := w.target.resolve_left (by simp [ht])
  rcases target.2 q isOf fits with down | sleeping | ⟨asleep, -⟩ <;> simp [PressState.awake, *]

/-- No fitting press is awake before the wake is asked for (R77). -/
theorem poolAwake : s.poolAwake k = 0 := by
  refine List.length_eq_zero_iff.mpr (List.filter_eq_nil_iff.mpr fun q hq => ?_)
  simp [w.unawake ht o (List.mem_filter.mp hq).2]

/-- The press that has been asked for is the only fitting one that counts as awake (R77). -/
theorem poolAwake_asked : (s.wakeAsked p).poolAwake k = 1 := by
  have one : allPresses.count p = 1 := List.count_eq_one_of_mem (List.nodup_finRange 12) (List.mem_finRange p)
  have only : ∀ q, (((s.wakeAsked p).press q).state.awake && (s.wakeAsked p).poolFitting k q) = decide (q = p) :=
    fun q => by
    rw [o.poolFitting_wakeAsked, State.press_wakeAsked]
    by_cases hq : p = q
    · subst hq
      simp [PressState.awake, (o.fitting_iff ht p).mpr ⟨w.isOf, w.fits⟩]
    · rw [if_neg hq]
      by_cases fits : s.poolFitting k q = true
      · simp [w.unawake ht o fits, Ne.symm hq]
      · simp [fits, Ne.symm hq]
  rw [State.poolAwake, State.poolPresses, List.filter_filter, List.filter_congr fun q _ => only q, List.filter_eq, one]
  rfl

end Pool

/-- Once the wake is asked for, wake demand has nothing left to do (R76 to R78). -/
theorem served (o : Offers s e j) : Served (s.wakeAsked p) := by
  have fits : (s.wakeAsked p).fits p j = true := by rw [State.fits_wakeAsked]; exact w.fits
  have pool_target : ∀ {k q}, (s.wakeAsked p).poolFitting k q = true → j.target = .pool k := fun hq =>
    ((o.wakeAsked.poolFitting_iff _ _).mp hq).2.1
  refine ⟨fun q asleep => ?_, fun k short q hq _ => ?_, fun q waits => ?_, fun q t idle => ?_⟩
  · rw [Bool.eq_false_iff, Ne, o.wakeAsked.pressDemand_iff]
    rintro ⟨target, -⟩
    rw [State.press_wakeAsked, if_pos (w.target_of_press target)] at asleep
    exact absurd asleep (by simp)
  · have target := pool_target hq
    rw [w.poolAwake_asked target o, o.poolWanted_wakeAsked, w.poolWanted target o] at short
    exact absurd short (by omega)
  · obtain ⟨state, unnamed⟩ : ((s.wakeAsked p).press q).state = .wakeWait .demand ∧ (s.wakeAsked p).pressDemand q = false := by
      simpa [State.withdrawable] using waits
    rw [State.press_wakeAsked] at state
    obtain rfl : p = q := by
      by_contra other
      rw [if_neg other] at state
      exact (w.nobody q).2 state
    have not_named : j.target ≠ .press p := fun named => by
      rw [(o.wakeAsked.pressDemand_iff p).mpr ⟨named, fits⟩] at unnamed
      exact absurd unnamed (by simp)
    obtain ⟨⟨k, target⟩, -⟩ := w.target.resolve_left not_named
    refine ⟨k, by rw [State.poolInForce_wakeAsked]; exact w.poolInForce target, ?_, ?_⟩
    · rw [o.poolFitting_wakeAsked]
      exact (o.fitting_iff target p).mpr ⟨w.isOf, w.fits⟩
    · rw [w.poolAwake_asked target o, o.poolWanted_wakeAsked, w.poolWanted target o]
  · rw [State.press_wakeAsked] at idle
    split at idle
    · exact absurd idle (by simp)
    · exact absurd (w.nobody q).1 (by simp [idle, PressState.isIdle])

/-- Wake demand asks for the press the offered job is to wake, and for no other (R76, R77). -/
theorem evalDemand (o : Offers s e j) : s.evalDemand = (s.wakeAsked p).wantDemand := by
  have done : Served (s.wakeAsked p).wantDemand := ⟨(w.served o).press, (w.served o).pool, (w.served o).wait, (w.served o).keep⟩
  have unnamed : ∀ q, j.target ≠ .press q → s.wakeForPress q = s := fun q hq => by
    have no : s.pressDemand q = false := by
      rw [Bool.eq_false_iff, Ne, o.pressDemand_iff]
      exact fun named => hq named.1
    simp [State.wakeForPress, no]
  rcases w.target with target | ⟨⟨k, target⟩, lowest⟩
  · refine State.evalDemand_press (p := p) ?_ (fun q hq => unnamed q ?_) done
    · rw [State.wakeForPress, w.asleep, (o.pressDemand_iff p).mpr ⟨target, w.fits⟩]
      simpa using State.requestWake_queued w.asleep w.queued
    · simp [target, Ne.symm hq]
  · refine State.evalDemand_pool (k := k) (fun q => unnamed q (by simp [target])) ?_ (fun i hi => ?_) done
    · have first : (s.poolPresses k).find? (fun q => (s.press q).state == .asleep) = some p := by
        rw [State.poolPresses, List.find?_filter, allPresses, find?_finRange_iff]
        refine ⟨by simp [w.asleep, (o.fitting_iff target p).mpr ⟨w.isOf, w.fits⟩], fun q hq => ?_⟩
        by_cases fitting : s.poolFitting k q = true
        · obtain ⟨isOf, fits⟩ := (o.fitting_iff target q).mp fitting
          rcases lowest q isOf fits with down | sleeping | ⟨-, above⟩
          · simp [down]
          · simp [sleeping]
          · exact absurd hq (Fin.not_lt.mpr above)
        · simp [fitting]
      rw [State.wakeForPool, w.poolAwake target o, w.poolWanted target o, first, if_pos (by decide)]
      dsimp only
      rw [State.requestWake_queued w.asleep w.queued]
      exact done.wakeForPool k 11
    · have none_wanted : s.poolWanted i = 0 := by
        rw [State.poolWanted, o.poolJobs_of, if_neg (by simp [target, Ne.symm hi])]
        exact Nat.zero_min _
      rw [State.wakeForPool, none_wanted, if_neg (Nat.not_lt_zero _)]

/-- The wake is the whole effect of wake demand. -/
theorem settles (hq : Quiet s) (o : Offers s e j) : Settles 3 s.wantDemand (s.wakeAsked p) := by
  have quiet : Quiet (s.wakeAsked p) := by simpa [State.wakeAsked] using hq
  refine Settles.demand hq ?_
  rw [w.evalDemand o]
  refine Settles.demand quiet ?_
  rw [(w.served o).evalDemand]
  exact Settles.quiet quiet

end Wakes

end Wake

end Sys2Proof.Machine
end

section
/-! PROOF. JOB HOLD and JOB RELEASE, and the decision of a released job (R13, R14, R67, R71, R74 to R77). -/

namespace Sys2Proof.Machine

/-! ## The states the requests leave -/

section Requests

variable {s : State} {h : Handle} {e : Entry} {j : Job}

/-- A job a hold takes to HELD, where no press can be bound or woken (R13). -/
theorem Settles.moveJob_still (hq : Quiet s) (still : Still s) (live : s.job e = some j) (st : JobState) :
    Settles 2 (s.moveJob e st) ((s.setJob e (some { j with state := st, starve := none })).mark (.job e)) := by
  rw [State.moveJob_live live]
  exact Settles.demand_still (by simpa using hq) (by simpa using still)

theorem State.setHostHold_live (live : s.job e = some j) :
    s.setHostHold e true = s.setJob e (some { j with hostHold := true }) := State.modJob_live live _

/-- A JOB HOLD of a waiting job sets its host hold flag (R13). -/
theorem performRequest_holdWaiting (hn : Names s h e j) (hst : j.state = .creditWait) :
    performRequest (.jobHold h) s = (okWith [], s.setHostHold e true) := by
  rw [performRequest, reqJobHold, withJob_names hn]
  simp only [hst]

/-- A JOB HOLD of a QUEUED job takes it to HELD (R13). -/
theorem performRequest_holdQueued (hn : Names s h e j) {t : Time} (hst : j.state = .queued t) :
    performRequest (.jobHold h) s = (okWith [], ((s.setHostHold e true).moveJob e .held).settle) := by
  rw [performRequest, reqJobHold, withJob_names hn]
  simp only [hst]

/-- A JOB HOLD of a STARVED job takes it to HELD, and JOB_STARVED ends (R13). -/
theorem performRequest_holdStarved (hn : Names s h e j) (hst : j.state = .starved) : performRequest (.jobHold h) s =
    (okWith [], (((s.setHostHold e true).moveJob e .held).endCondition .jobStarved (.job j.serial)).settle) := by
  rw [performRequest, reqJobHold, withJob_names hn]
  simp only [hst]

/-- A JOB HOLD of a PRINTING job begins a drain (R13). -/
theorem performRequest_holdPrinting (hn : Names s h e j) {p : PressNo} (hst : j.state = .printing p) :
    performRequest (.jobHold h) s = (okWith [], ((s.setHostHold e true).startDrain p e .held).settle) := by
  rw [performRequest, reqJobHold, withJob_names hn]
  simp only [hst]

/-- A JOB RELEASE of a waiting job clears its hold flags (R14). -/
theorem performRequest_releaseWaiting (hn : Names s h e j) (hst : j.state = .creditWait) :
    performRequest (.jobRelease h) s = (okWith [], s.modJob e Job.unheld) := by
  rw [performRequest, reqJobRelease, withJob_names hn]
  simp only [hst]

/-- A drain toward HELD begun on an empty path leaves the job HELD (R19). -/
theorem State.startDrain_held {p : PressNo} (hb : ∀ m, (s.press p).state = .busy m → m = none)
    (hp : (s.press p).path = []) (live : s.job e = some j) : s.startDrain p e .held =
      (((s.setJob e (some { j with state := .held, starve := none })).mark (.job e)).wantDemand).releasePress p := by
  rw [State.startDrain_empty hb hp live, State.takeTarget]
  simp only [State.job_wantDemand, State.job_mark, State.job_setJob_self]
  rw [State.moveJob_live (j := { j with state := .draining p .held, starve := none }) (by simp)]
  simp

/-- What a JOB RELEASE of a HELD job leaves, but for the job's decision (R14, R15). -/
def State.released (e : Entry) (j : Job) (st : JobState) (s : State) : State :=
  (s.setJob e (some { j with
    hostHold := false, state := st, starve := none
    commit := j.commit.map fun c => { c with filter := { c.filter with hold := false } } })).mark (.job e)

theorem performRequest_release (hn : Names s h e j) (hst : j.state = .held) : performRequest (.jobRelease h) s =
    (okWith [], (((s.released e j (.queued s.time)).wantDemand).push (.decideJob e)).settle) := by
  have run : performRequest (.jobRelease h) s = (okWith [], ((s.modJob e Job.unheld).enterQueued e).settle) := by
    rw [performRequest, reqJobRelease, withJob_names hn]
    simp only [hst]
  rw [run, State.modJob_live hn.live, State.enterQueued_live (State.job_setJob_self ..), State.setJob_twice]
  rfl

@[simp] theorem State.press_released (st : JobState) (q : PressNo) : (s.released e j st).press q = s.press q := by
  simp [State.released]

@[simp] theorem State.pressRec_released (st : JobState) (q : PressNo) : (s.released e j st).pressRec q = s.pressRec q := by
  simp [State.released]

@[simp] theorem State.circuit_released (st : JobState) (c : CircuitNo) : (s.released e j st).circuit c = s.circuit c := by
  simp [State.released]

theorem State.fits_released (st : JobState) (q : PressNo) : (s.released e j st).fits q = s.fits q := by
  funext i
  simp [State.fits]

section Released

variable (live : s.job e = some j) (hst : j.state = .held)
include live hst

theorem State.boundJob_released (t : Time) : (s.released e j (.queued t)).boundJob = s.boundJob := by
  rw [State.boundJob_congr (s := s.setJob e (some { j.unheld with state := .queued t, starve := none }))
    (by simp [State.released, Job.unheld])]
  exact State.boundJob_setJob_unbound live (by rw [hst]; rfl) rfl

theorem State.isOf_released (t : Time) : (s.released e j (.queued t)).isOf = s.isOf := by
  funext target q
  have pool : (s.released e j (.queued t)).poolInForce q = s.poolInForce q :=
    State.poolInForce_congr (congrFun (State.boundJob_released live hst t) q) (by simp [State.released])
      (by simp [State.released])
  simp only [State.isOf, pool]

theorem FreeFor.released {t : Time} (q : PressNo) : FreeFor (s.released e j (.queued t))
    { j.unheld with state := .queued t, starve := none } q ↔ FreeFor s j q := by
  simp only [FreeFor, State.isOf_released live hst, State.fits_released, State.press_released]
  rfl

end Released

theorem Due.released {st : JobState} (q : PressNo) : Due (s.released e j st) q ↔ Due s q := by
  simp only [Due, State.pressRec_released]

theorem State.job_released (st : JobState) : (s.released e j st).job e =
    some { j.unheld with state := st, starve := none } := by
  simp [State.released, Job.unheld]

/-- The hold flags cleared, the sheet that waits for the press still does (R15, R46). -/
theorem SheetWaits.released {p : PressNo} (w : SheetWaits s p e j) (st : JobState) :
    SheetWaits (s.released e j st) p e { j.unheld with state := st, starve := none } := by
  obtain ⟨c, n, sh, hc, hn, hsh, loaded, complete⟩ := w.sheet
  refine ⟨⟨{ c with filter := { c.filter with hold := false } }, n, sh, by simp [Job.unheld, hc], hn, hsh, ?_, ?_⟩,
    w.received⟩
  · rwa [State.loaded, State.pressRec_released]
  · rwa [State.pageIs_congr (s := s) (by simp [State.released])]

@[simp] theorem quiet_released (st : JobState) : Quiet (s.released e j st) ↔ Quiet s := by
  simp [State.released]

/-- The decision of the released job that is the only one QUEUED: the press it is to wake is asked for (R67, R75). -/
theorem Settles.wakes {p : PressNo} (hq : Quiet s) (o : Offers s e j) (w : Wakes s p j)
    (others : ∀ d, d ≠ e → s.eligible d = false) :
    Settles 5 (s.wantDemand.push (.decideJob e)) (s.wakeAsked p) := by
  have unoffered : ∀ d, (s.push (.decideJob e)).offered d = false := fun d => by
    by_cases hd : d = e
    · simp [hd, State.offered, State.push, hq.1]
    · have no : (s.push (.decideJob e)).eligible d = false := others d hd
      simp [State.offered, no]
  have eligible : s.eligible e = true := ((Bool.and_eq_true_iff).mp ((o.only e).mpr rfl)).1
  refine Settles.demand_decision hq rfl ?_
  rw [State.evalDemand_unoffered unoffered fun q => (w.nobody q).2]
  refine Settles.task hq.1 (by simp [State.demandNext, State.push, hq.2]) ?_
  show Settles 3 (s.decideJob e) _
  rw [State.decideJob_none_idle o.live eligible fun q => (w.nobody q).1]
  exact w.settles hq o

/-! ## The decision of a released job (R67) -/

section Decision

variable {p : PressNo} (hq : Quiet s) (live : s.job e = some j) (hst : j.state = .held) (waits : SheetWaits s p e j)
include hq live hst waits

/-- Where wake demand has nobody to ask, a released job is bound to the lowest idle fitting press without a due flag
(R71). -/
theorem Settles.release_bind (aw : Awake s) (free : FreeFor s j p) (cover : (s.press p).cover ≠ some true)
    (credits : (s.press p).credits = 0) (unbound : ∀ d i, s.job d = some i → i.state.bound ≠ some p) (undue : ¬ Due s p)
    (lowest : ∀ q < p, FreeFor s j q → Due s q) :
    Settles 5 ((s.released e j (.queued s.time)).wantDemand.push (.decideJob e))
      (((s.released e j (.printing p)).modPress p fun x =>
        { x with
          state := .busy none, heldPool := none
          fair := if s.ret.schedule.mode = .fair then j.account else x.fair }).mark (.press p)) := by
  have job := State.job_released (s := s) (e := e) (j := j) (.queued s.time)
  have quiet : Quiet (s.released e j (.queued s.time)) := by simpa using hq
  have waits := waits.released (.queued s.time)
  have unbound' : ∀ d i, (s.released e j (.queued s.time)).job d = some i → i.state.bound ≠ some p := fun d i hi => by
    by_cases hd : d = e
    · subst hd
      rw [← Option.some.inj (job.symm.trans hi)]
      exact (Option.some_ne_none p).symm
    · exact unbound d i (by simpa [State.released, State.job_setJob, Ne.symm hd] using hi)
  have bound := Settles.bound quiet (aw.of_press (by simp)) job (by simpa using free.1) (by simpa using cover)
    (by simpa using credits) unbound' waits.sheet
  have same : (s.released e j (.queued s.time)).boundTo p e { j.unheld with state := .queued s.time, starve := none } =
      ((s.released e j (.printing p)).modPress p fun x =>
        { x with
          state := .busy none, heldPool := none
          fair := if s.ret.schedule.mode = .fair then j.account else x.fair }).mark (.press p) := by
    simp [State.boundTo, State.released, Job.unheld]
    rfl
  refine Settles.decision_awake quiet (aw.of_press (by simp)) rfl ?_
  show Settles 3 ((s.released e j (.queued s.time)).decideJob e) _
  rw [State.decideJob_bind job (waits.eligible job rfl) quiet.1 ((FreeFor.released live hst p).mpr free)
    (mt (Due.released p).mp undue) fun q hq h => (Due.released q).mpr (lowest q hq ((FreeFor.released live hst q).mp h))]
  exact same ▸ bound

/-- Where wake demand has nobody to ask and every idle fitting press has a due flag, the lowest of them calibrates
(R74). -/
theorem Settles.release_calibrate (aw : Awake s) (free : FreeFor s j p) (cover : (s.press p).cover ≠ some true)
    (credits : (s.press p).credits = 0) (all : ∀ q, FreeFor s j q → Due s q ∧ p ≤ q) (queue : (s.press p).txq = [])
    (line : (s.press p).line = none) :
    Settles 5 ((s.released e j (.queued s.time)).wantDemand.push (.decideJob e))
      (((s.released e j (.queued s.time)).modPress p fun x =>
        { x with
          state := .calibrating { long := (s.pressRec p).longDue, count := if (s.pressRec p).longDue then 3 else 1
                                  started := 0 } 0
          resumeMark := false
          line := some (.calibrate (s.pressRec p).longDue (if (s.pressRec p).longDue then 3 else 1)) }).mark
            (.press p)) := by
  have job := State.job_released (s := s) (e := e) (j := j) (.queued s.time)
  have quiet : Quiet (s.released e j (.queued s.time)) := by simpa using hq
  have awake : Awake (s.released e j (.queued s.time)) := aw.of_press (by simp)
  have not_busy : ∀ m, (s.press p).state ≠ .busy m := fun m busy => by simpa [busy, PressState.isIdle] using free.1
  have calibrated := Settles.calibrated (p := p) quiet (by simpa using not_busy) (by simpa using cover)
    (by simpa using queue) (by simpa using line) (by simpa using credits)
    (Settles.demand_awake (by simpa [State.calibrated] using quiet) (State.awake_calibrated awake))
  refine Settles.decision_awake quiet awake rfl ?_
  show Settles 3 ((s.released e j (.queued s.time)).decideJob e) _
  rw [State.decideJob_calibrate job ((waits.released (.queued s.time)).eligible job rfl) quiet.1
    ((FreeFor.released live hst p).mpr free)
    fun q h => (all q ((FreeFor.released live hst q).mp h)).imp_left (Due.released q).mpr]
  rw [State.calibrated, State.pressRec_released] at calibrated
  exact calibrated

/-- With no press IDLE and no other job QUEUED, the press a released job is to wake is asked for (R76, R77). -/
theorem Settles.release_wake (w : Wakes s p j) (alone : ∀ d i t, s.job d = some i → i.state ≠ .queued t) :
    Settles 5 ((s.released e j (.queued s.time)).wantDemand.push (.decideJob e))
      ((((s.released e j (.queued s.time)).modPress p fun x => { x with state := .wakeWait .demand }).mark
        (.press p)).modCircuit (s.pressRec p).circuit fun c => { c with queue := c.queue ++ [p] }) := by
  have job := State.job_released (s := s) (e := e) (j := j) (.queued s.time)
  have quiet : Quiet (s.released e j (.queued s.time)) := by simpa using hq
  have eligible := (waits.released (.queued s.time)).eligible job rfl
  have isOf := State.isOf_released live hst s.time
  have others : ∀ d, d ≠ e → (s.released e j (.queued s.time)).eligible d = false := fun d hd =>
    State.eligible_not_queued fun i hi t =>
      alone d i t (by simpa [State.released, State.job_setJob, Ne.symm hd] using hi)
  have wakes : Wakes (s.released e j (.queued s.time)) p { j.unheld with state := .queued s.time, starve := none } :=
    ⟨by simpa using w.asleep, by simpa using w.queued, by rw [isOf]; exact w.isOf,
      by rw [State.fits_released]; exact w.fits, by simpa using w.nobody,
      w.target.imp_right fun ⟨pool, lowest⟩ => ⟨pool, fun q hq fits => by
        rw [isOf] at hq
        rw [State.fits_released] at fits
        simpa using lowest q hq fits⟩⟩
  have offers : Offers (s.released e j (.queued s.time)) e { j.unheld with state := .queued s.time, starve := none } := by
    refine ⟨job, fun d => ⟨fun offered => by_contra fun hd => ?_, fun hd => ?_⟩⟩
    · rw [State.offered, others d hd] at offered
      exact absurd offered (by simp)
    · rw [hd, State.offered, eligible, quiet.1]
      rfl
  have settled := Settles.wakes quiet offers wakes others
  rw [State.wakeAsked, State.pressRec_released] at settled
  exact settled

end Decision

end Requests

/-- Settles O25. -/
theorem jobHeldAndReleased : Obligations.JobHeldAndReleased := by
  intro s tag h e j hs hn
  refine ⟨fun hst => ?_, fun hst => ?_, fun still => ⟨fun t hst => ?_, fun hst => ?_, fun p now hst hpath hbusy => ?_,
    fun p hst hpath hjam => ?_, fun hst => ?_⟩, fun p hst hpath hbusy hcover hlone hnobody => ?_,
    fun p hst hof hfits waits => ?_⟩
  · refine exec_free hs rfl ?_
    rw [performRequest_holdWaiting hn hst, State.setHostHold_live hn.live]
  · refine exec_free hs rfl ?_
    rw [performRequest_releaseWaiting hn hst, State.modJob_live hn.live]
    rfl
  · refine exec_free hs rfl ?_
    rw [performRequest_holdQueued hn hst, State.setHostHold_live hn.live,
      (Settles.moveJob_still (by simpa using hs.quiet) (by simpa using still) (State.job_setJob_self ..) _).settle (by decide),
      State.setJob_twice]
  · refine exec_free hs rfl ?_
    rw [performRequest_holdStarved hn hst, State.setHostHold_live hn.live, State.moveJob_live (State.job_setJob_self ..),
      State.setJob_twice, State.endCondition_wantDemand,
      (Settles.demand_still (by simpa using hs.quiet) (by simpa using still)).settle (by decide)]
  · refine exec_free hs rfl ?_
    rw [performRequest_holdPrinting hn hst, State.setHostHold_live hn.live,
      State.startDrain_path (j := { j with hostHold := true }) (by simpa using hbusy) (by simpa using hpath) (by simp)]
    have swap : ((s.setJob e (some { j with hostHold := true })).mediaWaitEnded p now).setJob e (some
        { j with hostHold := true, state := .draining p .held, starve := none }) =
        (s.mediaWaitEnded p now).setJob e (some
          { j with hostHold := true, state := .draining p .held, starve := none }) := by
      cases now <;> simp [State.mediaWaitEnded_none, State.mediaWaitEnded_some]
    rw [swap, (Settles.demand_still (by simpa using hs.quiet) (by simpa using still.mediaWaitEnded)).settle (by decide)]
  · have idle : ∀ m, (s.press p).state ≠ .busy m := by
      rcases hjam with jammed | ⟨c, halted⟩ <;> simp [*]
    refine exec_free hs rfl ?_
    rw [performRequest_holdPrinting hn hst, State.setHostHold_live hn.live,
      State.startDrain_held (s := s.setJob e (some { j with hostHold := true })) (fun m busy => absurd busy (idle m)) hpath
        (State.job_setJob_self ..),
      State.releasePress_other (by simpa using idle), State.setJob_twice,
      (Settles.demand_still (by simpa using hs.quiet) (by simpa using still)).settle (by decide)]
  · refine exec_free hs rfl ?_
    rw [performRequest_release hn hst]
    refine congrArg (Prod.mk _) ?_
    exact (Settles.decideJob_still (by simpa [State.released] using hs.quiet) (by simpa [State.released] using still)
      e).settle (by decide)
  · refine exec_free hs rfl ?_
    rw [performRequest_holdPrinting hn hst, State.setHostHold_live hn.live,
      State.startDrain_held (s := s.setJob e (some { j with hostHold := true }))
        (fun m busy => (PressState.busy.inj (hbusy.symm.trans busy)).symm) hpath (State.job_setJob_self ..),
      State.setJob_twice]
    refine congrArg (Prod.mk _) ?_
    have lone : ∀ d, d ≠ e → (s.setJob e (some { j with hostHold := true, state := .held, starve := none })).job d = none :=
      fun d hd => by simp [State.job_setJob, hd.symm, hlone d hd]
    refine (Settles.released (by simpa using hs.quiet) (by simpa using hbusy) (by simpa using hcover) ?_ ?_
      (by simpa using hnobody)).settle (by decide)
    · exact State.boundJob_alone lone (fun i hi => by
        rw [← Option.some.inj ((State.job_setJob_self ..).symm.trans hi)]; rfl) p
    · exact State.eligible_alone lone fun i hi t => by
        rw [← Option.some.inj ((State.job_setJob_self ..).symm.trans hi)]; simp
  · intro released takes free due
    have taken {t : State} (h : Settles 5 ((s.released e j (.queued s.time)).wantDemand.push (.decideJob e)) t) : takes t :=
      exec_free hs rfl ((performRequest_release hn hst).trans (congrArg (Prod.mk _) (h.settle (by decide))))
    refine ⟨fun aw hfree hcover hcredits unbound => ⟨fun undue lowest => ?_, fun all queue line => ?_⟩,
      fun nobody alone asleep others target => ?_⟩
    · exact taken (Settles.release_bind hs.quiet hn.live hst waits aw hfree hcover hcredits unbound undue lowest)
    · exact taken (Settles.release_calibrate hs.quiet hn.live hst waits aw hfree hcover hcredits all queue line)
    · exact taken (Settles.release_wake hs.quiet hn.live hst waits ⟨asleep, others, hof, hfits, nobody, target⟩ alone)

end Sys2Proof.Machine
end

section
/-! PROOF. A payment and the waiting jobs it admits (R12, R136, R143). -/

namespace Sys2Proof.Machine

/-! ## The waiting jobs of an account (R136) -/

section Waiting

variable {s : State} {a : AccountNo} {e d : Entry} {j : Job}

theorem State.waiting_congr {t : State} (jobs : t.jobs = s.jobs) : t.waiting a = s.waiting a := by
  simp only [State.waiting, State.job, jobs]

/-- A job written to another state than CREDIT_WAIT is no longer among those that wait. -/
theorem State.waiting_setJob (hj : j.state ≠ .creditWait) :
    (s.setJob e (some j)).waiting a = (s.waiting a).filter fun d => d ≠ e := by
  rw [State.waiting, State.waiting, List.filter_filter]
  refine List.filter_congr fun d _ => ?_
  rw [State.job_setJob]
  by_cases hd : e = d
  · simp [hd, Job.waitsOn, hj]
  · simp [hd, Ne.symm hd]

theorem State.oldestWaiting_one (h : s.waiting a = [e]) : s.oldestWaiting a = some e := by
  rw [State.oldestWaiting, h]
  rfl

/-- Of two jobs that wait, the older is the oldest. -/
theorem State.oldestWaiting_two (h : s.waiting a = [e, d] ∨ s.waiting a = [d, e]) (older : s.ageAt d < s.ageAt e) :
    s.oldestWaiting a = some e := by
  rw [State.oldestWaiting]
  rcases h with h | h
  · simp [h, pickMax, Nat.not_lt_of_gt older]
  · simp [h, pickMax, older]

theorem State.recheckLoop_nobody (h : s.waiting a = []) (n : Nat) : s.recheckLoop a n = s := by
  cases n with
  | zero => rfl
  | succ n => simp only [State.recheckLoop, State.oldestWaiting_nobody h]

/-- The re-check admits the oldest waiting job its account's credit covers, and goes on when all it raises is done
(R136, R67). -/
theorem State.recheckLoop_admits {c : Commit} (oldest : s.oldestWaiting a = some e) (live : s.job e = some j)
    (hc : j.commit = some c) (fits : s.creditFits a c.estimate = true) (n : Nat) :
    s.recheckLoop a (n + 1) = (s.admitJob e).settle.recheckLoop a n := by
  rw [State.recheckLoop]
  simp only [oldest, live, Option.bind_some, hc, Option.map_some, Option.getD_some, fits, if_true]

theorem State.creditFits_account (ha : a ≠ 0) {n : Nat} (h : (n : Int) ≤ (s.account a).available) :
    s.creditFits a n = true := by
  have other : ¬ a = house := ha
  rw [State.creditFits, if_neg other]
  exact decide_eq_true h

end Waiting

/-! ## Admission (R12) -/

section Admission

variable {s : State} {e : Entry} {j : Job} {c : Commit}

/-- What the admission of a job to a state leaves, but for its decision (R12, R135). -/
def State.admittedTo (e : Entry) (j : Job) (n : Nat) (st : JobState) (s : State) : State :=
  (((s.modAccount j.account fun a => { a with holdTotal := a.holdTotal + n }).setJob e (some
    { j with hold := some n, state := st })).mark (.job e)).endCondition .creditWait (.job j.serial)

@[simp] theorem quiet_admittedTo (n : Nat) (st : JobState) : Quiet (s.admittedTo e j n st) ↔ Quiet s := by
  simp [State.admittedTo]

/-- A job admitted under a hold flag goes to HELD (R12). -/
theorem State.admitJob_held (live : s.job e = some j) (hc : j.commit = some c)
    (kept : j.hostHold = true ∨ c.filter.hold = true) : s.admitJob e = s.admittedTo e j c.estimate .held := by
  have held : j.keptHeld = true := by simpa [Job.keptHeld, hc] using kept
  simp only [State.admitJob, live, hc, Option.map_some, Option.getD_some]
  rw [State.admitted, held]
  rfl

/-- A job admitted without a hold flag is QUEUED and comes to its decision (R12, R67). -/
theorem State.admitJob_queued (live : s.job e = some j) (hc : j.commit = some c) (host : j.hostHold = false)
    (filter : c.filter.hold = false) : s.admitJob e =
      ((s.admittedTo e j c.estimate (.queued s.time)).wantDemand).push (.decideJob e) := by
  have queued : j.keptHeld = false := by simp [Job.keptHeld, hc, host, filter]
  simp only [State.admitJob, live, hc, Option.map_some, Option.getD_some]
  rw [State.admitted, queued]
  simp [State.admittedTo]

theorem State.job_admittedTo (n : Nat) (st : JobState) :
    (s.admittedTo e j n st).job e = some { j with hold := some n, state := st } := by
  simp [State.admittedTo]

/-- The jobs that wait, once one of them is admitted. -/
theorem State.waiting_admittedTo {st : JobState} (hst : st ≠ .creditWait) (n : Nat) (a : AccountNo) :
    (s.admittedTo e j n st).waiting a = (s.waiting a).filter fun d => d ≠ e := by
  rw [State.waiting_congr (s := s.setJob e (some { j with hold := some n, state := st })) (by simp [State.admittedTo])]
  exact State.waiting_setJob hst

@[simp] theorem State.press_admittedTo (n : Nat) (st : JobState) (q : PressNo) :
    (s.admittedTo e j n st).press q = s.press q := by
  simp [State.admittedTo]

@[simp] theorem State.pressRec_admittedTo (n : Nat) (st : JobState) (q : PressNo) :
    (s.admittedTo e j n st).pressRec q = s.pressRec q := by
  simp [State.admittedTo]

theorem State.boundJob_admittedTo (live : s.job e = some j) (hst : j.state = .creditWait) (n : Nat) (t : Time) :
    (s.admittedTo e j n (.queued t)).boundJob = s.boundJob := by
  rw [State.boundJob_congr (s := s.setJob e (some { j with hold := some n, state := .queued t }))
    (by simp [State.admittedTo])]
  exact State.boundJob_setJob_unbound live (by rw [hst]; rfl) rfl

/-- Whether a press is free for a job is a matter of the presses, the pools and the job's target and runs (R6, R65). -/
theorem FreeFor.of_same {t : State} {i : Job} (bound : t.boundJob = s.boundJob) (press : t.press = s.press)
    (records : t.pressRec = s.pressRec) (target : i.target = j.target) (runs : i.runs = j.runs) (q : PressNo) :
    FreeFor t i q ↔ FreeFor s j q := by
  have pool : t.poolInForce q = s.poolInForce q :=
    State.poolInForce_congr (congrFun bound q) (by rw [press]) (congrFun records q)
  simp only [FreeFor, State.isOf, State.fits, pool, press, records, target, runs]

/-- What the admission of a job that is bound to a press leaves, no sheet started (R12, R71). -/
def State.admittedOn (p : PressNo) (e : Entry) (j : Job) (n : Nat) (s : State) : State :=
  ((s.admittedTo e { j with starve := none } n (.printing p)).modPress p fun x =>
    { x with
      state := .busy none, heldPool := none
      fair := if s.ret.schedule.mode = .fair then j.account else x.fair }).mark (.press p)

/-- Where wake demand has nobody to ask, an admitted job is bound to the lowest idle fitting press without a due flag
(R71). -/
theorem Settles.admitted_bind {p : PressNo} (n : Nat) (hq : Quiet s) (live : s.job e = some j) (hst : j.state = .creditWait)
    (waits : SheetWaits s p e j) (aw : Awake s) (free : FreeFor s j p) (cover : (s.press p).cover ≠ some true)
    (credits : (s.press p).credits = 0) (unbound : ∀ d i, s.job d = some i → i.state.bound ≠ some p) (undue : ¬ Due s p)
    (lowest : ∀ q < p, FreeFor s j q → Due s q) :
    Settles 5 (((s.admittedTo e j n (.queued s.time)).wantDemand).push (.decideJob e)) (s.admittedOn p e j n) := by
  have job := State.job_admittedTo (s := s) (e := e) (j := j) n (.queued s.time)
  have quiet : Quiet (s.admittedTo e j n (.queued s.time)) := by simpa using hq
  have awake : Awake (s.admittedTo e j n (.queued s.time)) := aw.of_press (by simp)
  have freeFor := FreeFor.of_same (State.boundJob_admittedTo live hst n s.time) (funext fun q => by simp)
    (funext fun q => by simp) (i := { j with hold := some n, state := .queued s.time }) (j := j) rfl rfl
  have sheet : SheetReady (s.admittedTo e j n (.queued s.time)) p e { j with hold := some n, state := .queued s.time } :=
    waits.sheet.of_same rfl rfl (by simp [State.admittedTo]) (by simp)
  have eligible := SheetWaits.eligible ⟨sheet, waits.received⟩ job rfl
  have due (q : PressNo) : Due (s.admittedTo e j n (.queued s.time)) q ↔ Due s q := by
    simp only [Due, State.pressRec_admittedTo]
  have unbound' : ∀ d i, (s.admittedTo e j n (.queued s.time)).job d = some i → i.state.bound ≠ some p := fun d i hi => by
    by_cases hd : d = e
    · subst hd
      rw [← Option.some.inj (job.symm.trans hi)]
      exact (Option.some_ne_none p).symm
    · exact unbound d i (by simpa [State.admittedTo, State.job_setJob, Ne.symm hd] using hi)
  have bound := Settles.bound quiet awake job (by simpa using free.1) (by simpa using cover) (by simpa using credits)
    unbound' sheet
  have same : (s.admittedTo e j n (.queued s.time)).boundTo p e { j with hold := some n, state := .queued s.time } =
      s.admittedOn p e j n := by
    simp [State.boundTo, State.admittedOn, State.admittedTo]
  refine Settles.decision_awake quiet awake rfl ?_
  show Settles 3 ((s.admittedTo e j n (.queued s.time)).decideJob e) _
  rw [State.decideJob_bind job eligible quiet.1 ((freeFor p).mpr free) (mt (due p).mp undue)
    fun q hq h => (due q).mpr (lowest q hq ((freeFor q).mp h))]
  exact same ▸ bound

section AdmittedOn

variable {p : PressNo} {n : Nat}

@[simp] theorem quiet_admittedOn : Quiet (s.admittedOn p e j n) ↔ Quiet s := by simp [State.admittedOn]

theorem State.waiting_admittedOn (a : AccountNo) :
    (s.admittedOn p e j n).waiting a = (s.waiting a).filter fun d => d ≠ e := by
  rw [State.waiting_congr (s := s.admittedTo e { j with starve := none } n (.printing p)) (by simp [State.admittedOn])]
  exact State.waiting_admittedTo (by simp) n a

theorem State.job_admittedOn_other {d : Entry} (h : d ≠ e) : (s.admittedOn p e j n).job d = s.job d := by
  simp [State.admittedOn, State.admittedTo, State.job_setJob, Ne.symm h]

theorem State.account_admittedOn : (s.admittedOn p e j n).account j.account =
    { s.account j.account with holdTotal := (s.account j.account).holdTotal + n } := by
  simp [State.admittedOn, State.admittedTo]

end AdmittedOn

end Admission

/-- A payment that keeps the balance in range is taken, and the account's waiting jobs re-checked (R143). -/
theorem performRequest_payment {t : State} {a : AccountNo} {amount : BitVec 32} {y : Account}
    (hy : { s.account a with balance := (s.account a).balance + amount.toInt } = y) (used : (s.account a).state ≠ .unused)
    (pos : 0 < amount.toInt) (max : (s.account a).balance + amount.toInt ≤ 2000000000)
    (min : -2000000000 ≤ (s.account a).balance + amount.toInt)
    (ht : (s.modAccount a fun _ => y).recheck a = t) (quiet : Quiet t) :
    performRequest (.accountAdjust a.val amount) s = (okWith (leInt 4 (t.account a).balance ++ le 6 (t.account a).residue
      ++ le 6 (t.account a).holdTotal ++ leInt 8 (t.account a).available
      ++ le 1 ((s.waiting a).length - (t.waiting a).length)), t) := by
  have range : (decide ((s.account a).balance + amount.toInt < -Config.maxBalance)
      || decide (Config.maxBalance < (s.account a).balance + amount.toInt)) = false := by
    have no : ¬ ((s.account a).balance + amount.toInt < -Config.maxBalance
        ∨ Config.maxBalance < (s.account a).balance + amount.toInt) := by
      simp only [Config.maxBalance]
      omega
    simpa using no
  have payment : ¬ amount.toInt < 0 := by omega
  have before : (s.modAccount a fun _ => y).waiting a = s.waiting a := State.waiting_congr rfl
  rw [performRequest, reqAccountAdjust, withAccount_val]
  simp only [hy, used, range, payment, pos, decide_false, Bool.and_false, Bool.false_and, if_false, if_true,
    State.recheckCount, ht, before, State.settle_quiet quiet, Bool.false_eq_true]

/-- Settles O28. -/
theorem paymentAdmits : Obligations.PaymentAdmits := by
  intro s tag a amount e j c hs x y z ha hstate hpos hmax hmin live hc reply
  have quiet : Quiet (s.modAccount a fun _ => y) := by simpa using hs.quiet
  have account : (s.modAccount a fun _ => y).account a = y := by simp
  have run : ∀ t n, (s.modAccount a fun _ => y).recheck a = t → Quiet t → (s.waiting a).length - (t.waiting a).length = n →
      exec (.accountAdjust tag a.val amount) s = .next (t.answered tag 0x11 (reply (t.account a) n)) := by
    rintro t n ht hq rfl
    exact exec_free hs rfl (performRequest_payment rfl hstate hpos hmax hmin ht hq)
  have before : (s.modAccount a fun _ => y).waiting a = s.waiting a := State.waiting_congr rfl
  have belongs : e ∈ s.waiting a → j.account = a ∧ j.state = .creditWait := fun mem => by
    obtain ⟨i, hi, ha, hw⟩ := State.mem_waiting.mp mem
    rw [live] at hi
    exact Option.some.inj hi ▸ ⟨ha, hw⟩
  have credit : ∀ n : Nat, (n : Int) ≤ y.available → (s.modAccount a fun _ => y).creditFits a n = true := fun n hn =>
    State.creditFits_account ha (by rw [account]; exact hn)
  refine ⟨fun waiting kept covers => ?_, ?_⟩
  · obtain ⟨rfl, -⟩ := belongs (by simp [waiting])
    have rechecked : (s.modAccount j.account fun _ => y).recheck j.account =
        (s.modAccount j.account fun _ => y).admittedTo e j c.estimate .held := by
      rw [State.recheck, State.recheckLoop_admits (s := s.modAccount j.account fun _ => y)
        (State.oldestWaiting_one (before.trans waiting)) live hc (credit _ covers),
        State.admitJob_held (s := s.modAccount j.account fun _ => y) live hc kept, State.settle_quiet (by simpa using quiet)]
      exact State.recheckLoop_nobody (by simp [State.waiting_admittedTo, before, waiting]) _
    refine (run _ 1 rechecked (by simpa using quiet) (by simp [State.waiting_admittedTo, before, waiting])).trans ?_
    simp [State.admittedTo]
    rfl
  · intro p d i k waiting older hd hk kept host filter covers free due aw waits hfree undue lowest cover credits unbound w
      old bound
    obtain ⟨rfl, hst⟩ := belongs (by rcases waiting with h | h <;> simp [h])
    have mem : d ∈ s.waiting j.account := by rcases waiting with h | h <;> simp [h]
    obtain ⟨i', hi', hi, -⟩ := State.mem_waiting.mp mem
    obtain rfl : i = i' := Option.some.inj (hd.symm.trans hi')
    have other : d ≠ e := fun he => by
      subst he
      rw [Option.some.inj (hd.symm.trans live)] at older
      exact absurd older (lt_irrefl _)
    have freeFor := FreeFor.of_same (s := s) (t := s.modAccount j.account fun _ => y) (j := j) (i := j) rfl rfl rfl rfl rfl
    have first := Settles.admitted_bind (s := s.modAccount j.account fun _ => y) c.estimate quiet live hst
      ⟨waits.sheet.of_same rfl rfl rfl rfl, waits.received⟩ (aw.of_press fun _ => rfl) ((freeFor p).mpr hfree) cover credits
      unbound undue fun q hq h => lowest q hq ((freeFor q).mp h)
    have oldest : (s.modAccount j.account fun _ => y).oldestWaiting j.account = some e :=
      State.oldestWaiting_two (by rw [before]; exact waiting) (by
        simpa [State.ageAt, live, hd, State.age] using older)
    have left : ((s.modAccount j.account fun _ => y).admittedOn p e j c.estimate).waiting j.account = [d] := by
      rw [State.waiting_admittedOn, before]
      rcases waiting with h | h <;> simp [h, other]
    have rest : (k.estimate : Int) ≤ (((s.modAccount j.account fun _ => y).admittedOn p e j c.estimate).account
        j.account).available := by
      rw [State.account_admittedOn, account]
      simp only [Account.available] at covers ⊢
      omega
    have second : ((s.modAccount j.account fun _ => y).admittedOn p e j c.estimate).job d = some i := by
      rw [State.job_admittedOn_other other]
      exact hd
    have rechecked : (s.modAccount j.account fun _ => y).recheck j.account =
        ((s.modAccount j.account fun _ => y).admittedOn p e j c.estimate).admittedTo d i k.estimate .held := by
      rw [State.recheck, State.recheckLoop_admits (s := s.modAccount j.account fun _ => y) oldest live hc
          (credit _ (by omega)), State.admitJob_queued (s := s.modAccount j.account fun _ => y) live hc host filter,
        first.settle (by decide),
        State.recheckLoop_admits (State.oldestWaiting_one left) second hk
          (State.creditFits_account ha rest),
        State.admitJob_held second hk kept, State.settle_quiet (by simpa using quiet)]
      exact State.recheckLoop_nobody (by simp [State.waiting_admittedTo, left]) _
    refine (run _ 2 rechecked (by simpa using quiet) ?_).trans ?_
    · rw [State.waiting_admittedTo (by simp), left]
      rcases waiting with h | h <;> simp [h]
    · simp [State.admittedTo, State.admittedOn, hi, bound, old]
      rfl

end Sys2Proof.Machine
end

section
/-! SUPPORT. The loss of a path (R57, R61), the drain it ends (R19), and the recovery of a press (R91). -/

namespace Sys2Proof.Machine

/-! ## Frames of a linked press (R82, R88) -/

/-- A frame other than HELLO on a linked press is heard and acted on, and what it raises is settled (R82, R88). -/
theorem exec_linked {c : Instr} {s : State} {p : PressNo} {f : PressIn} (h : Linked s p) (hc : pressRow c = some (p, f)) :
    exec c s = .next ((s.heard p).frameAct p f).settle := by
  rw [exec_pressRow hc, whenRunning, if_pos h.running]
  unfold State.takeFrame
  rw [h.noSignal, if_neg (by simp), if_neg h.up]

section Heard

variable {s : State} {p : PressNo}

@[simp] theorem quiet_heard : Quiet (s.heard p) ↔ Quiet s := by simp [State.heard]

@[simp] theorem State.press_heard : (s.heard p).press p = { s.press p with heartbeat := 0 } := by simp [State.heard]

@[simp] theorem State.job_heard (e : Entry) : (s.heard p).job e = s.job e := rfl

@[simp] theorem State.boundJob_heard (q : PressNo) : (s.heard p).boundJob q = s.boundJob q := rfl

/-- Whether a sheet can start on a press is a matter of its credits, its path, what it sends and the supply (R46). -/
theorem NoStart.of_same {t : State} (h : NoStart s p) (credits : (t.press p).credits = (s.press p).credits)
    (send : (t.press p).send = (s.press p).send) (path : (t.press p).path = (s.press p).path) (low : t.low = s.low)
    (record : t.pressRec p = s.pressRec p) : NoStart t p := by
  simpa only [NoStart, credits, send, path, low, State.depth, record] using h

theorem Still.heard (h : Still s) : Still (s.heard p) := h.modPress p (by simpa using h p)

theorem NoWork.heard (h : NoWork s) : NoWork (s.heard p) := h.modPress p (by simpa using h.nobody p)

end Heard

/-! ## The loss of a path (R57) -/

section Loss

variable {s : State} {p : PressNo} {e : Entry} {j : Job} {m : Option Nat}

/-- The job a path is lost of: its cursor back, its reprints counted. -/
theorem rewound_cons {x : PathEntry} {rest : List PathEntry} {n : Nat} (hx : x.job = some (e, n)) (j : Job) :
    { j.setCursor (some n) with reprinted := satAdd32 j.reprinted (x :: rest).length } = rewound (x :: rest) j := by
  have head : ((x :: rest).head?.bind fun x => x.job) = some (e, n) := by simpa using hx
  unfold rewound Job.setCursor
  rw [head]
  cases hc : j.commit <;> simp [satAdd32, Config.max32, hc]

/-- Whether a path can be lost without damage is a matter of the path, the job and the spool (R18). -/
theorem Rewinds.of_same {t : State} (h : Rewinds s p e j) (path : (t.press p).path = (s.press p).path)
    (spool : t.spool = s.spool) : Rewinds t p e j := by
  intro x hx
  rw [path] at hx
  obtain ⟨n, hn, whole⟩ := h x hx
  exact ⟨n, hn, fun sh k hsh hk => by rw [State.pageIs_congr spool]; exact whole sh k hsh hk⟩

theorem sheetOf_rewound (path : List PathEntry) (j : Job) : (rewound path j).sheetOf = j.sheetOf := by
  unfold rewound
  cases path.head?.bind fun x => x.job <;> rfl

/-- A cursor that comes back to a position without a DAMAGED page leaves the job as it is (R18). -/
theorem State.faultRewound_whole {path : List PathEntry} {n : Nat} (oldest : (path.head?.bind fun x => x.job) = some (e, n))
    (whole : Undamaged s e j n) (live : s.job e = some (rewound path j)) : s.faultRewound e = s := by
  have none_damaged : s.damageAtCursor e = none := by
    unfold State.damageAtCursor
    rw [live, Option.bind_some]
    split
    case isTrue =>
      refine Option.bind_eq_none_iff.mpr fun (k, sh) hk => ?_
      obtain ⟨c, hc, hk, hsh⟩ := Job.cursorSheet_iff.mp hk
      obtain rfl : n = k := by
        obtain ⟨d, -, rfl⟩ : ∃ d, j.commit = some d ∧ { d with cursor := some n } = c := by
          simpa [rewound, oldest] using hc
        simpa using hk
      rw [sheetOf_rewound] at hsh
      exact List.find?_eq_none.mpr fun k hk => by simp [whole sh k hsh hk]
    case isFalse => rfl
  rw [State.faultRewound, none_damaged]

/-- The loss of a path on a BUSY press: its bound job is rewound, its report pending where the path held a sheet (R57). -/
theorem State.losePath_rewinds (rewinds : Rewinds s p e j) (live : s.job e = some j) : s.losePath p =
    let t := (s.modPress p lostPath).setJob e (some (rewound (s.press p).path j))
    if (s.press p).path = [] then t else t.mark (.job e) := by
  unfold State.losePath
  cases hp : (s.press p).path with
  | nil =>
    have same : rewound [] j = j := rfl
    rw [same]
    exact (State.setJob_same (s := s.modPress p lostPath) live).symm
  | cons x rest =>
    obtain ⟨n, hx, whole⟩ := rewinds x (by simp [hp])
    have jobs : ((s.modPress p fun x => { x with txq := x.dropSheetFrames.txq, path := [], send := .idle }).modJob e fun j =>
        { j.setCursor (some n) with reprinted := satAdd32 j.reprinted (x :: rest).length }) =
        (s.modPress p lostPath).setJob e (some (rewound (x :: rest) j)) := by
      rw [State.modJob_live (j := j) (by simpa using live), rewound_cons hx]
      rfl
    simp only [hx, jobs]
    refine State.faultRewound_whole (n := n) (j := j) (path := x :: rest) (by simpa using hx) ?_ (by simp)
    exact fun sh k hsh hk => (congrFun (congrFun (congrFun (State.pageIs_congr (by simp)) e) _) k).trans (whole sh k hsh hk)

/-- Leaving BUSY for a state: media wait ends, the starve timer of the job bound stops (R50, R51, R91). -/
theorem State.enter_busy (busy : (s.press p).state = .busy m) (bound : s.boundJob p = some e) (live : s.job e = some j)
    (st : PressState) : s.enter p st =
      (let t := ((s.modPress p fun x => { x with state := st }).setJob e (some { j with starve := none })).mark (.press p)
      if m = none then t else t.endCondition .mediaOut (.press p)).wantDemand := by
  rw [State.enter, State.leave_busy busy bound live, State.putState_eq]
  cases m with
  | none => rw [State.mediaWaitEnded_none, if_pos rfl]; rfl
  | some m => rw [State.mediaWaitEnded_some, if_neg (by simp)]; simp

section Rewound

variable (path : List PathEntry) (j : Job)

@[simp] theorem state_rewound : (rewound path j).state = j.state := by
  unfold rewound
  cases path.head?.bind fun x => x.job <;> rfl

@[simp] theorem hold_rewound : (rewound path j).hold = j.hold := by
  unfold rewound
  cases path.head?.bind fun x => x.job <;> rfl

@[simp] theorem account_rewound : (rewound path j).account = j.account := by
  unfold rewound
  cases path.head?.bind fun x => x.job <;> rfl

end Rewound

/-- A BUSY press that has lost its path and gone to another state: its job rewound, media wait and the starve timer ended,
its report pending, behind the job's where the path held a sheet (R50, R51, R57; log entry 42). -/
def State.lossTo (p : PressNo) (e : Entry) (j : Job) (m : Option Nat) (st : PressState) (s : State) : State :=
  let t := (s.modPress p fun x => { lostPath x with state := st }).setJob e (some
    { rewound (s.press p).path j with starve := none })
  let t := (if (s.press p).path = [] then t else t.mark (.job e)).mark (.press p)
  if m = none then t else t.endCondition .mediaOut (.press p)

section LossTo

variable {st : PressState}

/-- What changes the press but its path goes in ahead of the loss. -/
theorem State.lossTo_modPress {f : Press → Press} (hf : (f (s.press p)).path = (s.press p).path) :
    (s.modPress p f).lossTo p e j m st =
      let t := (s.modPress p fun x => { lostPath (f x) with state := st }).setJob e (some
        { rewound (s.press p).path j with starve := none })
      let t := (if (s.press p).path = [] then t else t.mark (.job e)).mark (.press p)
      if m = none then t else t.endCondition .mediaOut (.press p) := by
  unfold State.lossTo
  rw [State.press_modPress_self, hf, State.modPress_twice]

@[simp] theorem quiet_lossTo : Quiet (s.lossTo p e j m st) ↔ Quiet s := by
  unfold State.lossTo
  split <;> split <;> simp

theorem Still.lossTo (h : Still s) (hst : st.isIdle = false ∧ st ≠ .asleep ∧ ∀ o, st ≠ .wakeWait o) :
    Still (s.lossTo p e j m st) := by
  unfold State.lossTo
  split <;> split <;> simpa using h.modPress p hst

@[simp] theorem State.press_lossTo : (s.lossTo p e j m st).press p = { lostPath (s.press p) with state := st } := by
  unfold State.lossTo
  split <;> split <;> simp

@[simp] theorem State.job_lossTo :
    (s.lossTo p e j m st).job e = some { rewound (s.press p).path j with starve := none } := by
  unfold State.lossTo
  split <;> split <;> simp

theorem State.boundJob_lossTo (bound : s.boundJob p = some e) (live : s.job e = some j) :
    (s.lossTo p e j m st).boundJob p = some e := by
  have hb := State.bound_of_boundJob bound live
  have kept : ((s.modPress p fun x => { lostPath x with state := st }).setJob e (some
      { rewound (s.press p).path j with starve := none })).boundJob p = some e :=
    State.boundJob_setJob (by simpa using bound) (by simpa using hb)
  unfold State.lossTo
  split <;> split <;> simpa using kept

theorem State.waiting_lossTo {a : AccountNo} (nobody : s.waiting a = []) (hj : j.state ≠ .creditWait) :
    (s.lossTo p e j m st).waiting a = [] := by
  have jobs : (s.lossTo p e j m st).jobs = ((s.modPress p fun x => { lostPath x with state := st }).setJob e (some
      { rewound (s.press p).path j with starve := none })).jobs := by
    unfold State.lossTo
    split <;> split <;> simp
  rw [State.waiting_congr jobs]
  exact State.waiting_setJob_nobody (s := s.modPress p fun x => { lostPath x with state := st }) nobody (by simpa using hj)

variable (busy : (s.press p).state = .busy m) (bound : s.boundJob p = some e) (live : s.job e = some j)
  (rewinds : Rewinds s p e j)
include busy bound live rewinds

/-- What the loss of the path leaves BUSY: the press with its job, rewound. -/
theorem State.losePath_busy : ((s.losePath p).press p).state = .busy m ∧ (s.losePath p).boundJob p = some e ∧
    (s.losePath p).job e = some (rewound (s.press p).path j) := by
  have kept : ((s.modPress p lostPath).setJob e (some (rewound (s.press p).path j))).boundJob p = some e :=
    State.boundJob_setJob (by simpa using bound) (by simpa using State.bound_of_boundJob bound live)
  rw [State.losePath_rewinds rewinds live]
  dsimp only
  split
  · exact ⟨by simp [lostPath, busy], kept, by simp⟩
  · exact ⟨by simp [lostPath, busy], by simpa using kept, by simp⟩

/-- The loss of a path on a BUSY press that goes to another state. -/
theorem State.losePath_enter : (s.losePath p).enter p st = (s.lossTo p e j m st).wantDemand := by
  obtain ⟨state, bound', live'⟩ := State.losePath_busy busy bound live rewinds
  rw [State.enter_busy state bound' live', State.losePath_rewinds rewinds live]
  unfold State.lossTo
  by_cases path : (s.press p).path = [] <;> cases m <;> simp [path]

/-- The loss of a path, counted under a meter, on a BUSY press that goes to another state. -/
theorem State.losePath_meter_enter (n : Nat) (f : Meter → Meter) : ((s.losePath p).modMeter p n f).enter p st =
    ((s.modMeter p n f).lossTo p e j m st).wantDemand := by
  obtain ⟨state, bound', live'⟩ := State.losePath_busy busy bound live rewinds
  rw [State.enter_busy (s := (s.losePath p).modMeter p n f) state bound' live', State.losePath_rewinds rewinds live]
  unfold State.lossTo
  by_cases path : (s.press p).path = [] <;> cases m <;> simp [path]

end LossTo

end Loss

/-! ## The drain target (R19) -/

theorem Settles.mono {s t : State} {k l : Nat} (h : Settles k s t) (hk : k ≤ l) : Settles l s t := fun n hn =>
  h n (hk.trans hn)

section Drained

variable {s : State} {e : Entry} {j : Job}

theorem drained_cancelled : drained .cancelled e j s = s.ended e j .cancelled := by
  unfold drained State.ended State.holdReleased
  cases j.hold <;> rfl

/-- What a job leaves that enters STARVED (R17). -/
def State.starvedNow (e : Entry) (j : Job) (s : State) : State :=
  ((s.setJob e (some { j with state := .starved, starve := none })).mark (.job e)).raise .jobStarved (.job j.serial) none

theorem drained_starved_waits (h : (s.starvedNow e j).cursorReady e = false) :
    drained .starved e j s = s.starvedNow e j := by
  have waits : ¬ (s.starvedNow e j).cursorReady e = true := by simp [h]
  exact if_neg waits

theorem drained_starved_ready (h : (s.starvedNow e j).cursorReady e = true) : drained .starved e j s =
    (((s.starvedNow e j).setJob e (some { j with state := .queued (s.starvedNow e j).time, starve := none })).mark
      (.job e)).endCondition .jobStarved (.job j.serial) := if_pos h

/-- A job that enters STARVED stays so, or goes on to QUEUED and to its decision (R17). -/
theorem State.starvedNow_left : (s.starvedNow e j).wantDemand.leaveStarved e =
    if (s.starvedNow e j).cursorReady e = true then
      ((((s.starvedNow e j).setJob e (some { j with state := .queued (s.starvedNow e j).time, starve := none })).mark
        (.job e)).endCondition .jobStarved (.job j.serial)).wantDemand.push (.decideJob e)
    else (s.starvedNow e j).wantDemand := by
  have live : (s.starvedNow e j).job e = some { j with state := .starved, starve := none } := by simp [State.starvedNow]
  have ready : (s.starvedNow e j).wantDemand.cursorReady e = (s.starvedNow e j).cursorReady e := rfl
  unfold State.leaveStarved
  rw [State.job_wantDemand, live]
  simp only [decide_true, Bool.true_and, ready]
  split
  · rw [State.enterQueued_live (s := (s.starvedNow e j).wantDemand) live]
    simp
  · rfl

/-- Taking a drain target touches no press, where nobody waits for the account's credit (R19). -/
theorem State.press_takeTarget (live : s.job e = some j) (nobody : j.hold = none ∨ s.waiting j.account = [])
    (target : DrainTarget) (q : PressNo) : (s.takeTarget e target).press q = s.press q := by
  have moved (t : State) (st : JobState) : (t.moveJob e st).press q = t.press q := by
    simp [State.moveJob, State.modJob]
    cases t.job e <;> rfl
  unfold State.takeTarget
  rw [live]
  cases target with
  | held => exact moved s .held
  | fault => exact moved s .fault
  | cancelled =>
    dsimp only
    rw [State.finishJob_nobody live nobody]
    simp
  | starved =>
    have starved : (((s.moveJob e .starved).raise .jobStarved (.job j.serial) none).leaveStarved e).press q =
        ((s.moveJob e .starved).raise .jobStarved (.job j.serial) none).press q := by
      unfold State.leaveStarved
      split
      · rfl
      · split
        · simp [State.enterQueued, moved]
        · rfl
    dsimp only
    rw [starved]
    simp [moved]

/-- The drain target taken is the whole effect where no press can be bound or woken and nobody waits for the account's
credit (R19). -/
theorem Settles.takeTarget_still (hq : Quiet s) (still : Still s) (live : s.job e = some j)
    (nobody : j.hold = none ∨ s.waiting j.account = []) (target : DrainTarget) :
    Settles 4 (s.wantDemand.takeTarget e target) (drained target e j s) := by
  have moved (st : JobState) : Settles 4 (s.wantDemand.moveJob e st)
      ((s.setJob e (some { j with state := st, starve := none })).mark (.job e)) := by
    rw [State.moveJob_live (s := s.wantDemand) live]
    simpa using (Settles.demand_still (s := (s.setJob e (some { j with state := st, starve := none })).mark (.job e))
      (by simpa using hq) (by simpa using still)).mono (by decide)
  have quiet : Quiet (s.starvedNow e j) := by simpa [State.starvedNow] using hq
  have calm : Still (s.starvedNow e j) := by simpa [State.starvedNow] using still
  unfold State.takeTarget
  rw [State.job_wantDemand, live]
  cases target with
  | held => exact moved .held
  | fault => exact moved .fault
  | cancelled =>
    have ended : Settles 2 (s.ended e j .cancelled).wantDemand (s.ended e j .cancelled) :=
      Settles.demand_still (by simpa [State.ended] using hq) (by simpa [State.ended] using still)
    dsimp only
    rw [State.finishJob_nobody (s := s.wantDemand) live nobody, drained_cancelled]
    have same : ((((s.wantDemand.setSpool (s.wantDemand.spool.freeJob e)).setJob e (some
        { j with state := .finished .cancelled, hold := none, starve := none })).holdReleased j).mark
          (.job e)).wantDemand = (s.ended e j .cancelled).wantDemand := by
      unfold State.ended State.holdReleased
      cases j.hold <;> simp
    rw [same]
    exact ended.mono (by decide)
  | starved =>
    have starved : (s.wantDemand.moveJob e .starved).raise .jobStarved (.job j.serial) none =
        (s.starvedNow e j).wantDemand := by
      rw [State.moveJob_live (s := s.wantDemand) live]
      simp [State.starvedNow]
    dsimp only
    rw [starved, State.starvedNow_left]
    split
    case isTrue ready =>
      rw [drained_starved_ready ready]
      exact Settles.decideJob_still (by simpa using quiet) (by simpa using calm) e
    case isFalse waits =>
      rw [drained_starved_waits (by simpa using waits)]
      exact (Settles.demand_still quiet calm).mono (by decide)

end Drained

/-- A drain that the loss of a path ends (R19, R58, R59): the drain target taken is the whole effect, in any state the
press was taken to other than BUSY. -/
theorem Settles.endLostDrain_draining {s : State} {p : PressNo} {e : Entry} {j : Job} {target : DrainTarget} (hq : Quiet s)
    (still : Still s) (not_busy : ∀ m, (s.press p).state ≠ .busy m) (path : (s.press p).path = [])
    (bound : s.boundJob p = some e) (live : s.job e = some j) (draining : j.state = .draining p target)
    (nobody : j.hold = none ∨ s.waiting j.account = []) :
    Settles 4 (s.wantDemand.endLostDrain p) (drained target e j s) := by
  have empty : (s.wantDemand.press p).path.isEmpty = true := by simp [path]
  have taken := Settles.takeTarget_still hq still live nobody target
  have rests : (s.wantDemand.takeTarget e target).releasePress p = s.wantDemand.takeTarget e target := by
    refine State.releasePress_other fun m => ?_
    rw [State.press_takeTarget (s := s.wantDemand) live nobody]
    exact not_busy m
  unfold State.endLostDrain State.endDrainIfEmpty
  rw [State.boundJob_wantDemand, bound]
  dsimp only
  rw [State.job_wantDemand, live]
  simp only [draining, empty, decide_true, Bool.and_self, if_true]
  rw [rests]
  exact taken

/-- The loss of the path of a press whose job is PRINTING ends no drain. -/
theorem State.endLostDrain_printing {s : State} {p : PressNo} {e : Entry} {j : Job} (bound : s.boundJob p = some e)
    (live : s.job e = some j) (printing : j.state = .printing p) : s.endLostDrain p = s := by
  simp only [State.endLostDrain, bound, State.endDrainIfEmpty, live, printing]

/-! ## The recovery of a press (R91) -/

section Recover

variable {s : State} {p : PressNo} (hq : Quiet s) (not_busy : ∀ m, (s.press p).state ≠ .busy m)
  (cover : (s.press p).cover ≠ some true)
include hq not_busy cover

/-- A press with no job and no run to take up again goes to IDLE, and to its decision (R91). -/
theorem Settles.recover_idle (work : NoWork s) (mark : (s.press p).resumeMark = false) :
    Settles 3 (s.recover p) ((s.modPress p fun x => { x with state := .idle false 0 }).mark (.press p)) := by
  have unbound : s.boundJob p = none := State.boundJob_eq_none_iff.mpr fun d i hi => by simp [work.free d] at hi
  have eq : s.recover p = (((s.modPress p fun x => { x with state := .idle false 0 }).mark (.press p)).wantDemand).push
      (.decidePress p) := by
    simp only [State.recover, unbound, Option.isSome_none, mark, Bool.false_eq_true, if_false]
    rw [State.enterIdle_closed cover, State.enter_other not_busy, State.putState_eq]
  rw [eq]
  exact Settles.decidePress_noWork (by simpa using hq) (by simpa using work.modPress p (by simp)) p

/-- A press whose run is to be taken up again begins a new one (R91, R98). -/
theorem Settles.recover_calibrating (work : NoWork s) (mark : (s.press p).resumeMark = true)
    (credits : (s.press p).credits = 0) (queue : (s.press p).txq = []) (line : (s.press p).line = none) :
    Settles 3 (s.recover p) (s.calibrated p) := by
  have unbound : s.boundJob p = none := State.boundJob_eq_none_iff.mpr fun d i hi => by simp [work.free d] at hi
  have eq : s.recover p = s.enterCalibrating p := by
    simp only [State.recover, unbound, Option.isSome_none, mark, Bool.false_eq_true, if_false, if_true]
  rw [eq]
  refine Settles.calibrated hq not_busy cover queue line credits (Settles.demand_noWork ?_ ?_)
  · simpa [State.calibrated] using hq
  · simpa [State.calibrated] using work.modPress p (by simp)

/-- A press with a job goes to BUSY with it; that is all while its next sheet waits for the press or the supply alone
(R46, R50, R91). -/
theorem Settles.recover_busy {e : Entry} {j : Job} (still : Still s) (bound : s.boundJob p = some e)
    (live : s.job e = some j) (printing : j.state = .printing p) (ready : SheetReady s p e j) (rests : NoStart s p) :
    Settles 3 (s.recover p) (((s.modPress p fun x => { x with state := .busy none }).setJob e (some
      { j with starve := none })).mark (.press p)) := by
  have eq : s.recover p = (((s.modPress p fun x => { x with state := .busy none }).mark (.press p)).wantDemand).push
      (.examine p) := by
    simp only [State.recover, bound, Option.isSome_some, if_true]
    rw [State.enterBusy_closed cover, State.enter_other not_busy, State.putState_eq]
  rw [eq]
  refine Settles.examine (by simpa using hq.1) ?_
  rw [State.examine_noStart (now := none) (e := e) (j := j) (by simp) (by simpa using bound) (by simpa using live) printing
    (ready.of_same rfl rfl (by simp) (by simp)) (NoStart.of_same rests (by simp) (by simp) (by simp) (by simp) (by simp)),
    State.mediaWaitEnded_none]
  refine (Settles.demand_still (s := ((s.modPress p fun x => { x with state := .busy none }).setJob e (some
      { j with starve := none })).mark (.press p)) ?_ ?_)
  · simpa using hq
  · simpa using still.modPress p (by simp [PressState.isIdle])

end Recover

end Sys2Proof.Machine
end

section
/-! PROOF. JAM and CLEAR (R57, R58, R91, R95). -/

namespace Sys2Proof.Machine

section Jam

variable {s : State} {p : PressNo} {e : Entry} {j : Job} {m : Option Nat}

/-- A JAM on a BUSY press (R57, R58). -/
theorem State.onJam_busy (busy : (s.press p).state = .busy m) (bound : s.boundJob p = some e) (live : s.job e = some j)
    (rewinds : Rewinds s p e j) (l : Nat) : s.onJam p l =
      ((((s.lossTo p e j m .jammed).modMeter p (s.press p).jamClass Meter.countJam).raise .jam (.press p)
        (some l)).wantDemand).endLostDrain p := by
  simp only [State.onJam, busy]
  rw [State.losePath_enter busy bound live rewinds, State.countJam, State.modMeter_wantDemand, State.raise_wantDemand]

/-- A JAM on a CALIBRATING press: its service sheets are lost, and its run is to be taken up again (R58, R61, R98). -/
theorem State.onJam_calibrating {run : CalRun} {n : Nat} (hst : (s.press p).state = .calibrating run n)
    (service : ∀ x ∈ (s.press p).path, x.job = none) (l : Nat) : s.onJam p l =
      ((((s.modPress p fun x => { lostPath x with state := .jammed, resumeMark := true }).mark (.press p)).modMeter p
        (s.press p).jamClass Meter.countJam).raise .jam (.press p) (some l)).wantDemand := by
  simp only [State.onJam, hst]
  rw [State.losePath_service (by simpa using service), State.enter_other (by simp [lostPath, hst]), State.putState_eq]
  simp [State.countJam]
  rfl

theorem State.onClear_jammed (hst : (s.press p).state = .jammed) : s.onClear p =
    if (s.press p).cover = some true then (s.endCondition .jam (.press p)).enter p (.halted .cover)
    else (s.endCondition .jam (.press p)).recover p := by
  simp only [State.onClear, hst, State.press_endCondition]

end Jam

/-- Settles O47. -/
theorem jamAndClear : Obligations.JamAndClear := by
  intro s p l linked hl oldest jams lost
  have runJam : exec (.jam p l) s = .next ((s.heard p).onJam p l.toNat).settle := by
    rw [exec_linked linked (f := .jam l) rfl, State.frameAct, if_pos hl]
  have runClear : exec (.clear p) s = .next ((s.heard p).onClear p).settle := exec_linked linked (f := .clear) rfl
  refine ⟨fun m e j still busy bound live rewinds => ?_, fun run n rests hst service => ?_, fun hst => ⟨?_, ?_⟩⟩
  · intro i t₀ t₁ t
    have busy' : ((s.heard p).press p).state = .busy m := by simpa using busy
    have told : (((s.heard p).lossTo p e j m .jammed).modMeter p oldest Meter.countJam).raise .jam (.press p)
        (some l.toNat) = t := by
      rw [State.heard, State.lossTo_modPress rfl]
      rfl
    have act : (s.heard p).onJam p l.toNat = t.wantDemand.endLostDrain p := by
      rw [State.onJam_busy busy' bound live (rewinds.of_same (by simp) rfl), ← told]
      simp [Press.jamClass, oldest]
    have quiet : Quiet t := by rw [← told]; simpa using linked.quiet
    have calm : Still t := by
      rw [← told, still_raise]
      exact still.heard.lossTo (by simp [PressState.isIdle])
    have press : t.press p = { lostPath ((s.heard p).press p) with state := .jammed } := by simp [← told]
    have bound' : t.boundJob p = some e := by
      rw [← told, State.boundJob_raise, State.boundJob_modMeter]
      exact State.boundJob_lossTo (s := s.heard p) bound live
    have live' : t.job e = some i := by simp [← told, i]
    refine ⟨fun printing => ?_, fun target draining nobody => ?_⟩
    · rw [runJam, act, State.endLostDrain_printing (s := t.wantDemand) bound' live' (by simpa [i] using printing),
        (Settles.demand_still quiet calm).settle (by decide)]
    · rw [runJam, act, (Settles.endLostDrain_draining quiet calm (by simp [press]) (by simp [press, lostPath]) bound' live'
        (by simpa [i] using draining) ?_).settle (by decide)]
      simp only [i, hold_rewound, account_rewound]
      refine nobody.imp_right fun none_waits => ?_
      rw [← told, State.waiting_congr (s := (s.heard p).lossTo p e j m .jammed) (by simp)]
      exact State.waiting_lossTo none_waits (by simp [draining])
  · have act := State.onJam_calibrating (s := s.heard p) (p := p) (by simpa using hst) (by simpa using service) l.toNat
    rw [runJam, act]
    refine congrArg Host.Outcome.next ((Settles.demand_either (by simpa using linked.quiet) ?_).settle (by decide) |>.trans ?_)
    · simpa [State.heard] using State.either_modPress rests p (by simp [PressState.isIdle])
    · simp [State.heard, jams, lost, Press.jamClass, oldest]
      rfl
  · have act : (s.heard p).onJam p l.toNat = jams 0 (s.modPress p fun x => { x with heartbeat := 0 }) := by
      simp only [State.onJam, State.press_heard, hst]
      rfl
    rw [runJam, act, State.settle_quiet (by simpa [jams] using linked.quiet)]
  · intro clears
    have quiet : Quiet ((s.heard p).endCondition .jam (.press p)) := by simpa using linked.quiet
    have jammed : (((s.heard p).endCondition .jam (.press p)).press p).state = .jammed := by simpa using hst
    refine ⟨fun rests cover => ?_, fun cover => ⟨fun work mark => ?_, fun work mark credits queue line => ?_,
      fun e j still bound live printing ready noStart => ?_⟩⟩
    all_goals rw [runClear, State.onClear_jammed (by simpa using hst)]
    · rw [if_pos (by simpa using cover), State.enter_other (by simp [hst]), State.putState_eq]
      refine congrArg Host.Outcome.next ((Settles.demand_either (by simpa using linked.quiet) ?_).settle (by decide) |>.trans ?_)
      · simpa [State.heard] using State.either_modPress rests p (by simp [PressState.isIdle])
      · simp [State.heard, clears]
    · rw [if_neg (by simpa using cover)]
      refine congrArg Host.Outcome.next ((Settles.recover_idle quiet (by simp [hst]) (by simpa using cover)
        (by simpa using work.heard) (by simpa using mark)).settle (by decide) |>.trans ?_)
      simp [State.heard, clears]
    · rw [if_neg (by simpa using cover)]
      refine congrArg Host.Outcome.next ((Settles.recover_calibrating quiet (by simp [hst]) (by simpa using cover)
        (by simpa using work.heard) (by simpa using mark) (by simpa using credits) (by simpa using queue)
        (by simpa using line)).settle (by decide) |>.trans ?_)
      simp [State.heard, clears, State.calibrated]
    · rw [if_neg (by simpa using cover)]
      refine congrArg Host.Outcome.next ((Settles.recover_busy quiet (by simp [hst]) (by simpa using cover)
        (by simpa using still.heard) (e := e) (j := j) (by simpa using bound) (by simpa using live) printing
        (ready.of_same rfl rfl (by simp [State.heard]) (by simp [State.heard])) (NoStart.of_same noStart (by simp) (by simp) (by simp)
          (by simp [State.heard]) (by simp [State.heard]))).settle (by decide) |>.trans ?_)
      simp [State.heard, clears]

end Sys2Proof.Machine
end

section
/-! PROOF. The cover, told by COVER or BEAT (R59, R91, R96, R97). -/

namespace Sys2Proof.Machine

section Opens

variable {s : State} {p : PressNo} {e : Entry} {j : Job} {m : Option Nat}

/-- A frame that tells of another cover than the recorded one changes it (R88, R96, R97). -/
theorem State.onCover_heard {isOpen : Bool} (other : (s.press p).cover ≠ some isOpen) :
    (s.heard p).onCover p isOpen = if isOpen then (s.heard p).coverOpens p else (s.heard p).coverCloses p := by
  rw [State.onCover, if_neg (by simpa using other)]

/-- What the opening of a cover leaves, whatever the press's state (R96). -/
def State.opened (p : PressNo) (s : State) : State :=
  ((s.modPress p fun x => { x with heartbeat := 0, cover := some true }).raise .coverOpen (.press p) none).mark (.press p)

@[simp] theorem State.press_opened : (s.opened p).press p = { s.press p with heartbeat := 0, cover := some true } := by
  simp [State.opened]

@[simp] theorem quiet_opened : Quiet (s.opened p) ↔ Quiet s := by simp [State.opened]

theorem Still.opened (h : Still s) : Still (s.opened p) := by
  simpa [State.opened] using h.modPress p (f := fun x => { x with heartbeat := 0, cover := some true }) (h p)

theorem NoWork.opened (h : NoWork s) : NoWork (s.opened p) := by
  simpa [State.opened] using h.modPress p (f := fun x => { x with heartbeat := 0, cover := some true }) (h.nobody p)

@[simp] theorem State.job_opened (e : Entry) : (s.opened p).job e = s.job e := by simp [State.opened]

@[simp] theorem State.boundJob_opened (q : PressNo) : (s.opened p).boundJob q = s.boundJob q := by simp [State.opened]

@[simp] theorem State.opened_spool : (s.opened p).spool = s.spool := by simp [State.opened]

theorem State.opened_eq : (((s.heard p).modPress p fun x => { x with cover := some true }).raise .coverOpen (.press p)
    none).mark (.press p) = s.opened p := by
  simp [State.heard, State.opened]

/-- A press that is IDLE, or halted by a failed wake or run, is halted by its cover (R96). -/
theorem State.coverOpens_halts
    (hst : (s.press p).state.isIdle = true ∨ (s.press p).state = .halted .wakeFail ∨ (s.press p).state = .halted .calFail) :
    (s.heard p).coverOpens p = (s.opened p).enter p (.halted .cover) := by
  unfold State.coverOpens
  dsimp only
  rw [State.opened_eq, State.press_opened]
  rcases hst with idle | wake | cal
  · cases hs : (s.press p).state with
    | idle => rfl
    | _ => simp [hs, PressState.isIdle] at idle
  · simp only [wake]
  · simp only [cal]

/-- An opening on a BUSY press loses its path (R59, R96). -/
theorem State.coverOpens_busy (hst : (s.press p).state = .busy m) :
    (s.heard p).coverOpens p = (((s.opened p).coverLoss p).enter p (.halted .cover)).endLostDrain p := by
  unfold State.coverOpens
  dsimp only
  rw [State.opened_eq, State.press_opened]
  simp only [hst]

/-- An opening on a CALIBRATING press loses its service sheets, and its run is to be taken up again (R96, R98). -/
theorem State.coverOpens_calibrating {run : CalRun} {n : Nat} (hst : (s.press p).state = .calibrating run n) :
    (s.heard p).coverOpens p =
      (((s.opened p).modPress p fun x => { x with resumeMark := true }).coverLoss p).enter p (.halted .cover) := by
  unfold State.coverOpens
  dsimp only
  rw [State.opened_eq, State.press_opened]
  simp only [hst]

/-- A press in another state keeps it (R96). -/
theorem State.coverOpens_keeps (hst : (s.press p).state = .asleep ∨ (∃ o, (s.press p).state = .wakeWait o) ∨
    (∃ n, (s.press p).state = .waking n) ∨ (s.press p).state = .sleeping ∨ (s.press p).state = .jammed ∨
      (s.press p).state = .halted .cover) : (s.heard p).coverOpens p = s.opened p := by
  unfold State.coverOpens
  dsimp only
  rw [State.opened_eq, State.press_opened]
  rcases hst with h | ⟨o, h⟩ | ⟨n, h⟩ | h | h | h <;> simp only [h]

/-! ## The path lost by the cover (R59) -/

/-- A path lost by the cover counts one jam, where it held a sheet, under the class of the oldest (R59). -/
def State.jamCounted (p : PressNo) (s : State) : State :=
  match (s.press p).path with
  | [] => s
  | x :: _ => s.modMeter p x.media Meter.countJam

section JamCounted

@[simp] theorem quiet_jamCounted : Quiet (s.jamCounted p) ↔ Quiet s := by
  unfold State.jamCounted
  split <;> simp

theorem Still.jamCounted (h : Still s) : Still (s.jamCounted p) := by
  unfold State.jamCounted
  split <;> exact h

theorem NoWork.jamCounted (h : NoWork s) : NoWork (s.jamCounted p) := by
  unfold State.jamCounted
  split <;> simpa using h

@[simp] theorem State.press_jamCounted (q : PressNo) : (s.jamCounted p).press q = s.press q := by
  unfold State.jamCounted
  split <;> rfl

@[simp] theorem State.job_jamCounted (d : Entry) : (s.jamCounted p).job d = s.job d := by
  unfold State.jamCounted
  split <;> rfl

@[simp] theorem State.boundJob_jamCounted (q : PressNo) : (s.jamCounted p).boundJob q = s.boundJob q := by
  unfold State.jamCounted
  split <;> rfl

theorem State.jamCounted_jobs : (s.jamCounted p).jobs = s.jobs := by
  unfold State.jamCounted
  split <;> rfl

/-- The path of a BUSY press lost by its cover. -/
theorem State.coverLoss_enter (busy : (s.press p).state = .busy m) (bound : s.boundJob p = some e)
    (live : s.job e = some j) (rewinds : Rewinds s p e j) (st : PressState) :
    (s.coverLoss p).enter p st = ((s.jamCounted p).lossTo p e j m st).wantDemand := by
  unfold State.coverLoss State.jamCounted
  cases (s.press p).path with
  | nil => exact State.losePath_enter busy bound live rewinds
  | cons x rest => exact State.losePath_meter_enter busy bound live rewinds x.media Meter.countJam

/-- The service sheets of a press lost by its cover. -/
theorem State.coverLoss_service (service : ∀ x ∈ (s.press p).path, x.job = none) :
    s.coverLoss p = (s.jamCounted p).modPress p lostPath := by
  unfold State.coverLoss State.jamCounted
  rw [State.losePath_service service]
  cases (s.press p).path <;> rfl

end JamCounted

/-! ## The closing of a cover (R97) -/

/-- What the closing of a cover leaves, but for the recovery of a press it halted (R97). -/
def State.closed (p : PressNo) (s : State) : State :=
  ((s.modPress p fun x => { x with heartbeat := 0, cover := some false }).endCondition .coverOpen (.press p)).mark (.press p)

@[simp] theorem State.press_closed : (s.closed p).press p = { s.press p with heartbeat := 0, cover := some false } := by
  simp [State.closed]

@[simp] theorem quiet_closed : Quiet (s.closed p) ↔ Quiet s := by simp [State.closed]

theorem Still.closed (h : Still s) : Still (s.closed p) := by
  simpa [State.closed] using h.modPress p (f := fun x => { x with heartbeat := 0, cover := some false }) (h p)

theorem NoWork.closed (h : NoWork s) : NoWork (s.closed p) := by
  simpa [State.closed] using h.modPress p (f := fun x => { x with heartbeat := 0, cover := some false }) (h.nobody p)

theorem State.closed_eq : (((s.heard p).modPress p fun x => { x with cover := some false }).endCondition .coverOpen
    (.press p)).mark (.press p) = s.closed p := by
  simp [State.heard, State.closed]

/-- A press halted by its cover recovers as the cover closes (R91, R97). -/
theorem State.coverCloses_halted (hst : (s.press p).state = .halted .cover) :
    (s.heard p).coverCloses p = (s.closed p).recover p := by
  unfold State.coverCloses
  dsimp only
  rw [State.closed_eq, State.press_closed]
  simp only [hst]

/-- A press in another state keeps it (R97). -/
theorem State.coverCloses_keeps (hst : (s.press p).state ≠ .halted .cover) : (s.heard p).coverCloses p = s.closed p := by
  unfold State.coverCloses
  dsimp only
  rw [State.closed_eq, State.press_closed]
  split
  case h_1 halted => exact absurd halted hst
  case h_2 => rfl

end Opens

/-- Settles O48. -/
theorem coverTaken : Obligations.CoverTaken := by
  intro s p c isOpen linked hc other t st
  have run : exec c s = .next ((s.heard p).onCover p isOpen).settle := by
    rcases hc with rfl | rfl
    · exact exec_linked linked (f := .cover isOpen) rfl
    · exact exec_linked linked (f := .beat isOpen) rfl
  rw [State.onCover_heard other] at run
  refine ⟨fun hopen => ?_, fun hclosed => ?_⟩
  · subst hopen
    rw [if_pos rfl] at run
    refine ⟨fun hst => ?_, fun hst => ?_, ?_⟩
    · have kinds : (s.press p).state.isIdle = true ∨ (s.press p).state = .halted .wakeFail ∨
          (s.press p).state = .halted .calFail := hst.imp And.left (.imp And.left And.left)
      have not_busy : ∀ m, (s.press p).state ≠ .busy m := fun m busy => by
        simp [busy, PressState.isIdle] at kinds
      have work : NoWork s := by
        rcases hst with ⟨-, work⟩ | ⟨-, work⟩ | ⟨-, work⟩ <;> exact work
      rw [run, State.coverOpens_halts kinds, State.enter_other (by simpa using not_busy), State.putState_eq,
        (Settles.demand_noWork (by simpa using linked.quiet) (by simpa using work.opened.modPress p (by simp))).settle
          (by decide)]
      simp [State.opened, t]
    · have same : t st = s.modPress p fun x => { x with heartbeat := 0, cover := some true } := State.modPress_congr rfl
      rw [run, State.coverOpens_keeps hst, State.settle_quiet (by simpa using linked.quiet), same]
      rfl
    · intro lost jams
      refine ⟨fun m e j still busy bound live rewinds => ?_, fun cal n rests hst service => ?_⟩
      · intro i u₀ u₁ u
        have busy' : ((s.opened p).press p).state = .busy m := by simpa using busy
        have told : ((s.opened p).jamCounted p).lossTo p e j m (.halted .cover) = u := by
          have counts : Meter.countJam = fun m => { m with jams := min (m.jams + 1) 4294967295 } := rfl
          cases hp : (s.press p).path <;> cases m <;>
            simp [u, u₁, u₀, jams, lost, t, i, hp, State.jamCounted, State.lossTo, State.opened, lostPath, counts]
        have act : (s.heard p).coverOpens p = u.wantDemand.endLostDrain p := by
          rw [State.coverOpens_busy busy, State.coverLoss_enter busy' (by simpa using bound) (by simpa using live)
            (rewinds.of_same (by simp) (by simp)), told]
        have quiet : Quiet u := by rw [← told]; simpa using linked.quiet
        have calm : Still u := by
          rw [← told]
          exact still.opened.jamCounted.lossTo (by simp [PressState.isIdle])
        have press : u.press p = { lostPath ((s.opened p).press p) with state := .halted .cover } := by simp [← told]
        have bound' : u.boundJob p = some e := by
          rw [← told]
          exact State.boundJob_lossTo (by simpa using bound) (by simpa using live)
        have live' : u.job e = some i := by simp [← told, i]
        refine ⟨fun printing => ?_, fun target draining nobody => ?_⟩
        · rw [run, act, State.endLostDrain_printing (s := u.wantDemand) bound' live' (by simpa [i] using printing),
            (Settles.demand_still quiet calm).settle (by decide)]
        · rw [run, act, (Settles.endLostDrain_draining quiet calm (by simp [press]) (by simp [press, lostPath]) bound' live'
            (by simpa [i] using draining) ?_).settle (by decide)]
          simp only [i, hold_rewound, account_rewound]
          refine nobody.imp_right fun none_waits => ?_
          rw [← told]
          refine State.waiting_lossTo ?_ (by simp [draining])
          rwa [State.waiting_congr (s := s) (State.jamCounted_jobs.trans (by simp [State.opened]))]
      · have hst : (s.press p).state = .calibrating cal n := hst
        rw [run, State.coverOpens_calibrating hst, State.coverLoss_service (by simpa using service),
          State.enter_other (by simp [lostPath, hst]), State.putState_eq]
        have rests' : NoWork (((s.opened p).modPress p fun x => { x with resumeMark := true }).jamCounted p) ∨
            Still (((s.opened p).modPress p fun x => { x with resumeMark := true }).jamCounted p) :=
          rests.imp (fun w => (w.opened.modPress p (by simp [hst])).jamCounted)
            fun w => (w.opened.modPress p (by simp [hst, PressState.isIdle])).jamCounted
        refine congrArg Host.Outcome.next ((Settles.demand_either ?_ ?_).settle (by decide) |>.trans ?_)
        · simpa using linked.quiet
        · simpa using State.either_modPress rests' p (f := fun x => { lostPath x with state := .halted .cover })
            (by simp [PressState.isIdle])
        · have counts : Meter.countJam = fun m => { m with jams := min (m.jams + 1) 4294967295 } := rfl
          cases hp : (s.press p).path <;> simp [jams, lost, t, hp, State.jamCounted, State.opened, lostPath, counts]
  · subst hclosed
    rw [if_neg (by simp)] at run
    intro closes
    have cover : ((s.closed p).press p).cover ≠ some true := by simp
    have quiet : Quiet (s.closed p) := by simpa using linked.quiet
    refine ⟨fun hst => ?_, fun hst => ?_⟩
    · have same : t st = s.modPress p fun x => { x with heartbeat := 0, cover := some false } := State.modPress_congr rfl
      rw [run, State.coverCloses_keeps hst, State.settle_quiet quiet]
      simp only [closes, same]
      rfl
    · have hst : (s.press p).state = .halted .cover := hst
      have not_busy : ∀ m, ((s.closed p).press p).state ≠ .busy m := by simp [hst]
      rw [run, State.coverCloses_halted hst]
      refine ⟨fun work mark => ?_, fun work mark credits queue line => ?_, fun e j still bound live printing ready rests => ?_⟩
      · refine congrArg Host.Outcome.next ((Settles.recover_idle quiet not_busy cover work.closed
          (by simpa using mark)).settle (by decide) |>.trans ?_)
        simp [State.closed, closes, t]
      · refine congrArg Host.Outcome.next ((Settles.recover_calibrating quiet not_busy cover work.closed
          (by simpa using mark) (by simpa using credits) (by simpa using queue) (by simpa using line)).settle
            (by decide) |>.trans ?_)
        simp [State.closed, closes, t, State.calibrated]
      · refine congrArg Host.Outcome.next ((Settles.recover_busy quiet not_busy cover still.closed (e := e) (j := j)
          (by simpa [State.closed] using bound) (by simpa [State.closed] using live) printing
          (ready.of_same rfl rfl (by simp [State.closed]) (by simp [State.closed]))
          (NoStart.of_same rests (by simp) (by simp) (by simp) (by simp [State.closed]) (by simp [State.closed]))).settle
            (by decide) |>.trans ?_)
        simp [State.closed, closes, t]

end Sys2Proof.Machine
end

section
/-! PROOF. READY, ASLEEP and CALDONE, the binding on READY, and the ranking of candidates (R15, R65 to R70, R92, R93, R98). -/

namespace Sys2Proof.Machine

/-! ## Entering IDLE with no work (R66, R91) -/

section Idle

variable {s : State} {p : PressNo}

theorem State.modRec_congr {f g : PressRec → PressRec} (h : f (s.pressRec p) = g (s.pressRec p)) :
    s.modRec p f = s.modRec p g := by
  simp only [State.modRec, h]

theorem State.modRec_same {f : PressRec → PressRec} (h : f (s.pressRec p) = s.pressRec p) : s.modRec p f = s := by
  unfold State.modRec
  rw [h]
  simp [State.pressRec]

/-- A press that enters IDLE with no work stays so; one whose cover is OPEN is halted (R91). -/
theorem Settles.enterIdle_noWork (hq : Quiet s) (work : NoWork s) (not_busy : ∀ m, (s.press p).state ≠ .busy m) :
    Settles 3 (s.enterIdle p) ((s.modPress p fun x =>
      { x with state := if (s.press p).cover = some true then .halted .cover else .idle false 0 }).mark (.press p)) := by
  by_cases cover : (s.press p).cover = some true
  · rw [State.enterIdle_open cover, State.enter_other not_busy, State.putState_eq]
    simp only [cover, if_true]
    exact (Settles.demand_noWork (by simpa using hq) (by simpa using work.modPress p (by simp))).mono (by decide)
  · rw [State.enterIdle_closed cover, State.enter_other not_busy, State.putState_eq]
    simp only [cover, if_false]
    exact Settles.decidePress_noWork (by simpa using hq) (by simpa using work.modPress p (by simp)) p

/-- The end of a sleep makes a LONG run due exactly where it was as long as the press's threshold (R113). -/
theorem State.longSleep_eq : s.longSleep p = ((s.pressRec p).longThreshold != 0 && (s.press p).sleepStart.any fun t =>
    decide ((s.pressRec p).longThreshold * 3600 ≤ (s.time - t).toNat)) := by
  unfold State.longSleep
  cases (s.press p).sleepStart with
  | none => simp
  | some t => rfl

theorem State.longSleep_heard : (s.heard p).longSleep p = s.longSleep p := by
  rw [State.longSleep_eq, State.longSleep_eq, State.press_heard]
  rfl

/-- READY: the LONG flag set after a long sleep, and the press IDLE (R92, R113). -/
theorem State.onReady_waking {n : Nat} (hst : (s.press p).state = .waking n) : s.onReady p =
    (s.modRec p fun r => { r with longDue := r.longDue || s.longSleep p }).enterIdle p := by
  have flag : s.modRec p (fun r => { r with longDue := r.longDue || s.longSleep p }) =
      if s.longSleep p then s.modRec p fun r => { r with longDue := true } else s := by
    split
    case isTrue long => exact State.modRec_congr (by rw [long, Bool.or_true])
    case isFalse short => exact State.modRec_same (by simp [short])
  rw [flag]
  simp only [State.onReady, hst]

end Idle

/-- A press heard and gone to IDLE, its decision still to be taken (R66, R88). -/
def State.readied (p : PressNo) (s : State) : State :=
  (s.modPress p fun x => { x with heartbeat := 0, state := .idle false 0 }).mark (.press p)

/-! ## The candidate ranked first (R65 to R70) -/

/-- The candidate ranked first is a matter of the jobs, the spool, the settings and the press's pool and FAIR pointer. -/
theorem State.bestCandidate_congr {s t : State} {p : PressNo} (jobs : t.jobs = s.jobs) (spool : t.spool = s.spool)
    (agenda : t.agenda = s.agenda) (ret : t.ret = s.ret) (time : t.time = s.time)
    (counter : t.commitCounter = s.commitCounter) (held : (t.press p).heldPool = (s.press p).heldPool)
    (fair : (t.press p).fair = (s.press p).fair) : t.bestCandidate p = s.bestCandidate p := by
  have job : t.job = s.job := by
    funext d
    simp only [State.job, jobs]
  have record : t.pressRec p = s.pressRec p := by simp only [State.pressRec, ret]
  have pool : t.poolInForce p = s.poolInForce p :=
    State.poolInForce_congr (congrFun (State.boundJob_congr jobs) p) held record
  have candidate : t.isCandidate p = s.isCandidate p := by
    funext d
    simp only [State.isCandidate, State.offered, State.eligible_congr jobs spool, agenda, job, State.isOf, pool, State.fits,
      record]
  have key : t.rankKey p = s.rankKey p := by
    funext d
    simp only [State.rankKey, State.classRank, State.age, job, ret, time, counter, fair]
  rw [State.bestCandidate, State.bestCandidate, State.candidates, candidate, key]
  rfl

theorem State.pageIs_iff {s : State} {e : Entry} {st : PageState} {k : Nat} :
    s.pageIs e st k = true ↔ ∃ x, s.spool.page e k = some x ∧ x.2.state = st := by
  rw [State.pageIs, Option.any_eq_true]
  simp only [beq_iff_eq]

/-- The candidates of a press are the eligible jobs of its own or of its pool that it fits (R65). -/
theorem State.mem_candidates {s : State} {p : PressNo} {e : Entry} (hq : Quiet s) : e ∈ s.candidates p ↔
    ∃ j, s.job e = some j ∧ s.eligible e = true ∧ s.fits p j = true ∧
      (j.target = .press p ∨ ∃ q, j.target = .pool q ∧ s.poolInForce p = some q) := by
  have isOf (t : Target) : s.isOf t p = true ↔ t = .press p ∨ ∃ q, t = .pool q ∧ s.poolInForce p = some q := by
    cases t with
    | press r =>
      simp only [State.isOf, beq_iff_eq, Target.press.injEq, reduceCtorEq, false_and, exists_false, or_false]
      exact eq_comm
    | pool q => simp [State.isOf]
  have offered : s.offered e = s.eligible e := by simp [State.offered, hq.1]
  cases live : s.job e with
  | none => simp [State.candidates, State.isCandidate, live]
  | some j =>
    simp only [State.candidates, State.isCandidate, live, offered, isOf, List.mem_filter, allEntries, List.mem_finRange,
      Option.any_some, Bool.and_eq_true, Option.some.injEq, exists_eq_left', true_and]
    tauto

/-- Ranks that are compared by one number are compared part by part, the first part first (R68 to R70). -/
theorem lex_of_key {a b t u g k : Nat} (ht : t ≤ 255) (hu : u ≤ 255) (hg : g < 2 ^ 32) (hk : k < 2 ^ 32)
    (h : (a * 256 + t) * 2 ^ 32 + g ≤ (b * 256 + u) * 2 ^ 32 + k) : a < b ∨ a = b ∧ (t < u ∨ t = u ∧ g ≤ k) := by
  omega

/-- A press that becomes IDLE without a due flag is bound to the candidate ranked first (R66, R71). -/
theorem State.decidePress_bind {s : State} {p : PressNo} {e : Entry} (idle : (s.press p).state.isIdle = true)
    (best : s.bestCandidate p = some e) (undue : ¬ Due s p) : s.decidePress p = s.bind p e := by
  have due : (s.pressRec p).due = false := by rw [Bool.eq_false_iff, Ne, State.due_iff]; exact undue
  simp only [State.decidePress, idle, best, due, if_true, Bool.false_eq_true, if_false]

/-- Settles O49. -/
theorem wakeSleepCalibrationEnds : Obligations.WakeSleepCalibrationEnds := by
  refine ⟨fun s p linked work => ?_, fun s p n e j linked aw hst cover credits short long sleep best live waits unbound => ?_,
    fun s p hq => ?_⟩
  · intro idle r
    have heard : NoWork (s.heard p) := work.heard
    refine ⟨fun n hst => ?_, fun hst => ?_, fun run n hst service => ?_⟩
    · have act : (s.heard p).onReady p = ((s.heard p).modRec p fun r => { r with
          longDue := r.longDue || (r.longThreshold != 0 && (s.press p).sleepStart.any fun t =>
            decide (r.longThreshold * 3600 ≤ (s.time - t).toNat)) }).enterIdle p := by
        rw [State.onReady_waking (by simpa using hst), State.longSleep_heard, State.longSleep_eq]
        exact congrArg (State.enterIdle p) (State.modRec_congr rfl)
      rw [exec_linked linked (f := .ready) rfl, State.frameAct, act]
      refine congrArg Host.Outcome.next ((Settles.enterIdle_noWork (by simpa using linked.quiet) (by simpa using heard)
        (by simp [hst])).settle (by decide) |>.trans ?_)
      simp [State.heard, idle]
    · have act : (s.heard p).onAsleep p = (s.heard p).enterAsleep p := by
        rcases hst with sleeping | idle
        · simp only [State.onAsleep, State.press_heard, sleeping]
        · cases hs : (s.press p).state with
          | idle => simp only [State.onAsleep, State.press_heard, hs]
          | _ => simp [hs, PressState.isIdle] at idle
      have not_busy : ∀ m, (s.press p).state ≠ .busy m := fun m busy => by simp [busy, PressState.isIdle] at hst
      rw [exec_linked linked (f := .asleep) rfl, State.frameAct, act, State.enterAsleep,
        State.enter_other (by simpa using not_busy), State.putState_eq, State.modPress_wantDemand]
      refine congrArg Host.Outcome.next ((Settles.demand_noWork ?_ ?_).settle (by decide) |>.trans ?_)
      · simpa using linked.quiet
      · simpa using heard.modPress p (by simp)
      · simp [State.heard]
    · intro lost
      refine ⟨?_, ?_⟩
      · have act : (s.heard p).onCaldone p true =
            (((s.heard p).modPress p lostPath).modRec p (PressRec.pass run.long)).enterIdle p := by
          simp only [State.onCaldone, State.press_heard, hst, if_true]
          rw [State.losePath_service (by simpa using service)]
        rw [exec_linked linked (f := .caldone true) rfl, State.frameAct, act]
        refine congrArg Host.Outcome.next ((Settles.enterIdle_noWork ?_ ?_ ?_).settle (by decide) |>.trans ?_)
        · simpa using linked.quiet
        · simpa using heard.modPress p (f := lostPath) (by simp [lostPath, hst])
        · simp [lostPath, hst]
        · have path : (s.heard p).modPress p lostPath = lost := by simp [State.heard, lost, lostPath]
          have flags : lost.modRec p (PressRec.pass run.long) = lost.modRec p fun _ => { r with
              sheetCount := 0, shortDue := false, longDue := r.longDue && !run.long } := by
            refine State.modRec_congr ?_
            have record : lost.pressRec p = r := rfl
            rw [record, PressRec.pass]
            cases run.long <;> simp
          have cover : ((lost.modRec p (PressRec.pass run.long)).press p).cover = (s.press p).cover := by simp [lost]
          rw [path, cover, flags]
      · have act : (s.heard p).onCaldone p false = (s.heard p).failRun p := by
          simp only [State.onCaldone, State.press_heard, hst, Bool.false_eq_true, if_false]
        rw [exec_linked linked (f := .caldone false) rfl, State.frameAct, act, State.failRun,
          State.losePath_service (by simpa using service), State.enter_other (by simp [lostPath, hst]), State.putState_eq,
          State.raise_wantDemand, State.modPress_twice]
        refine congrArg Host.Outcome.next ((Settles.demand_noWork ?_ ?_).settle (by decide) |>.trans ?_)
        · simpa using linked.quiet
        · simpa using heard.modPress p (f := fun x => { lostPath x with state := .halted .calFail }) (by simp)
        · simp [lost, State.heard, lostPath]
  · have short_sleep : (s.heard p).longSleep p = false := by
      rw [State.longSleep_heard, State.longSleep_eq]
      rcases sleep with never | brief
      · simp [never]
      · cases start : (s.press p).sleepStart with
        | none => simp
        | some t =>
          have early : ¬ (s.pressRec p).longThreshold * 3600 ≤ (s.time - t).toNat := Nat.not_le_of_lt (brief t start)
          rw [Option.any_some, decide_eq_false early, Bool.and_false]
    have act : (s.heard p).onReady p = ((s.readied p).wantDemand).push (.decidePress p) := by
      have flags : ((s.heard p).modRec p fun r => { r with longDue := r.longDue || (s.heard p).longSleep p }) = s.heard p :=
        State.modRec_same (by simp [short_sleep])
      rw [State.onReady_waking (by simpa using hst), flags,
        State.enterIdle_closed (by simpa using cover), State.enter_other (by simp [hst]), State.putState_eq]
      simp [State.heard, State.readied]
    rw [exec_linked linked (f := .ready) rfl, State.frameAct, act]
    have awake : Awake (s.readied p) :=
      (aw.modPress p (f := fun x => { x with heartbeat := 0, state := .idle false 0 }) (by simp)).of_press fun q => by simp [State.readied]
    have best' : (s.readied p).bestCandidate p =
        some e := by
      rw [State.bestCandidate_congr (s := s)]
      · exact best
      all_goals simp [State.readied]
    have decided : Settles 3 ((s.readied p).decidePress p) ((s.readied p).boundTo p e j) := by
      rw [State.decidePress_bind (by simp [State.readied, PressState.isIdle]) best' (by simp [State.readied, Due, short, long])]
      exact Settles.bound (by simpa [State.readied] using linked.quiet) awake (by simpa [State.readied] using live)
        (by simp [State.readied, PressState.isIdle]) (by simpa [State.readied] using cover)
        (by simpa [State.readied] using credits) (by simpa [State.readied] using unbound)
        (waits.sheet.of_same rfl rfl (by simp [State.readied]) (by simp [State.readied]))
    refine congrArg Host.Outcome.next ((Settles.decision_awake (by simpa [State.readied] using linked.quiet) awake rfl decided).settle
      (by decide) |>.trans ?_)
    simp [State.boundTo, State.readied]
    rfl
  · intro candidate steps rank turn behind
    refine ⟨fun e j live => ⟨?_, ?_⟩, ?_, fun e best => ⟨?_, fun d i j cand hi hj => ?_⟩⟩
    · rw [State.cursorReady_iff live]
      simp only [Job.cursorSheet_iff, State.sheetReady_iff, State.pageIs_iff]
      constructor
      · rintro ⟨n, sh, ⟨c, hc, hn, hsh⟩, complete⟩
        exact ⟨c, n, sh, hc, hn, hsh, complete⟩
      · rintro ⟨c, n, sh, hc, hn, hsh, complete⟩
        exact ⟨n, sh, ⟨c, hc, hn, hsh⟩, complete⟩
    · exact State.eligible_iff live
    · constructor
      · intro none_best e cand
        have empty : s.candidates p = [] := pickMax_eq_none none_best
        have mem := (State.mem_candidates hq).mpr cand
        rw [empty] at mem
        cases mem
      · intro nobody
        have empty : s.candidates p = [] := List.eq_nil_iff_forall_not_mem.mpr fun e mem =>
          nobody e ((State.mem_candidates hq).mp mem)
        rw [State.bestCandidate, empty]
        rfl
    · exact (State.mem_candidates hq).mp (pickMax_eq_some best).1
    · have key := (pickMax_eq_some best).2 d ((State.mem_candidates hq).mpr cand)
      have classRank : ∀ k : Job, s.classRank k = rank k := fun k => by
        have low : k.cls.rank ≤ 2 := by cases k.cls <;> decide
        have ranked : rank k = min 2 (k.cls.rank + steps k) := by
          simp only [rank]
          cases k.cls <;> rfl
        rw [ranked]
        simp only [steps, State.classRank]
        cases s.ret.schedule.mode with
        | aged =>
          cases k.state with
          | queued t => rfl
          | _ => exact (Nat.min_eq_right low).symm
        | _ => exact (Nat.min_eq_right low).symm
      have age : ∀ k : Job, s.age k = behind k := fun k => by
        simp only [State.age, behind]
        cases k.commit <;> rfl
      have young : ∀ k : Job, behind k < 2 ^ 32 := fun k => by
        simp only [behind]
        cases k.commit with
        | none => exact Nat.two_pow_pos 32
        | some c => exact (s.commitCounter - c.seq).isLt
      simp only [State.rankKey, hi, hj, classRank, age] at key
      by_cases fair : s.ret.schedule.mode = .fair
      · have turned : ∀ k : Job, turn k ≤ 255 ∧ fairRank (s.press p).fair k.account = 255 - turn k := fun k => by
          have turn_eq : turn k = (k.account.val + 255 - (s.press p).fair.val) % 256 := if_pos fair
          rw [turn_eq, fairRank]
          exact ⟨Nat.le_of_lt_succ (Nat.mod_lt _ (by decide)), rfl⟩
        simp only [if_pos fair, (turned _).2] at key
        have most_i := (turned i).1
        have most_j := (turned j).1
        have parts := lex_of_key (Nat.sub_le _ _) (Nat.sub_le _ _) (young i) (young j) key
        omega
      · have unturned : ∀ k : Job, turn k = 0 := fun k => by simp only [turn, if_neg fair]
        simp only [if_neg fair] at key
        have parts := lex_of_key (Nat.zero_le _) (Nat.zero_le _) (young i) (young j) key
        rw [unturned, unturned]
        omega

end Sys2Proof.Machine
end

section
/-! SUPPORT. A delivery: the charge, the meters, the release and the progress, up to what is decided after it (R54). -/

namespace Sys2Proof.Machine

/-- A sheet delivered: the head entry of a path and those behind it, its job, its charge, and the spool its release leaves. -/
structure Delivery where
  press : PressNo
  head : PathEntry
  rest : List PathEntry
  entry : Entry
  account : AccountNo
  sheet : Sheet
  charge : Nat
  spool : Spool

/-- What a delivery leaves of the state, the job written as it is then: the entry removed, the frame heard, the charge
taken, the meters and the calibration counter counted, the pages released, the report pending (R54, R129, R145). -/
def State.delivered (d : Delivery) (i : Job) (s : State) : State :=
  ((((((s.setSpool d.spool).modPress d.press fun x => { x with heartbeat := 0, path := d.rest }).setJob d.entry
    (some i)).modAccount d.account (Account.charge d.account d.charge)).modMeter d.press d.head.media
      (Meter.countSheet d.sheet.band d.head.sides)).modRec d.press PressRec.countSheet).mark (.job d.entry)

section Delivered

variable {s : State} {d : Delivery} {i : Job}

@[simp] theorem quiet_delivered : Quiet (s.delivered d i) ↔ Quiet s := by simp [State.delivered]

@[simp] theorem State.press_delivered :
    (s.delivered d i).press d.press = { s.press d.press with heartbeat := 0, path := d.rest } := by
  simp [State.delivered]

@[simp] theorem State.job_delivered : (s.delivered d i).job d.entry = some i := by simp [State.delivered]

@[simp] theorem State.delivered_spool : (s.delivered d i).spool = d.spool := by simp [State.delivered]

@[simp] theorem State.delivered_low : (s.delivered d i).low = s.low := by simp [State.delivered]

@[simp] theorem State.delivered_schedule : (s.delivered d i).ret.schedule = s.ret.schedule := by
  simp [State.delivered]

theorem State.delivered_jobs : (s.delivered d i).jobs = (s.setJob d.entry (some i)).jobs := by
  simp [State.delivered]
  rfl

theorem PressRec.countSheet_caps (r : PressRec) : r.countSheet.caps = r.caps := by
  unfold PressRec.countSheet PressRec.testShort
  split <;> rfl

theorem State.caps_delivered (q : PressNo) : ((s.delivered d i).pressRec q).caps = (s.pressRec q).caps := by
  simp only [State.delivered, State.pressRec_mark, State.pressRec_modRec]
  split
  case isTrue hq => subst hq; exact PressRec.countSheet_caps _
  case isFalse => rfl

/-- The job written again. -/
@[simp] theorem State.setJob_delivered (k : Job) : (s.delivered d i).setJob d.entry (some k) = s.delivered d k := by
  simp [State.delivered]

theorem State.boundJob_delivered (bound : s.boundJob d.press = some d.entry) (hi : i.state.bound = some d.press) :
    (s.delivered d i).boundJob d.press = some d.entry := by
  have kept := State.boundJob_setJob (s := s) bound hi
  rw [State.boundJob_congr State.delivered_jobs]
  exact kept

/-! ## What the sheet conditions find after a delivery (R46) -/

/-- What the sheet conditions see of a delivery: the entry removed, the pages released. -/
def State.freed (d : Delivery) (s : State) : State :=
  (s.setSpool d.spool).modPress d.press fun x => { x with path := d.rest }

theorem State.loaded_delivered (q : PressNo) (m : Nat) : (s.delivered d i).loaded q m = s.loaded q m := by
  simp only [State.loaded, State.caps_delivered]

/-- Whether a sheet can start is as it was, with the entry removed from the path. -/
theorem NoStart.delivered : NoStart (s.delivered d i) d.press ↔ NoStart (s.freed d) d.press := by
  simp [NoStart, State.depth, State.caps_delivered, State.freed]

theorem State.pageIs_delivered : (s.delivered d i).pageIs = (s.freed d).pageIs :=
  State.pageIs_congr (by simp [State.freed])

/-- Whether the sheet at the cursor is ready is as it is with the pages released. -/
theorem SheetReady.delivered {j : Job} (h : SheetReady (s.freed d) d.press d.entry j)
    (cursor : i.cursorSheet = j.cursorSheet) : SheetReady (s.delivered d i) d.press d.entry i := by
  obtain ⟨n, sh, hn, -, loaded, complete⟩ := h.cursorSheet
  obtain ⟨c, hc, hcn, hsh⟩ := Job.cursorSheet_iff.mp (cursor.trans hn)
  refine ⟨c, n, sh, hc, hcn, hsh, ?_, ?_⟩
  · rw [State.loaded_delivered]
    exact loaded
  · rwa [State.pageIs_delivered]

theorem State.starveOf_delivered {j : Job} (cursor : i.cursorSheet = j.cursorSheet) (starve : i.starve = j.starve) :
    (s.delivered d i).starveOf d.entry i = (s.freed d).starveOf d.entry j := by
  have schedule : (s.freed d).ret.schedule = s.ret.schedule := by simp [State.freed]
  simp only [State.starveOf, cursor, starve, State.pageIs_delivered, State.delivered_schedule, schedule]

theorem Undamaged.delivered {j : Job} {n : Nat} (h : Undamaged (s.freed d) d.entry j n) (sheets : i.sheetOf = j.sheetOf) :
    Undamaged (s.delivered d i) d.entry i n := by
  intro sh k hsh hk
  rw [State.pageIs_delivered]
  exact h sh k (sheets ▸ hsh) hk

section Examined

variable {now : Option Nat} {j : Job} (busy : (s.press d.press).state = .busy now)
  (bound : s.boundJob d.press = some d.entry) (printing : i.state = .printing d.press)
  (cursor : i.cursorSheet = j.cursorSheet)
include busy bound printing cursor

/-- With the cursor at END, or the press or the supply alone in the way, no sheet starts behind the delivery (R46). -/
theorem State.examine_delivered_rests (now_none : now = none) (h : j.cursorSheet = none ∨
      (SheetReady (s.freed d) d.press d.entry j ∧ NoStart (s.freed d) d.press)) :
    (s.delivered d i).examine d.press = s.delivered d { i with starve := none } := by
  subst now_none
  have busy' : ((s.delivered d i).press d.press).state = .busy none := by simpa using busy
  have bound' := State.boundJob_delivered bound (i := i) (by rw [printing]; rfl)
  rcases h with ended | ⟨ready, rests⟩
  · rw [State.examine_end busy' bound' State.job_delivered printing (cursor.trans ended), State.mediaWaitEnded_none,
      State.setJob_delivered]
  · rw [State.examine_noStart busy' bound' State.job_delivered printing (ready.delivered cursor)
      (NoStart.delivered.mpr rests), State.mediaWaitEnded_none, State.setJob_delivered]

variable (sheets : i.sheetOf = j.sheetOf) (starve : i.starve = j.starve)

/-- The next sheet starts into the freed place (R46, R47). -/
theorem State.examine_delivered_starts (now_none : now = none) {n : Nat} {sh : Sheet} {data : List Byte} {last : Bool}
    (h : Starts (s.freed d) d.press d.entry j n sh data last) : (s.delivered d i).examine d.press =
      (s.delivered d { i with starve := none }).modPress d.press (started (some (d.entry, n)) sh.media sh.sides data last) := by
  subst now_none
  have busy' : ((s.delivered d i).press d.press).state = .busy none := by simpa using busy
  have bound' := State.boundJob_delivered bound (i := i) (by rw [printing]; rfl)
  have free : ¬ NoStart (s.delivered d i) d.press := by rw [NoStart.delivered]; exact h.free
  obtain ⟨c, m, sh', hc, hcm, hsh, loaded, complete⟩ := h.ready.delivered (i := i) cursor
  obtain ⟨rfl, rfl⟩ : m = n ∧ sh' = sh := by
    have same := (Job.cursorSheet_iff.mpr ⟨c, hc, hcm, hsh⟩).symm.trans (cursor.trans h.cursor)
    simpa using same
  obtain ⟨k, pg, page, block⟩ := h.first
  rw [State.examine_starts busy' bound' State.job_delivered printing (cursor.trans h.cursor) loaded complete free,
    State.mediaWaitEnded_none, State.setJob_delivered]
  have credit : 0 < (s.press d.press).credits := by
    have some_credit : ¬ (s.press d.press).credits = 0 := fun none_left => h.free (.inl (by simpa [State.freed] using none_left))
    omega
  refine State.startSheet_free (d := k) ?_ ?_ ?_ State.job_delivered hsh ?_ (by simpa [State.freed] using block)
  · simpa [State.freed] using h.line
  · simpa [State.freed] using h.nothing
  · simpa using credit
  · simpa [State.freed] using page

include sheets starve

/-- A page of the next sheet is missing: the starve timer runs (R50). -/
theorem State.examine_delivered_missing (now_none : now = none) {n : Nat} {sh : Sheet} (hn : j.cursorSheet = some (n, sh))
    (whole : Undamaged (s.freed d) d.entry j n) (loaded : s.loaded d.press sh.media = true)
    (missing : ∃ k ∈ sh.pages, (s.freed d).pageIs d.entry .complete k = false) : (s.delivered d i).examine d.press =
      s.delivered d { i with starve := (s.freed d).starveOf d.entry j } := by
  subst now_none
  have busy' : ((s.delivered d i).press d.press).state = .busy none := by simpa using busy
  have bound' := State.boundJob_delivered bound (i := i) (by rw [printing]; rfl)
  rw [State.examine_missing busy' bound' State.job_delivered printing (cursor.trans hn) (whole.delivered sheets)
      (by rw [State.loaded_delivered]; exact loaded) (by rw [State.pageIs_delivered]; exact missing),
    State.mediaWaitEnded_none, State.setJob_delivered, State.starveOf_delivered cursor starve]

/-- No tray is LOADED for the next sheet: media wait (R51). -/
theorem State.examine_delivered_unloaded {n : Nat} {sh : Sheet} (hn : j.cursorSheet = some (n, sh))
    (whole : Undamaged (s.freed d) d.entry j n) (unloaded : s.loaded d.press sh.media = false) :
    (s.delivered d i).examine d.press = ((s.delivered d i).mediaWaitBegun d.press now sh.media).setJob d.entry (some
      { i with starve := (s.freed d).starveOf d.entry j }) := by
  have busy' : ((s.delivered d i).press d.press).state = .busy now := by simpa using busy
  have bound' := State.boundJob_delivered bound (i := i) (by rw [printing]; rfl)
  rw [State.examine_unloaded busy' bound' State.job_delivered printing (cursor.trans hn) (whole.delivered sheets)
      (by rw [State.loaded_delivered]; exact unloaded), State.starveOf_delivered cursor starve]

end Examined

end Delivered

/-! ## The delivery (R54) -/

section Deliver

variable {s : State} {p : PressNo} {head : PathEntry} {rest : List PathEntry} {e : Entry} {n : Nat} {j : Job}

/-- The delivery of a sheet of a job: its position charged under the table of the job's generation, and its pages released
where it carries them last (R36, R54, R129). -/
def State.delivery (s : State) (p : PressNo) (head : PathEntry) (rest : List PathEntry) (e : Entry) (n : Nat) (j : Job)
    (c : Commit) (sh : Sheet) : Delivery where
  press := p
  head := head
  rest := rest
  entry := e
  account := j.account
  sheet := sh
  charge := (s.tableOf c.gen).sheetCharge sh n
  spool := if j.lastCarrier n then sh.pages.foldl (fun sp k => sp.releasePage e k) s.spool else s.spool

/-- The job after a delivery: charged, its hold less the charge, one sheet further (R54, R129). -/
def Job.advanced (c : Nat) (j : Job) : Job := { j.charge c with delivered := j.delivered + 1 }

theorem State.chargeOf_eq {c : Commit} {sh : Sheet} (hc : j.commit = some c) (hsh : j.sheetOf n = some sh) :
    s.chargeOf j n = (s.tableOf c.gen).sheetCharge sh n := by
  simp only [State.chargeOf, hc, hsh]

theorem State.applyCharge_live (live : s.job e = some j) (c : Nat) :
    s.applyCharge e c = (s.setJob e (some (j.charge c))).modAccount j.account (Account.charge j.account c) := by
  simp only [State.applyCharge, live]

theorem State.releasePages_eq {sh : Sheet} (hsh : j.sheetOf n = some sh) : s.releasePages e j n =
    s.setSpool (if j.lastCarrier n then sh.pages.foldl (fun sp k => sp.releasePage e k) s.spool else s.spool) := by
  unfold State.releasePages
  simp only [hsh]
  split <;> rfl

theorem State.onDelivered_job {c : Commit} {sh : Sheet} (path : (s.press p).path = head :: rest)
    (picked : head.state = .picked) (hjob : head.job = some (e, n)) (live : s.job e = some j) (hc : j.commit = some c)
    (hsh : j.sheetOf n = some sh) : (s.heard p).onDelivered p head.seq =
      (s.delivered (s.delivery p head rest e n j c sh)
        (j.advanced ((s.tableOf c.gen).sheetCharge sh n))).afterDelivery p e := by
  have path' : ((s.heard p).press p).path = head :: rest := by simpa using path
  have live' : ((s.heard p).modPress p fun x => { x with path := rest }).job e = some j := by simpa using live
  have table : ((s.heard p).modPress p fun x => { x with path := rest }).tableOf c.gen = s.tableOf c.gen := rfl
  simp only [State.onDelivered, path', picked, decide_true, Bool.and_self, if_true, hjob]
  rw [State.deliverJob]
  simp only [live', hsh, Option.map_some, Option.getD_some]
  refine congrArg (State.afterDelivery p e) ?_
  rw [State.chargeOf_eq hc hsh, table, State.applyCharge_live live', State.releasePages_eq hsh,
    State.modJob_live (j := j.charge ((s.tableOf c.gen).sheetCharge sh n)) (by simp)]
  simp [State.delivered, State.delivery, State.heard, Job.advanced]
  rfl

end Deliver

/-! ## After a delivery (R55) -/

section After

variable {s t : State} {p : PressNo} {e : Entry} {i : Job}

theorem State.afterDelivery_more (live : s.job e = some i) (more : i.delivered ≠ i.total) :
    s.afterDelivery p e = (s.endDrainIfEmpty p e).push (.examine p) := by
  simp only [State.afterDelivery, live, if_neg more]

theorem State.afterDelivery_last (live : s.job e = some i) (last : i.delivered = i.total) :
    s.afterDelivery p e = (s.finishJob e .completed).releasePress p := by
  simp only [State.afterDelivery, live, if_pos last]

/-- A drain goes on while sheets are in the path (R19). -/
theorem State.endDrainIfEmpty_path (path : (s.press p).path ≠ []) : s.endDrainIfEmpty p e = s := by
  unfold State.endDrainIfEmpty
  split
  · rfl
  · split
    · simp [path]
    · rfl

theorem State.endDrainIfEmpty_printing {q : PressNo} (live : s.job e = some i) (printing : i.state = .printing q) :
    s.endDrainIfEmpty p e = s := by
  simp only [State.endDrainIfEmpty, live, printing]

/-- An examination that raises nothing is the whole effect. -/
theorem Settles.examined (hq : Quiet s) (examined : s.examine p = t) (quiet : Quiet t) :
    Settles 2 (s.push (.examine p)) t :=
  Settles.examine hq.1 (by rw [examined]; exact Settles.quiet quiet)

end After

/-! ## The outcomes of a delivery that is not the last (R46, R50, R51, R55) -/

section More

variable {s : State} {d : Delivery} {i j : Job} {now : Option Nat} (hq : Quiet s) (more : i.delivered ≠ i.total)
include hq more

/-- A delivery whose job goes on is examined for the next sheet, and that is the whole effect. -/
theorem Settles.delivered_more {t : State} (goes_on : (s.delivered d i).endDrainIfEmpty d.press d.entry = s.delivered d i)
    (examined : (s.delivered d i).examine d.press = t) (quiet : Quiet t) :
    Settles 2 ((s.delivered d i).afterDelivery d.press d.entry) t := by
  rw [State.afterDelivery_more State.job_delivered more, goes_on]
  exact Settles.examined (by simpa using hq) examined quiet

/-- A DRAINING job with sheets left in the path drains on (R55). -/
theorem Settles.delivered_draining {target : DrainTarget} (busy : (s.press d.press).state = .busy now)
    (bound : s.boundJob d.press = some d.entry) (draining : i.state = .draining d.press target) (inside : d.rest ≠ []) :
    Settles 2 ((s.delivered d i).afterDelivery d.press d.entry) (s.delivered d i) :=
  Settles.delivered_more hq more (State.endDrainIfEmpty_path (by simpa using inside))
    (State.examine_draining (State.boundJob_delivered bound (by rw [draining]; rfl)) State.job_delivered draining
      (by simp [busy])) (by simpa using hq)

/-- A PRINTING job's next sheet is examined into the freed place (R46). -/
theorem Settles.delivered_printing {t : State} (printing : i.state = .printing d.press)
    (examined : (s.delivered d i).examine d.press = t) (quiet : Quiet t) :
    Settles 2 ((s.delivered d i).afterDelivery d.press d.entry) t :=
  Settles.delivered_more hq more (State.endDrainIfEmpty_printing State.job_delivered printing) examined quiet

end More

/-- The outcomes of a delivery that is not its job's last, by the job's state and what the sheet conditions find. -/
theorem delivered_more_outcomes {s : State} {d : Delivery} {i j : Job} {c : Commit} {now : Option Nat} {goes : State → Prop}
    (hq : Quiet s) (more : i.delivered ≠ i.total) (busy : (s.press d.press).state = .busy now)
    (bound : s.boundJob d.press = some d.entry) (state : i.state = j.state) (cursor : i.cursorSheet = j.cursorSheet)
    (sheets : i.sheetOf = j.sheetOf) (starve : i.starve = j.starve) (hc : j.commit = some c)
    (outcome : ∀ t, Settles 2 ((s.delivered d i).afterDelivery d.press d.entry) t → goes t) :
    (∀ target, j.state = .draining d.press target → d.rest ≠ [] → goes (s.delivered d { i with starve := j.starve })) ∧
    (j.state = .printing d.press →
      (now = none → c.cursor = none ∨ (SheetReady (s.freed d) d.press d.entry j ∧ NoStart (s.freed d) d.press) →
        goes (s.delivered d { i with starve := none })) ∧
      (∀ m sh data last, now = none → Starts (s.freed d) d.press d.entry j m sh data last →
        goes ((s.delivered d { i with starve := none }).modPress d.press
          (started (some (d.entry, m)) sh.media sh.sides data last))) ∧
      (∀ m sh, j.cursorSheet = some (m, sh) → Undamaged (s.freed d) d.entry j m →
        let t := s.delivered d { i with starve := (s.freed d).starveOf d.entry j }
        (now = none → s.loaded d.press sh.media = true → (∃ k ∈ sh.pages, (s.freed d).pageIs d.entry .complete k = false) →
          goes t) ∧
        (now = none ∨ now = some sh.media → s.loaded d.press sh.media = false →
          goes (if now = some sh.media then t else
            ((t.modPress d.press fun x => { x with state := .busy (some sh.media) }).mark (.press d.press)).raise .mediaOut
              (.press d.press) (some sh.media))))) := by
  refine ⟨fun target draining inside => ?_, fun printing => ⟨fun hnow h => ?_, fun m sh data last hnow h => ?_,
    fun m sh hn whole => ⟨fun hnow loaded missing => ?_, fun hnow unloaded => ?_⟩⟩⟩
  · have kept : { i with starve := j.starve } = i := by rw [← starve]
    rw [kept]
    exact outcome _ (Settles.delivered_draining hq more busy bound (state.trans draining) inside)
  · have ends : j.cursorSheet = none ∨ (SheetReady (s.freed d) d.press d.entry j ∧ NoStart (s.freed d) d.press) :=
      h.imp_left fun none_left => by simp [Job.cursorSheet, hc, none_left]
    exact outcome _ (Settles.delivered_printing hq more (state.trans printing)
      (State.examine_delivered_rests busy bound (state.trans printing) cursor hnow ends) (by simpa using hq))
  · exact outcome _ (Settles.delivered_printing hq more (state.trans printing)
      (State.examine_delivered_starts busy bound (state.trans printing) cursor hnow h) (by simpa using hq))
  · exact outcome _ (Settles.delivered_printing hq more (state.trans printing)
      (State.examine_delivered_missing busy bound (state.trans printing) cursor sheets starve hnow hn whole loaded missing)
      (by simpa using hq))
  · refine outcome _ (Settles.delivered_printing hq more (state.trans printing)
      ((State.examine_delivered_unloaded busy bound (state.trans printing) cursor sheets starve hn whole unloaded).trans ?_)
      ?_)
    · rcases hnow with rfl | rfl
      · simp only [State.mediaWaitBegun, reduceCtorEq, if_false, if_true, State.setJob_raise, State.setJob_mark]
        rw [← State.modPress_setJob, State.setJob_delivered]
      · simp [State.mediaWaitBegun]
    · split <;> simpa using hq

end Sys2Proof.Machine
end

section
/-! SUPPORT. The last delivery of a binding: several pieces of work settled in turn (R16, R17, R19, R66, R71). -/

namespace Sys2Proof.Machine

/-! ## Several pieces of work -/

/-- A state with its work written. -/
def State.withAgenda (l : List Task) (s : State) : State := { s with agenda := l }

section Agenda

variable {s t : State} {l : List Task} {w : Task} {k : Nat}

@[simp] theorem State.withAgenda_push : (s.withAgenda l).push w = s.withAgenda (l ++ [w]) := rfl
@[simp] theorem State.withAgenda_twice (m : List Task) : (s.withAgenda l).withAgenda m = s.withAgenda m := rfl
@[simp] theorem State.press_withAgenda (q : PressNo) : (s.withAgenda l).press q = s.press q := rfl
@[simp] theorem State.job_withAgenda (e : Entry) : (s.withAgenda l).job e = s.job e := rfl

theorem State.withAgenda_quiet (hq : Quiet s) : s.withAgenda [] = s := by
  rw [← hq.1]
  rfl

theorem State.push_quiet (hq : Quiet s) : s.push w = s.withAgenda [w] := by
  rw [State.push, hq.1]
  rfl

/-- Wake demand asked for ahead of a decision is evaluated first (R75). -/
theorem Settles.demand_front (hd : s.demand = false) (hw : w.isDecision = true)
    (h : Settles k (s.withAgenda (w :: l)).evalDemand t) : Settles (k + 1) (s.withAgenda (w :: l)).wantDemand t := by
  intro n hn
  obtain ⟨m, rfl⟩ : ∃ m, n = m + 1 := ⟨n - 1, by omega⟩
  have off : ({ (s.withAgenda (w :: l)).wantDemand with demand := false } : State) = s.withAgenda (w :: l) := by
    rw [← hd]
    rfl
  rw [State.settleLoop_demand m (by simp [State.demandNext, State.wantDemand, State.withAgenda, hw]), off]
  exact h m (by omega)

/-- The first piece of work is done, and what it raises comes before the rest (R72). -/
theorem Settles.front (hd : s.demand = false) (h : Settles k (((s.withAgenda l).perform w).newFirst l.length) t) :
    Settles (k + 1) (s.withAgenda (w :: l)) t := by
  intro n hn
  obtain ⟨m, rfl⟩ : ∃ m, n = m + 1 := ⟨n - 1, by omega⟩
  rw [State.settleLoop_cons m (t := w) (rest := l) rfl (by simp [State.demandNext, State.withAgenda, hd])]
  exact h m (by omega)

/-- An examination is made ahead of the wake demand asked for with it (R75). -/
theorem Settles.examine_front {p : PressNo} (h : Settles k (((s.withAgenda l).wantDemand.examine p).newFirst l.length) t) :
    Settles (k + 1) (s.withAgenda (.examine p :: l)).wantDemand t := by
  intro n hn
  obtain ⟨m, rfl⟩ : ∃ m, n = m + 1 := ⟨n - 1, by omega⟩
  rw [State.settleLoop_cons m (t := .examine p) (rest := l) rfl (by
    simp [State.demandNext, State.withAgenda, State.wantDemand, Task.isDecision])]
  exact h m (by omega)

end Agenda

/-! ## A press released with nothing to do (R66, R73) -/

section Released

variable {s t : State} {p : PressNo}

theorem State.decideJob_ineligible {e : Entry} (h : s.eligible e = false) : s.decideJob e = s := by
  unfold State.decideJob
  split
  · rfl
  · rw [if_neg (by simp [h])]

/-- With no job eligible and nobody waiting on demand, decisions and examinations of presses with no job and no run settle
by being forgotten. -/
theorem State.settle_nothing (hn : s.agenda.length < 2046) (he : ∀ e, s.eligible e = false)
    (nobody : ∀ q, (s.press q).state ≠ .wakeWait .demand)
    (hx : ∀ q, Task.examine q ∈ s.agenda → s.boundJob q = none ∧ ∀ r n, (s.press q).state ≠ .calibrating r n) :
    s.settle = s.calm := by
  have eligible (rest : List Task) (d : Bool) (e : Entry) : ({ s with agenda := rest, demand := d } : State).eligible e =
      false := he e
  have offered (rest : List Task) (d : Bool) (e : Entry) : ({ s with agenda := rest, demand := d } : State).offered e =
      false := by
    rw [State.offered, eligible]
    rfl
  refine State.settle_idle hn (fun w hw rest d => ?_) fun rest => State.evalDemand_unoffered (offered rest false) nobody
  cases w with
  | decidePress q => exact State.decidePress_unoffered (offered rest d) q
  | decideJob e => exact State.decideJob_ineligible (eligible rest d e)
  | examine q => exact State.examine_unbound (s := { s with agenda := rest, demand := d }) (hx q hw).1 (hx q hw).2

/-- A BUSY press released at the end of its binding goes to IDLE, and that is all, with no job eligible and nobody waiting
on demand (R66, R73, R91). -/
theorem State.settle_released (jobs : ∀ w ∈ s.agenda, ∃ e, w = .decideJob e) (hn : s.agenda.length < 2000)
    (busy : (s.press p).state = .busy none) (cover : (s.press p).cover ≠ some true) (unbound : s.boundJob p = none)
    (he : ∀ e, s.eligible e = false) (nobody : ∀ q, (s.press q).state ≠ .wakeWait .demand)
    (ht : t = s.releasePress p ∨ t = (s.releasePress p).push (.examine p)) :
    t.settle = (s.calm.modPress p fun x => { x with state := .idle false 0 }).mark (.press p) := by
  have form : s.releasePress p = (((s.modPress p fun x => { x with state := .idle false 0 }).mark
      (.press p)).wantDemand).push (.decidePress p) := by
    rw [State.releasePress_idle busy cover unbound, State.putState_eq]
  have calm : t.calm = (s.calm.modPress p fun x => { x with state := .idle false 0 }).mark (.press p) := by
    rcases ht with rfl | rfl <;> simp [form]
  have agenda : t.agenda = s.agenda ++ [.decidePress p] ∨ t.agenda = s.agenda ++ [.decidePress p, .examine p] := by
    rcases ht with rfl | rfl <;> simp [form, State.push, State.wantDemand]
  have press (q : PressNo) : (t.press q).state = if p = q then .idle false 0 else (s.press q).state := by
    have same : (t.press q).state = ((s.modPress p fun x => { x with state := .idle false 0 }).press q).state := by
      rcases ht with rfl | rfl <;> simp [form]
    rw [same, State.press_modPress]
    split
    case isTrue h => subst h; rfl
    case isFalse => rfl
  have jobs_same : t.jobs = s.jobs := by rcases ht with rfl | rfl <;> simp [form, State.push, State.wantDemand]
  have spool_same : t.spool = s.spool := by rcases ht with rfl | rfl <;> simp [form, State.push, State.wantDemand]
  rw [State.settle_nothing ?_ ?_ ?_ ?_, calm]
  · rcases agenda with h | h <;> rw [h] <;> simp <;> omega
  · intro e
    rw [State.eligible_congr jobs_same spool_same]
    exact he e
  · intro q
    rw [press]
    split
    · simp
    · exact nobody q
  · intro q hq
    have examined : q = p := by
      have not_job : Task.examine q ∉ s.agenda := fun mem => by
        obtain ⟨e, h⟩ := jobs _ mem
        cases h
      rcases agenda with h | h
      · exact absurd hq (by simp [h, not_job])
      · simpa [h, not_job] using hq
    subst examined
    refine ⟨by rw [State.boundJob_congr jobs_same]; exact unbound, fun r n => ?_⟩
    rw [press, if_pos rfl]
    simp

/-- A binding that ends with the one live job not eligible: the press goes to IDLE behind it (R19, R73; log entry 47). -/
theorem State.settle_unbound {x : State} {e : Entry} {k : Job} (hq : Quiet x) (busy : (x.press p).state = .busy none)
    (cover : (x.press p).cover ≠ some true) (lone : ∀ d, d ≠ e → x.job d = none) (live : x.job e = some k)
    (unbound : k.state.bound = none) (ineligible : x.eligible e = false)
    (nobody : ∀ q, (x.press q).state ≠ .wakeWait .demand) (hs : s = x.wantDemand ∨ s = x.wantDemand.push (.decideJob e))
    (ht : t = s.releasePress p ∨ t = (s.releasePress p).push (.examine p)) :
    t.settle = (x.modPress p fun y => { y with state := .idle false 0 }).mark (.press p) := by
  have calm : s.calm = x := by rcases hs with rfl | rfl <;> simpa using State.calm_quiet hq
  have jobs : s.jobs = x.jobs := by rcases hs with rfl | rfl <;> rfl
  have spool : s.spool = x.spool := by rcases hs with rfl | rfl <;> rfl
  have press (q : PressNo) : s.press q = x.press q := by rcases hs with rfl | rfl <;> rfl
  have agenda : s.agenda = [] ∨ s.agenda = [.decideJob e] := by
    rcases hs with rfl | rfl
    · exact .inl hq.1
    · exact .inr (by simp [State.push, State.wantDemand, hq.1])
  have settled := State.settle_released (s := s) (t := t) (p := p) ?_ ?_ (by rw [press]; exact busy)
    (by rw [press]; exact cover) ?_ ?_ (fun q => by rw [press]; exact nobody q) ht
  · rw [settled, calm]
  · intro w hw
    rcases agenda with h | h
    · rw [h] at hw
      cases hw
    · exact ⟨e, by simpa [h] using hw⟩
  · rcases agenda with h | h <;> simp [h]
  · rw [State.boundJob_congr jobs]
    exact State.boundJob_alone lone (fun i hi => by rw [Option.some.inj (hi.symm.trans live)]; exact unbound) p
  · intro d
    rw [State.eligible_congr jobs spool]
    by_cases hd : d = e
    · rw [hd]
      exact ineligible
    · exact State.eligible_not_queued fun i hi => by simp [lone d hd] at hi

end Released

/-! ## The end of a binding, by its outcome (R16, R17, R19) -/

section Ends

variable {s : State} {d : Delivery} {i : Job} (hq : Quiet s) (busy : (s.press d.press).state = .busy none)
  (rest : d.rest = []) (cover : (s.press d.press).cover ≠ some true) (lone : ∀ q, q ≠ d.entry → s.job q = none)
  (nobody : ∀ q, (s.press q).state ≠ .wakeWait .demand)

theorem State.afterDelivery_drained {target : DrainTarget} (rest : d.rest = []) (more : i.delivered ≠ i.total)
    (draining : i.state = .draining d.press target) : (s.delivered d i).afterDelivery d.press d.entry =
      (((s.delivered d i).takeTarget d.entry target).releasePress d.press).push (.examine d.press) := by
  have empty : ((s.delivered d i).press d.press).path.isEmpty = true := by simp [rest]
  rw [State.afterDelivery_more State.job_delivered more]
  simp only [State.endDrainIfEmpty, State.job_delivered, draining, empty, decide_true, Bool.and_self, if_true]

include lone in
theorem State.delivered_lone (q : Entry) (h : q ≠ d.entry) : (s.delivered d i).job q = none := by
  simp [State.delivered, State.job_setJob, Ne.symm h, lone q h]

theorem State.delivered_state (q : PressNo) : ((s.delivered d i).press q).state = (s.press q).state := by
  simp only [State.delivered, State.press_mark, State.press_modRec, State.press_modMeter, State.press_modAccount,
    State.press_setJob, State.press_modPress, State.press_setSpool]
  split
  case isTrue h => rw [h]
  case isFalse => rfl

include nobody in
theorem State.delivered_nobody (q : PressNo) : ((s.delivered d i).press q).state ≠ .wakeWait .demand := by
  rw [State.delivered_state]
  exact nobody q

include hq busy cover lone nobody

/-- A job that is finished as its binding ends (R16, R19, R21). -/
theorem State.settle_finished (drains : i.state ≠ .creditWait) (o : JobOutcome) {t : State}
    (ht : t = ((s.delivered d i).finishJob d.entry o).releasePress d.press ∨
      t = (((s.delivered d i).finishJob d.entry o).releasePress d.press).push (.examine d.press)) :
    t.settle = (((s.delivered d i).ended d.entry i o).modPress d.press fun x => { x with state := .idle false 0 }).mark
      (.press d.press) := by
  have lone' := State.delivered_lone (i := i) lone
  have none_waits : (s.delivered d i).waiting i.account = [] := State.waiting_alone lone' (fun k hk => by
    rw [← Option.some.inj (State.job_delivered.symm.trans hk)]; exact drains) _
  have ended := State.finishJob_nobody (State.job_delivered (s := s) (d := d) (i := i)) (.inr none_waits) o
  have live : ((s.delivered d i).ended d.entry i o).job d.entry =
      some { i with state := .finished o, hold := none, starve := none } := by simp [State.ended]
  have lone'' : ∀ q, q ≠ d.entry → ((s.delivered d i).ended d.entry i o).job q = none := fun q h => by
    simp [State.ended, State.job_setJob, Ne.symm h, lone' q h]
  refine State.settle_unbound (s := ((s.delivered d i).ended d.entry i o).wantDemand) (k := _) ?_ ?_ ?_ lone'' live rfl ?_ ?_
    (.inl rfl) (by rw [ended] at ht; exact ht)
  · simpa [State.ended] using hq
  · simpa [State.ended] using busy
  · simpa [State.ended] using cover
  · exact State.eligible_not_queued fun k hk n => by
      rw [← Option.some.inj (live.symm.trans hk)]; simp
  · intro q
    have same : ((s.delivered d i).ended d.entry i o).press q = (s.delivered d i).press q := by simp [State.ended]
    rw [same]
    exact State.delivered_nobody nobody q

/-- A job taken to a state that is neither bound nor QUEUED as its drain ends (R19). -/
theorem State.settle_moved {st : JobState} (unbound : st.bound = none) (unqueued : ∀ n, st ≠ .queued n) {t : State}
    (ht : t = (((s.delivered d i).moveJob d.entry st).releasePress d.press).push (.examine d.press)) :
    t.settle = ((s.delivered d { i with state := st, starve := none }).modPress d.press fun x =>
      { x with state := .idle false 0 }).mark (.press d.press) := by
  have moved : (s.delivered d i).moveJob d.entry st = (s.delivered d { i with state := st, starve := none }).wantDemand := by
    rw [State.moveJob_live State.job_delivered, State.setJob_delivered]
    simp [State.delivered]
  refine State.settle_unbound (x := s.delivered d { i with state := st, starve := none }) ?_ ?_ ?_
    (State.delivered_lone lone) State.job_delivered unbound ?_ (State.delivered_nobody nobody) (.inl rfl)
    (.inr (by rw [ht, moved]))
  · simpa using hq
  · simpa using busy
  · simpa using cover
  · exact State.eligible_not_queued fun k hk n => by
      rw [← Option.some.inj (State.job_delivered.symm.trans hk)]; exact unqueued n

end Ends

end Sys2Proof.Machine
end

section
/-! SUPPORT. A job that is bound again to the press its drain ended on (R17, R66, R71). -/

namespace Sys2Proof.Machine

section Rebound

variable {s : State} {p : PressNo} {e : Entry} {k : Job}

/-- A job on whose press no sheet starts, its starve timer stopped, is examined without effect (R46). -/
theorem State.examine_rests (busy : (s.press p).state = .busy none) (bound : s.boundJob p = some e)
    (live : s.job e = some k) (printing : k.state = .printing p) (starve : k.starve = none) (ready : SheetReady s p e k)
    (rests : NoStart s p) : s.examine p = s := by
  rw [State.examine_noStart busy bound live printing ready rests, State.mediaWaitEnded_none, ← starve]
  exact State.setJob_same live

/-- A binding leaves nothing to be examined where the press has no credit. -/
theorem State.examine_boundTo (l : List Task) (credits : (s.press p).credits = 0)
    (unbound : ∀ d i, s.job d = some i → i.state.bound ≠ some p) (sheet : SheetReady s p e k) :
    ((s.boundTo p e k).withAgenda l).wantDemand.examine p = ((s.boundTo p e k).withAgenda l).wantDemand := by
  have bound : ((s.boundTo p e k).withAgenda l).wantDemand.boundJob p = some e := by
    rw [State.boundJob_congr (s := s.setJob e (some { k with state := .printing p, starve := none })) (by rfl)]
    exact State.boundJob_setJob_new unbound rfl
  have ready : SheetReady ((s.boundTo p e k).withAgenda l).wantDemand p e { k with state := .printing p, starve := none } := by
    refine SheetReady.of_same (t := ((s.boundTo p e k).withAgenda l).wantDemand) sheet rfl rfl ?_ ?_
    · have kept : ((s.boundTo p e k).withAgenda l).wantDemand.spool = (s.boundTo p e k).spool := rfl
      rw [kept]
      simp [State.boundTo]
    · have kept : ((s.boundTo p e k).withAgenda l).wantDemand.pressRec p = (s.boundTo p e k).pressRec p := rfl
      rw [kept]
      simp [State.boundTo]
  refine State.examine_rests (e := e) (k := { k with state := .printing p, starve := none }) ?_ bound ?_ rfl rfl ready
    (.inl ?_)
  · simp [State.boundTo]
  · simp [State.boundTo]
  · simp [State.boundTo, credits]

theorem State.newFirst_raised (l m : List Task) {r : List Task} (h : r = l ++ m) :
    (s.withAgenda r).wantDemand.newFirst l.length = (s.withAgenda (m ++ l)).wantDemand := by
  subst h
  simp [State.newFirst, State.withAgenda, State.wantDemand]

theorem State.newFirst_kept (l : List Task) :
    (s.withAgenda l).wantDemand.newFirst l.length = (s.withAgenda l).wantDemand :=
  State.newFirst_raised l [] (List.append_nil l).symm

/-- The one live job, eligible and of the press's target, which it fits, is the press's candidate (R65). -/
theorem State.bestCandidate_alone (lone : ∀ d, d ≠ e → s.job d = none) (live : s.job e = some k)
    (eligible : s.eligible e = true) (isOf : s.isOf k.target p = true) (fits : s.fits p k = true) :
    (s.withAgenda [.examine p]).bestCandidate p = some e := by
  have offered (d : Entry) : (s.withAgenda [.examine p]).offered d = s.eligible d := by
    have same : (s.withAgenda [.examine p]).offered d =
        (s.eligible d && !([Task.examine p] : List Task).contains (.decideJob d)) := rfl
    rw [same]
    simp
  have mem (d : Entry) : d ∈ (s.withAgenda [.examine p]).candidates p ↔ s.eligible d = true ∧
      (s.job d).any (fun j => s.isOf j.target p && s.fits p j) = true := by
    have asked : (s.withAgenda [.examine p]).isCandidate p d =
        (s.eligible d && (s.job d).any fun j => s.isOf j.target p && s.fits p j) := by
      rw [State.isCandidate, offered]
      rfl
    simp [State.candidates, allEntries, asked]
  have cand : e ∈ (s.withAgenda [.examine p]).candidates p := (mem e).mpr ⟨eligible, by simp [live, isOf, fits]⟩
  cases best : (s.withAgenda [.examine p]).bestCandidate p with
  | none =>
    rw [pickMax_eq_none best] at cand
    cases cand
  | some d =>
    by_contra other
    have free := lone d fun same => other (by rw [same])
    simpa [free] using ((mem d).mp (pickMax_eq_some best).1).2

/-- The decisions of the one live job and of its press, the one press IDLE, bind them again (R66, R67, R71, R73). -/
theorem Settles.rebound (hq : Quiet s) (aw : Awake s) (lone : ∀ d, d ≠ e → s.job d = none) (live : s.job e = some k)
    (eligible : s.eligible e = true) (unbound : k.state.bound = none) (idle : (s.press p).state.isIdle = true)
    (only : ∀ q, q ≠ p → (s.press q).state.isIdle = false) (cover : (s.press p).cover ≠ some true)
    (credits : (s.press p).credits = 0) (isOf : s.isOf k.target p = true) (fits : s.fits p k = true) (undue : ¬ Due s p)
    (sheet : SheetReady s p e k) :
    Settles 8 (s.withAgenda [.decideJob e, .decidePress p, .examine p]).wantDemand (s.boundTo p e k) := by
  have nobody_bound : ∀ d i, s.job d = some i → i.state.bound ≠ some p := fun d i hi => by
    by_cases hd : d = e
    · subst hd
      rw [← Option.some.inj (live.symm.trans hi), unbound]
      simp
    · simp [lone d hd] at hi
  have rests : ∀ l : List Task, (s.withAgenda l).evalDemand = s.withAgenda l := fun l =>
    State.evalDemand_awake (aw.of_press fun q => rfl)
  have awake : Awake (s.boundTo p e k) :=
    (aw.modPress p (f := fun x =>
      { x with
        state := .busy none, heldPool := none
        fair := if s.ret.schedule.mode = .fair then k.account else x.fair }) (by simp)).of_press fun q => by
      simp [State.boundTo]
  have quiet : Quiet (s.boundTo p e k) := hq
  have job_decided : (s.withAgenda [.decidePress p, .examine p]).perform (.decideJob e) =
      (s.withAgenda [.decidePress p, .examine p]).wantDemand := by
    have none_free : (s.withAgenda [.decidePress p, .examine p]).idleFitting k = [] := by
      refine List.filter_eq_nil_iff.mpr fun q _ => ?_
      by_cases hp : q = p
      · subst hp
        simp [State.withAgenda]
      · simp [only q hp]
    have live' : (s.withAgenda [.decidePress p, .examine p]).job e = some k := live
    have eligible' : (s.withAgenda [.decidePress p, .examine p]).eligible e = true := eligible
    simp [State.perform, State.decideJob, live', eligible', none_free]
  have press_decided : (s.withAgenda [.examine p]).perform (.decidePress p) =
      ((s.boundTo p e k).withAgenda [.examine p, .examine p]).wantDemand := by
    have best := State.bestCandidate_alone lone live eligible isOf fits
    rw [State.perform, State.decidePress_bind (s := s.withAgenda [.examine p]) idle best undue,
      State.bind_eq (s := s.withAgenda [.examine p]) live idle cover]
    rfl
  refine Settles.demand_front (s := s) (k := 7) (l := [.decidePress p, .examine p]) hq.2 rfl ?_
  rw [rests]
  refine Settles.front (s := s) (k := 6) (l := [.decidePress p, .examine p]) hq.2 ?_
  rw [job_decided, State.newFirst_kept]
  refine Settles.demand_front (s := s) (k := 5) (l := [.examine p]) hq.2 rfl ?_
  rw [rests]
  refine Settles.front (s := s) (k := 4) (l := [.examine p]) hq.2 ?_
  rw [press_decided, State.newFirst_raised (r := [.examine p, .examine p]) [.examine p] [.examine p] rfl]
  refine Settles.examine_front (k := 3) (s := s.boundTo p e k) (l := [.examine p]) ?_
  rw [State.examine_boundTo [.examine p] credits nobody_bound sheet, State.newFirst_kept]
  refine Settles.examine_front (k := 2) (s := s.boundTo p e k) (l := []) ?_
  rw [State.examine_boundTo [] credits nobody_bound sheet, State.newFirst_kept,
    State.withAgenda_quiet quiet]
  exact Settles.demand_awake quiet awake

end Rebound

end Sys2Proof.Machine
end

section
/-! SUPPORT. The outcomes of the delivery that ends a binding, by the job's state (R16, R17, R19). -/

namespace Sys2Proof.Machine

/-- A press gone to IDLE, its report pending (R101). -/
def State.idled (p : PressNo) (s : State) : State :=
  (s.modPress p fun x => { x with state := .idle false 0 }).mark (.press p)

/-- A BUSY press that becomes IDLE and is bound again, its job's report pending all along, is BUSY as before (R71). -/
theorem State.boundTo_idled {x : State} {p : PressNo} {e : Entry} {k : Job} (pending : Report.job e ∈ x.reports)
    (busy : (x.press p).state = .busy none) : (x.idled p).boundTo p e k =
      ((x.setJob e (some { k with state := .printing p, starve := none })).modPress p fun y => { y with
        heldPool := none, fair := if x.ret.schedule.mode = .fair then k.account else y.fair }).mark (.press p) := by
  have rejoined : x.modPress p (fun y => { y with
      state := .busy none, heldPool := none, fair := if x.ret.schedule.mode = .fair then k.account else y.fair }) =
      x.modPress p fun y => { y with
        heldPool := none, fair := if x.ret.schedule.mode = .fair then k.account else y.fair } :=
    State.modPress_congr (by rw [← busy])
  have schedule : (x.idled p).ret.schedule = x.ret.schedule := by simp [State.idled]
  rw [State.boundTo, schedule]
  simp [State.idled, rejoined]
  refine State.mark_of_pending (Report.plain_job _) (State.pending_mark (Report.plain_job _) _ ?_)
  exact pending

/-- A job STARVED at the end of its drain (R17). -/
def State.starvedAfter (d : Delivery) (i : Job) (s : State) : State :=
  (s.delivered d { i with state := .starved, starve := none }).raise .jobStarved (.job i.serial) none

/-- A job QUEUED again as its drain ends, no page of its next sheet missing (R17). -/
def State.requeued (d : Delivery) (i : Job) (s : State) : State :=
  (((s.starvedAfter d i).setJob d.entry (some { i with state := .queued s.time, starve := none })).mark
    (.job d.entry)).endCondition .jobStarved (.job i.serial)

section Last

variable {s : State} {d : Delivery} {i : Job}

/-- What a delivery leaves that ends its job: what is left of the hold released, the job's pages freed (R16, R21). -/
theorem State.ended_delivered {h : Nat} (hold : i.hold = some h) (account : i.account = d.account) (o : JobOutcome) :
    (s.delivered d i).ended d.entry i o =
      ((((((s.setSpool (d.spool.freeJob d.entry)).modPress d.press fun x => { x with heartbeat := 0, path := d.rest }).setJob
        d.entry (some { i with state := .finished o, hold := none, starve := none })).modAccount d.account fun a =>
          { a.charge d.account d.charge with holdTotal := (a.charge d.account d.charge).holdTotal - h }).modMeter d.press
        d.head.media (Meter.countSheet d.sheet.band d.head.sides)).modRec d.press PressRec.countSheet).mark (.job d.entry) := by
  rw [State.ended, State.holdReleased, hold, account]
  simp [State.delivered]

/-- Taking the drain target STARVED: the job stays there, or goes on to QUEUED and to its decision (R17). -/
theorem State.takeTarget_starved : (s.delivered d i).takeTarget d.entry .starved =
    if (s.starvedAfter d i).cursorReady d.entry = true then (s.requeued d i).wantDemand.push (.decideJob d.entry)
    else (s.starvedAfter d i).wantDemand := by
  have starved : (s.delivered d i).starvedNow d.entry i = s.starvedAfter d i := by
    simp only [State.starvedNow, State.starvedAfter, State.setJob_delivered]
    simp [State.delivered]
  have moved : ((s.delivered d i).moveJob d.entry .starved).raise .jobStarved (.job i.serial) none =
      ((s.delivered d i).starvedNow d.entry i).wantDemand := by
    rw [State.moveJob_live State.job_delivered, State.raise_wantDemand, State.starvedNow]
  have time : (s.starvedAfter d i).time = s.time := by simp [State.starvedAfter, State.delivered]
  unfold State.takeTarget
  rw [State.job_delivered]
  dsimp only
  rw [moved, State.starvedNow_left, starved, time]
  rfl

theorem State.job_starvedAfter : (s.starvedAfter d i).job d.entry = some { i with state := .starved, starve := none } := by
  simp [State.starvedAfter]

theorem State.job_requeued : (s.requeued d i).job d.entry = some { i with state := .queued s.time, starve := none } := by
  simp [State.requeued]

theorem State.press_requeued (q : PressNo) : (s.requeued d i).press q = (s.delivered d i).press q := by
  simp [State.requeued, State.starvedAfter, State.delivered]

theorem State.press_starvedAfter (q : PressNo) : (s.starvedAfter d i).press q = (s.delivered d i).press q := by
  simp [State.starvedAfter, State.delivered]

theorem State.requeued_spool : (s.requeued d i).spool = d.spool := by simp [State.requeued, State.starvedAfter]

theorem State.pressRec_requeued : (s.requeued d i).pressRec d.press = (s.pressRec d.press).countSheet := by
  simp [State.requeued, State.starvedAfter, State.delivered]

theorem State.requeued_schedule : (s.requeued d i).ret.schedule = s.ret.schedule := by
  simp [State.requeued, State.starvedAfter]

theorem quiet_requeued : Quiet (s.requeued d i) ↔ Quiet s := by simp [State.requeued, State.starvedAfter]

/-- Whether every page of the sheet at a STARVED job's cursor is COMPLETE, as the delivery has left the spool (R17). -/
theorem State.cursorReady_starvedAfter {c : Commit} (hc : i.commit = some c) :
    (s.starvedAfter d i).cursorReady d.entry = true ↔ ∃ n sh, c.cursor = some n ∧ i.sheetOf n = some sh ∧
      ∀ k ∈ sh.pages, (s.setSpool d.spool).pageIs d.entry .complete k = true := by
  have spool : (s.starvedAfter d i).spool = (s.setSpool d.spool).spool := by simp [State.starvedAfter]
  rw [State.cursorReady_iff State.job_starvedAfter]
  simp only [State.sheetReady_iff, State.pageIs_congr spool, Job.cursorSheet_iff, hc, Option.some.injEq, exists_eq_left']
  exact ⟨fun ⟨n, sh, ⟨hn, hsh⟩, complete⟩ => ⟨n, sh, hn, hsh, complete⟩,
    fun ⟨n, sh, hn, hsh, complete⟩ => ⟨n, sh, ⟨hn, hsh⟩, complete⟩⟩

theorem PressRec.countSheet_pool (r : PressRec) : r.countSheet.pool = r.pool := by
  unfold PressRec.countSheet PressRec.testShort
  split <;> rfl

theorem PressRec.countSheet_longDue (r : PressRec) : r.countSheet.longDue = r.longDue := by
  unfold PressRec.countSheet PressRec.testShort
  split <;> rfl

variable (hq : Quiet s) (busy : (s.press d.press).state = .busy none)
  (rest : d.rest = []) (cover : (s.press d.press).cover ≠ some true) (lone : ∀ q, q ≠ d.entry → s.job q = none)
  (nobody : ∀ q, (s.press q).state ≠ .wakeWait .demand)

include lone in
theorem State.requeued_lone (q : Entry) (h : q ≠ d.entry) : (s.requeued d i).job q = none := by
  simp [State.requeued, State.starvedAfter, State.delivered, State.job_setJob, Ne.symm h, lone q h]

include hq busy rest cover lone nobody

omit rest in
/-- The delivery of a job's last sheet (R16, R19). -/
theorem State.settle_completed (last : i.delivered = i.total) (hb : i.state.bound = some d.press) :
    ((s.delivered d i).afterDelivery d.press d.entry).settle =
      ((s.delivered d i).ended d.entry i .completed).idled d.press := by
  refine State.settle_finished hq busy cover lone nobody (fun wait => ?_) .completed
    (.inl (State.afterDelivery_last State.job_delivered last))
  rw [wait] at hb
  cases hb

/-- A drain that ends with the job cancelled (R19, R20). -/
theorem State.settle_cancelled (more : i.delivered ≠ i.total) (draining : i.state = .draining d.press .cancelled) :
    ((s.delivered d i).afterDelivery d.press d.entry).settle =
      ((s.delivered d i).ended d.entry i .cancelled).idled d.press := by
  refine State.settle_finished hq busy cover lone nobody (by simp [draining]) .cancelled (.inr ?_)
  rw [State.afterDelivery_drained rest more draining, State.takeTarget, State.job_delivered]

/-- A drain that ends with the job HELD or in FAULT (R18, R19). -/
theorem State.settle_stays {target : DrainTarget} {st : JobState} (more : i.delivered ≠ i.total)
    (draining : i.state = .draining d.press target)
    (goes : (target = .held ∧ st = .held) ∨ (target = .fault ∧ st = .fault)) :
    ((s.delivered d i).afterDelivery d.press d.entry).settle =
      (s.delivered d { i with state := st, starve := none }).idled d.press := by
  have moved : (s.delivered d i).takeTarget d.entry target = (s.delivered d i).moveJob d.entry st := by
    rw [State.takeTarget, State.job_delivered]
    rcases goes with ⟨rfl, rfl⟩ | ⟨rfl, rfl⟩ <;> rfl
  have unbound : st.bound = none := by rcases goes with ⟨-, rfl⟩ | ⟨-, rfl⟩ <;> rfl
  have unqueued : ∀ n, st ≠ .queued n := by rcases goes with ⟨-, rfl⟩ | ⟨-, rfl⟩ <;> simp
  exact State.settle_moved hq busy cover lone nobody unbound unqueued (by
    rw [State.afterDelivery_drained rest more draining, moved])

/-- A drain that ends STARVED with a page missing (R17). -/
theorem State.settle_starved (more : i.delivered ≠ i.total) (draining : i.state = .draining d.press .starved)
    (waits : (s.starvedAfter d i).cursorReady d.entry = false) :
    ((s.delivered d i).afterDelivery d.press d.entry).settle = (s.starvedAfter d i).idled d.press := by
  refine State.settle_unbound (x := s.starvedAfter d i) (s := (s.starvedAfter d i).wantDemand) ?_ ?_ ?_ (fun q h => ?_)
    State.job_starvedAfter rfl ?_ (fun q => ?_) (.inl rfl) (.inr ?_)
  · simpa [State.starvedAfter] using hq
  · simpa [State.press_starvedAfter] using busy
  · simpa [State.press_starvedAfter] using cover
  · simpa [State.starvedAfter] using State.delivered_lone lone q h
  · exact State.eligible_not_queued fun k hk n => by
      rw [← Option.some.inj (State.job_starvedAfter.symm.trans hk)]
      simp
  · rw [State.press_starvedAfter]
    exact State.delivered_nobody nobody q
  · rw [State.afterDelivery_drained rest more draining, State.takeTarget_starved, if_neg (by simp [waits])]

/-- A drain that ends STARVED with no page missing, the job not eligible (R15, R17). -/
theorem State.settle_requeued (more : i.delivered ≠ i.total) (draining : i.state = .draining d.press .starved)
    (ready : (s.starvedAfter d i).cursorReady d.entry = true) (copies : i.copies ≠ 1) (pages : i.received ≠ i.pageCount) :
    ((s.delivered d i).afterDelivery d.press d.entry).settle = (s.requeued d i).idled d.press := by
  refine State.settle_unbound (x := s.requeued d i) (s := (s.requeued d i).wantDemand.push (.decideJob d.entry)) ?_ ?_ ?_
    (State.requeued_lone lone) State.job_requeued rfl ?_ (fun q => ?_) (.inr rfl) (.inr ?_)
  · exact quiet_requeued.mpr hq
  · simpa [State.press_requeued] using busy
  · simpa [State.press_requeued] using cover
  · rw [Bool.eq_false_iff, Ne, State.eligible_iff State.job_requeued]
    simp only [copies, if_false]
    exact fun h => pages h.2
  · rw [State.press_requeued]
    exact State.delivered_nobody nobody q
  · rw [State.afterDelivery_drained rest more draining, State.takeTarget_starved, if_pos ready]

omit nobody in
/-- A drain that ends STARVED with no page missing, the job eligible: it is bound to the press again (R17, R66, R71). -/
theorem State.settle_rebound (more : i.delivered ≠ i.total) (draining : i.state = .draining d.press .starved)
    (ready : (s.starvedAfter d i).cursorReady d.entry = true) (awake : Awake s)
    (none_idle : ∀ q, (s.press q).state.isIdle = false) (all : i.copies = 1 ∨ i.received = i.pageCount)
    (target : i.target = .press d.press ∨ ∃ k, i.target = .pool k ∧ (s.pressRec d.press).pool = some k)
    (fits : s.fits d.press i = true) (long : (s.pressRec d.press).longDue = false)
    (short : (s.pressRec d.press).countSheet.shortDue = false)
    (loaded : ∀ n sh, i.cursorSheet = some (n, sh) → s.loaded d.press sh.media = true)
    (credits : (s.press d.press).credits = 0) :
    ((s.delivered d i).afterDelivery d.press d.entry).settle =
      (((s.requeued d i).setJob d.entry (some { i with state := .printing d.press, starve := none })).modPress d.press
        fun x => { x with
          heldPool := none, fair := if s.ret.schedule.mode = .fair then i.account else x.fair }).mark (.press d.press) := by
  have quiet : Quiet ((s.requeued d i).idled d.press) := by
    simpa [State.idled] using quiet_requeued.mpr hq
  have press : (s.requeued d i).press d.press = { s.press d.press with heartbeat := 0, path := d.rest } := by
    rw [State.press_requeued, State.press_delivered]
  have pending : Report.job d.entry ∈ (s.requeued d i).reports :=
    State.pending_endCondition (Report.plain_job _) _ _ (State.pending_mark_self _ _)
  have state (q : PressNo) : ((s.requeued d i).press q).state = (s.press q).state := by
    rw [State.press_requeued, State.delivered_state]
  have unbound : (s.requeued d i).boundJob d.press = none := State.boundJob_alone (State.requeued_lone lone)
    (fun k hk => by rw [← Option.some.inj (State.job_requeued.symm.trans hk)]; rfl) _
  have raised : (s.delivered d i).afterDelivery d.press d.entry = (((s.requeued d i).idled d.press).withAgenda
      [.decideJob d.entry, .decidePress d.press, .examine d.press]).wantDemand := by
    have released : ((s.requeued d i).wantDemand.push (.decideJob d.entry)).releasePress d.press =
        (((s.requeued d i).idled d.press).wantDemand.push (.decideJob d.entry)).push (.decidePress d.press) := by
      rw [State.releasePress_idle (by simpa [press] using busy) (by simpa [press] using cover) (by simpa using unbound),
        State.putState_eq]
      simp [State.idled]
    rw [State.afterDelivery_drained rest more draining, State.takeTarget_starved, if_pos ready, released,
      ← State.wantDemand_push, ← State.wantDemand_push, ← State.wantDemand_push, State.push_quiet quiet,
      State.withAgenda_push, State.withAgenda_push]
    rfl
  have idled_press : ((s.requeued d i).idled d.press).press d.press =
      { s.press d.press with heartbeat := 0, path := d.rest, state := .idle false 0 } := by
    simp [State.idled, press]
  have idled_other (q : PressNo) (h : q ≠ d.press) : ((s.requeued d i).idled d.press).press q = (s.requeued d i).press q := by
    simp [State.idled, State.press_modPress, Ne.symm h]
  have record : ((s.requeued d i).idled d.press).pressRec d.press = (s.pressRec d.press).countSheet := by
    rw [← State.pressRec_requeued (i := i)]
    simp [State.idled]
  have awake' : Awake ((s.requeued d i).idled d.press) := fun q => by
    by_cases h : q = d.press
    · rw [h, idled_press]
      simp
    · rw [idled_other q h, state]
      exact awake q
  have live : ((s.requeued d i).idled d.press).job d.entry = some { i with state := .queued s.time, starve := none } := by
    simp [State.idled, State.job_requeued]
  have lone' : ∀ q, q ≠ d.entry → ((s.requeued d i).idled d.press).job q = none := fun q h => by
    simpa [State.idled] using State.requeued_lone lone q h
  have spool : ((s.requeued d i).idled d.press).spool = (s.starvedAfter d i).spool := by
    simp [State.idled, State.requeued_spool, State.starvedAfter]
  obtain ⟨n, sh, hn, complete⟩ := (State.cursorReady_iff State.job_starvedAfter).mp ready
  have hn' : i.cursorSheet = some (n, sh) := hn
  have eligible : ((s.requeued d i).idled d.press).eligible d.entry = true := by
    refine (State.eligible_iff live).mpr ⟨⟨s.time, rfl⟩, ?_⟩
    split
    case isTrue => exact (State.cursorReady_iff live).mpr ⟨n, sh, hn, by rwa [State.sheetReady_congr spool]⟩
    case isFalse copies => exact all.resolve_left copies
  have isOf : ((s.requeued d i).idled d.press).isOf i.target d.press = true := by
    have pool : ((s.requeued d i).idled d.press).poolInForce d.press = (s.pressRec d.press).pool := by
      rw [State.poolInForce_eq (.inl (by simpa [State.idled] using unbound)), record, PressRec.countSheet_pool]
    rw [State.isOf_iff, pool]
    exact target
  have fits' : ((s.requeued d i).idled d.press).fits d.press { i with state := .queued s.time, starve := none } = true := by
    simpa only [State.fits, record, PressRec.countSheet_caps] using fits
  have undue : ¬ Due ((s.requeued d i).idled d.press) d.press := by
    simp [Due, record, short, PressRec.countSheet_longDue, long]
  have sheet : SheetReady ((s.requeued d i).idled d.press) d.press d.entry { i with state := .queued s.time, starve := none } := by
    obtain ⟨c, hc, hcn, hsh⟩ := Job.cursorSheet_iff.mp hn'
    refine ⟨c, n, sh, hc, hcn, hsh, ?_, ?_⟩
    · have kept := loaded n sh hn'
      simpa only [State.loaded, record, PressRec.countSheet_caps] using kept
    · rw [State.pageIs_congr spool]
      exact State.sheetReady_iff.mp complete
  rw [raised, (Settles.rebound quiet awake' lone' live eligible rfl (by rw [idled_press]; rfl)
    (fun q h => by rw [idled_other q h, state]; exact none_idle q) (by rw [idled_press]; exact cover)
    (by rw [idled_press]; exact credits) isOf fits' undue sheet).settle (by decide)]
  rw [State.boundTo_idled (k := { i with state := .queued s.time, starve := none }) pending (by rw [press]; exact busy),
    State.requeued_schedule]

end Last

end Sys2Proof.Machine
end

section
/-! PROOF. DELIVERED (R16, R17, R19, R46, R50, R51, R54, R55, R61). -/

namespace Sys2Proof.Machine

/-! ## The figures of a delivery (R54, R111, R129, R145) -/

theorem PressRec.testShort_eq (r : PressRec) : r.testShort =
    { r with shortDue := r.shortDue || (r.shortInterval != 0 && decide (r.shortInterval ≤ r.sheetCount)) } := by
  unfold PressRec.testShort
  split
  case isTrue due => rw [due, Bool.or_true]
  case isFalse early =>
    rw [Bool.not_eq_true] at early
    rw [early, Bool.or_false]

theorem PressRec.countSheet_eq (r : PressRec) : r.countSheet =
    let n := min (r.sheetCount + 1) 4294967295
    { r with sheetCount := n, shortDue := r.shortDue || (r.shortInterval != 0 && decide (r.shortInterval ≤ n)) } :=
  PressRec.testShort_eq _

/-- Settles O46. -/
theorem sheetDelivered : Obligations.SheetDelivered := by
  intro s p q head rest linked path seq picked
  subst seq
  have run : exec (.delivered p head.seq) s = .next ((s.heard p).onDelivered p head.seq).settle :=
    exec_linked linked (f := .delivered head.seq) rfl
  refine ⟨?_, fun cal timer service hst done => ?_⟩
  · intro e n j c sh now hjob bound live busy hc hsh charge charged paid tallied spool moved
    have advanced (st : Option Starve) : { moved with starve := st } = { j.advanced charge with starve := st } := by
      simp [moved, Job.advanced, Job.charge, hc]
    have released : (s.delivery p head rest e n j c sh).spool = spool := by
      simp only [State.delivery, Job.lastCarrier, Job.copyOf, beq_iff_eq, spool]
    have counts : PressRec.countSheet = fun r =>
        let n := min (r.sheetCount + 1) 4294967295
        { r with sheetCount := n, shortDue := r.shortDue || (r.shortInterval != 0 && decide (r.shortInterval ≤ n)) } :=
      funext PressRec.countSheet_eq
    have figures (k : Job) : ({ tallied (paid 0 (charged k)) with spool := spool } : State).mark (.job e) =
        s.delivered (s.delivery p head rest e n j c sh) k := by
      rw [State.delivered, counts, released]
      rfl
    have outcome {t : State} {k : Nat} (hk : k ≤ 2048) (h : Settles k ((s.delivered (s.delivery p head rest e n j c sh)
        (j.advanced charge)).afterDelivery p e) t) : exec (.delivered p head.seq) s = .next t := by
      refine run.trans (congrArg Host.Outcome.next ?_)
      rw [State.onDelivered_job path picked hjob live hc hsh]
      exact h.settle hk
    have told (st : Option Starve) : s.delivered (s.delivery p head rest e n j c sh) { j.advanced charge with starve := st } =
        ({ tallied (paid 0 (charged { moved with starve := st })) with spool := spool } : State).mark (.job e) := by
      rw [advanced, figures]
    have cursor : (j.advanced charge).cursorSheet = j.cursorSheet := by
      simp [Job.cursorSheet, Job.advanced, Job.charge, hc]
      rfl
    refine ⟨?_, ?_⟩
    · intro more u counted goes
      have freed : u = s.freed (s.delivery p head rest e n j c sh) := by
        rw [State.freed, released]
        rfl
      have count : counted = fun st => s.delivered (s.delivery p head rest e n j c sh) { j.advanced charge with starve := st } :=
        funext fun st => (told st).symm
      rw [count, freed]
      exact delivered_more_outcomes (d := s.delivery p head rest e n j c sh) (goes := goes) linked.quiet more busy bound rfl
        cursor rfl rfl hc fun t h => outcome (by decide) h
    · intro hold hnow hrest lone nobody cover hbound hhold idle finished stays
      subst hnow
      have hold_left : (j.advanced charge).hold = some (hold - charge) := by simp [Job.advanced, Job.charge, hhold]
      have kept (st : JobState) : { moved with state := st } = { j.advanced charge with state := st, starve := none } := by
        simp [moved, Job.advanced, Job.charge, hc]
      have stay (st : JobState) : stays st =
          s.delivered (s.delivery p head rest e n j c sh) { j.advanced charge with state := st, starve := none } := by
        rw [← kept, ← figures]
      have finish (o : JobOutcome) : { moved with state := .finished o, hold := none } =
          { j.advanced charge with state := .finished o, hold := none, starve := none } := by
        simp [moved, Job.advanced, Job.charge, hc]
      have settles {t : State} (h : ((s.delivered (s.delivery p head rest e n j c sh) (j.advanced charge)).afterDelivery p
          e).settle = t) : exec (.delivered p head.seq) s = .next t := by
        refine run.trans (congrArg Host.Outcome.next ?_)
        rw [State.onDelivered_job path picked hjob live hc hsh]
        exact h
      have ends (o : JobOutcome) : idle (({ tallied (paid (hold - charge) (charged { moved with
          state := .finished o, hold := none })) with spool := spool.freeJob e } : State).mark (.job e)) =
          ((s.delivered (s.delivery p head rest e n j c sh) (j.advanced charge)).ended e (j.advanced charge) o).idled p := by
        have ended := State.ended_delivered (s := s) (d := s.delivery p head rest e n j c sh) hold_left rfl o
        rw [released, ← finish, counts] at ended
        exact (congrArg (State.idled p) ended).symm
      refine ⟨fun last => ?_, fun more => ⟨fun draining => ?_, fun draining => ?_, fun draining => ?_, fun draining => ?_⟩⟩
      · exact settles ((State.settle_completed (d := s.delivery p head rest e n j c sh) (i := j.advanced charge) linked.quiet busy cover lone nobody
          last hbound).trans (ends .completed).symm)
      · exact settles ((State.settle_cancelled (d := s.delivery p head rest e n j c sh) (i := j.advanced charge) linked.quiet busy hrest cover lone
          nobody more draining).trans (ends .cancelled).symm)
      · rw [stay]
        exact settles (State.settle_stays (d := s.delivery p head rest e n j c sh) (i := j.advanced charge) linked.quiet busy hrest cover lone
          nobody more draining (.inl ⟨rfl, rfl⟩))
      · rw [stay]
        exact settles (State.settle_stays (d := s.delivery p head rest e n j c sh) (i := j.advanced charge) linked.quiet busy hrest cover lone
          nobody more draining (.inr ⟨rfl, rfl⟩))
      · intro found starved
        have wait : starved = s.starvedAfter (s.delivery p head rest e n j c sh) (j.advanced charge) := by
          simp only [starved, stay]
          rfl
        have commit : (j.advanced charge).commit = some { c with charged := c.charged + charge } := by
          simp [Job.advanced, Job.charge, hc]
        have found_eq : found = (s.setSpool (s.delivery p head rest e n j c sh).spool).pageIs e .complete := by
          rw [released]
          rfl
        have ready := State.cursorReady_starvedAfter (s := s) (d := s.delivery p head rest e n j c sh) commit
        refine ⟨fun missing => ?_, ?_⟩
        · rw [wait]
          refine settles (State.settle_starved (d := s.delivery p head rest e n j c sh) linked.quiet busy hrest cover lone
            nobody more draining ?_)
          rw [Bool.eq_false_iff, Ne, ready]
          rintro ⟨m, k, hm, hk, complete⟩
          obtain ⟨x, hx, gap⟩ := missing m k hm hk
          rw [found_eq] at gap
          exact Bool.noConfusion ((complete x hx).symm.trans gap)
        · intro m k hm hk complete awake none_idle queued
          have again : queued = s.requeued (s.delivery p head rest e n j c sh) (j.advanced charge) := by
            simp only [queued, wait, kept]
            rfl
          have is_ready := ready.mpr ⟨m, k, hm, hk, fun x hx => by rw [← complete x hx, found_eq]; rfl⟩
          refine ⟨fun copies pages => ?_, fun all target fits long short early loaded credits => ?_⟩
          · rw [again]
            exact settles (State.settle_requeued (d := s.delivery p head rest e n j c sh) linked.quiet busy hrest cover lone
              nobody more draining is_ready copies pages)
          · rw [again, kept]
            refine settles (State.settle_rebound (d := s.delivery p head rest e n j c sh) linked.quiet busy hrest cover lone
              more draining is_ready awake none_idle all target fits long ?_ (fun x y hxy => ?_) credits)
            · have due : (s.pressRec p).countSheet.shortDue = ((s.pressRec p).shortDue || ((s.pressRec p).shortInterval != 0 &&
                  decide ((s.pressRec p).shortInterval ≤ min ((s.pressRec p).sheetCount + 1) 4294967295))) := by
                rw [PressRec.countSheet_eq]
              have small : (s.pressRec p).shortInterval = 0 ∨ ¬ (s.pressRec p).shortInterval ≤
                  min ((s.pressRec p).sheetCount + 1) 4294967295 := early.imp_right fun few => by omega
              exact due.trans (by rcases small with h | h <;> simp [short, h])
            · have same : j.cursorSheet = some (m, k) := Job.cursorSheet_iff.mpr ⟨c, hc, hm, hk⟩
              obtain ⟨rfl, rfl⟩ : m = x ∧ k = y := by simpa using same.symm.trans (cursor.symm.trans hxy)
              exact loaded
  · have act : (s.heard p).onDelivered p head.seq = (((s.modPress p fun x => { x with heartbeat := 0, path := rest }).modMeter p
        head.media Meter.countService).push (.examine p)) := by
      have path' : ((s.heard p).press p).path = head :: rest := by simpa using path
      simp only [State.onDelivered, path', picked, service, decide_true, Bool.and_self, if_true]
      simp [State.heard]
    have examined : (((s.modPress p fun x => { x with heartbeat := 0, path := rest }).modMeter p
        head.media Meter.countService).examine p) = ((s.modPress p fun x => { x with heartbeat := 0, path := rest }).modMeter p
        head.media Meter.countService) := by
      have all_started : ¬ cal.started < cal.count := Nat.not_lt.mpr done
      have state : (((s.modPress p fun x => { x with heartbeat := 0, path := rest }).modMeter p
        head.media Meter.countService).press p).state = .calibrating cal timer := by simpa using hst
      simp only [State.examine, state, State.examinePattern, all_started, decide_false, Bool.false_and, Bool.false_eq_true, if_false]
      split <;> rfl
    rw [run, act]
    exact congrArg Host.Outcome.next ((Settles.examined (by simpa using linked.quiet) examined
      (by simpa using linked.quiet)).settle (by decide))

end Sys2Proof.Machine
end

section
/-! SUPPORT. The transmitter: what goes when the line is free, and what is framed behind it (R48, R81, R86). -/

namespace Sys2Proof.Machine

section Transmit

variable {s t : State} {p : PressNo}

/-! ## The next frame due (R81) -/

theorem nextFrameAt_waiting {waiting : List PFrame} (h : ∀ w ∈ waiting, w.needsCredit = true) :
    nextFrameAt 0 waiting = none := by
  unfold nextFrameAt
  rw [List.findIdx?_eq_none_iff]
  intro w hw
  simp [h w hw]

theorem nextFrameAt_ahead {credits : Nat} {waiting rest : List PFrame} {f : PFrame}
    (h : ∀ w ∈ waiting, w.needsCredit = true) (hc : waiting ≠ [] → credits = 0) (hf : f.needsCredit = false) :
    nextFrameAt credits (waiting ++ f :: rest) = some waiting.length := by
  cases waiting with
  | nil => exact nextFrameAt_front (by simp [hf])
  | cons w l =>
    obtain rfl := hc (by simp)
    unfold nextFrameAt
    rw [List.findIdx?_append]
    have none_goes : (w :: l).findIdx? (fun f => !f.needsCredit || decide (0 < 0)) = none := nextFrameAt_waiting h
    rw [none_goes, List.findIdx?_cons]
    simp [hf]

theorem State.pump_empty (queue : (s.press p).txq = []) : s.pump p = s := by
  have none_due : nextFrameAt (s.press p).credits [] = none := rfl
  simp only [State.pump, queue, none_due, ite_self]

/-- SHEET and DATA frames wait for a credit (R86). -/
theorem State.pump_waiting (waits : ∀ w ∈ (s.press p).txq, w.needsCredit = true) (credits : (s.press p).credits = 0) :
    s.pump p = s := by
  simp only [State.pump, credits, nextFrameAt_waiting waits, ite_self]

/-- A control frame goes ahead of SHEET and DATA frames that wait for credit (R81). -/
theorem State.pump_ahead {waiting rest : List PFrame} {f : PFrame} (line : (s.press p).line = none)
    (queue : (s.press p).txq = waiting ++ f :: rest) (h : ∀ w ∈ waiting, w.needsCredit = true)
    (hc : waiting ≠ [] → (s.press p).credits = 0) (hf : f.needsCredit = false) :
    s.pump p = s.modPress p fun x => { x with line := some f, txq := waiting ++ rest } := by
  have due := nextFrameAt_ahead (rest := rest) h hc hf
  have found : (waiting ++ f :: rest)[waiting.length]? = some f := by simp
  simp only [State.pump, line, Option.isSome_none, Bool.false_eq_true, if_false, queue, due, found, hf]
  exact State.modPress_congr (by simp [queue, List.eraseIdx_append_of_length_le])

/-- While another SHEET or DATA frame waits, nothing is framed behind the one that goes (R48). -/
theorem State.feed_unsent (unsent : (s.press p).unsent = true) : s.feed p = s := by
  unfold State.feed
  split
  · rfl
  · rw [if_pos unsent]

/-- A SHEET or DATA frame with another behind it goes, and that is all (R81, R86). -/
theorem State.pump_more {f g : PFrame} {rest : List PFrame} (line : (s.press p).line = none)
    (queue : (s.press p).txq = f :: g :: rest) (hf : f.needsCredit = true) (hg : g.needsCredit = true)
    (credit : 0 < (s.press p).credits) : s.pump p = s.modPress p fun x =>
      { x with line := some f, txq := g :: rest, credits := x.credits - 1 } := by
  rw [State.pump_credit line queue hf credit]
  exact State.feed_unsent (by simp [Press.unsent, hg])

/-! ## The transmitter and the drain it may end (R19, R81) -/

/-- A transmission that empties no path ends no drain. -/
theorem State.transmit_kept (pumped : s.pump p = t) (path : (s.press p).path = [] ∨ (t.press p).path ≠ []) :
    s.transmit p = t := by
  rw [State.transmit, pumped]
  split
  case isTrue => rfl
  case isFalse sheets =>
    have inside : (t.press p).path ≠ [] := path.resolve_left fun empty => sheets (by simp [empty])
    unfold State.endLostDrain
    split
    · exact State.endDrainIfEmpty_path inside
    · rfl

/-- A transmission that leaves the path as it was ends no drain. -/
theorem State.transmit_same (pumped : s.pump p = t) (path : (t.press p).path = (s.press p).path) : s.transmit p = t :=
  State.transmit_kept pumped (by
    by_cases empty : (s.press p).path = []
    · exact .inl empty
    · exact .inr (by rw [path]; exact empty))

theorem exec_pressFrameTransmitted (running : s.phase = .running) (line : (s.press p).line ≠ none) :
    exec (.pressFrameTransmitted p) s = .next ((s.modPress p fun x => { x with line := none }).transmit p).settle := by
  have busy : (s.press p).line.isNone = false := by rwa [Bool.eq_false_iff, Ne, Option.isNone_iff_eq_none]
  have act : exec (.pressFrameTransmitted p) s = whenRunning (State.frameDone p) s := rfl
  rw [act, whenRunning, if_pos running, State.frameDone, busy]
  rfl

/-- A transmission that raises nothing is the whole effect. -/
theorem exec_transmitted (running : s.phase = .running) (line : (s.press p).line ≠ none) (quiet : Quiet t)
    (transmits : (s.modPress p fun x => { x with line := none }).transmit p = t) :
    exec (.pressFrameTransmitted p) s = .next t := by
  rw [exec_pressFrameTransmitted running line, transmits, (Settles.quiet quiet).settle (by decide)]

/-- A sheet that is sent has its press's conditions examined (R46, R48). -/
theorem exec_transmitted_examined {u : State} (running : s.phase = .running) (line : (s.press p).line ≠ none)
    (hq : Quiet u) (quiet : Quiet t) (transmits : (s.modPress p fun x => { x with line := none }).transmit p = u.push (.examine p))
    (examined : u.examine p = t) : exec (.pressFrameTransmitted p) s = .next t := by
  rw [exec_pressFrameTransmitted running line, transmits, (Settles.examined hq examined quiet).settle (by decide)]

end Transmit

/-! ## CREDIT (R86) -/

section Credit

variable {s t u : State} {p : PressNo} {n : Byte}

/-- A press heard with credits added, held at 255 (R86). -/
def State.credited (p : PressNo) (n : Byte) (s : State) : State :=
  s.modPress p fun x => { x with heartbeat := 0, credits := min (x.credits + n.toNat) 255 }

@[simp] theorem State.press_credited : (s.credited p n).press p =
    { s.press p with heartbeat := 0, credits := min ((s.press p).credits + n.toNat) 255 } := by simp [State.credited]

/-- CREDIT: what waited is sent, and the sheet conditions are examined (R46, R86). -/
theorem exec_credited (h : Linked s p) (quiet : Quiet u) (quiet' : Quiet t) (transmits : (s.credited p n).transmit p = u)
    (examined : u.examine p = t) : exec (.credit p n) s = .next t := by
  have act : (s.heard p).frameAct p (.credit n) = u.push (.examine p) := by
    have heard : (s.heard p).modPress p (fun x => { x with credits := min (x.credits + n.toNat) 255 }) = s.credited p n := by
      simp [State.heard, State.credited]
    rw [State.frameAct, State.onCredit, heard, transmits]
  rw [exec_linked h (f := .credit n) rfl, act, (Settles.examined quiet examined quiet').settle (by decide)]

/-! ## Examinations that change nothing -/

/-- While a sheet is being sent, no other starts on a press that prints no job (R46, R114). -/
theorem State.examine_sending (send : (s.press p).send ≠ .idle)
    (idle : (∀ m, (s.press p).state ≠ .busy m) ∨
      ∀ e j q, s.boundJob p = some e → s.job e = some j → j.state ≠ .printing q) : s.examine p = s := by
  by_cases cal : ∃ r n, (s.press p).state = .calibrating r n
  · obtain ⟨r, n, cal⟩ := cal
    exact State.examine_calibrating cal (.inr (.inr (.inl send)))
  · have not_cal : ∀ r n, (s.press p).state ≠ .calibrating r n := fun r n h => cal ⟨r, n, h⟩
    rcases idle with not_busy | not_printing
    · exact State.examine_other not_busy not_cal
    · unfold State.examine
      split
      · split
        · rfl
        · rename_i e bound
          split
          · rfl
          · rename_i j live
            split
            · rename_i q printing
              exact absurd printing (not_printing e j q bound live)
            · rfl
      · rename_i h
        exact absurd h (not_cal _ _)
      · rfl

/-- A PRINTING job on whose press nothing starts has its starve timer run while a page is missing, its press in media wait
as it is (R46, R50, R51). -/
theorem State.examine_waits {e : Entry} {j : Job} (w : Waits s p e j) (rests : NoStart s p) :
    s.examine p = s.setJob e (some { j with starve := s.starveOf e j }) := by
  have bound := w.alone.boundJob
  have live := w.alone.live
  have busy := w.busy
  cases hc : j.cursorSheet with
  | none =>
    have busy' : (s.press p).state = .busy none := by simpa [hc] using busy
    rw [State.examine_end busy' bound live w.printing hc, State.mediaWaitEnded_none, State.starveOf_end hc]
  | some x =>
    obtain ⟨n, sh⟩ := x
    rw [hc] at busy
    have whole : Undamaged s e j n := w.whole (n, sh) hc
    by_cases loaded : s.loaded p sh.media = true
    · have busy' : (s.press p).state = .busy none := by simpa [loaded] using busy
      by_cases complete : ∀ k ∈ sh.pages, s.pageIs e .complete k = true
      · obtain ⟨c, hc', hn, hsh⟩ := Job.cursorSheet_iff.mp hc
        have ready : SheetReady s p e j := ⟨c, n, sh, hc', hn, hsh, loaded, complete⟩
        rw [State.examine_noStart busy' bound live w.printing ready rests, State.mediaWaitEnded_none,
          State.starveOf_sheet hc, State.sheetReady_iff.mpr complete]
        rfl
      · have missing : ∃ k ∈ sh.pages, s.pageIs e .complete k = false := by simpa using complete
        rw [State.examine_missing busy' bound live w.printing hc whole loaded missing, State.mediaWaitEnded_none]
    · rw [Bool.not_eq_true] at loaded
      have busy' : (s.press p).state = .busy (some sh.media) := by simpa [loaded] using busy
      rw [State.examine_unloaded busy' bound live w.printing hc whole loaded, State.mediaWaitBegun, if_pos rfl]

/-- The conditions of R46 hold: media wait ends and the sheet at the cursor starts (R46, R47, R51). -/
theorem State.examine_begins {e : Entry} {j : Job} {now : Option Nat} {i : Nat} {sh : Sheet} {data : List Byte} {last : Bool}
    (busy : (s.press p).state = .busy now) (bound : s.boundJob p = some e) (live : s.job e = some j)
    (printing : j.state = .printing p) (st : Starts s p e j i sh data last) : s.examine p =
      ((s.mediaWaitEnded p now).setJob e (some { j with starve := none })).modPress p
        (started (some (e, i)) sh.media sh.sides data last) := by
  obtain ⟨c, m, sh', hc, hm, hsh, loaded, complete⟩ := st.ready
  obtain ⟨rfl, rfl⟩ : m = i ∧ sh' = sh := by
    simpa using (Job.cursorSheet_iff.mpr ⟨c, hc, hm, hsh⟩).symm.trans st.cursor
  obtain ⟨k, pg, page, block⟩ := st.first
  have credit : 0 < (s.press p).credits :=
    Nat.pos_of_ne_zero fun none_left => st.free (.inl none_left)
  have kept : (((s.mediaWaitEnded p now).setJob e (some { j with starve := none })).press p).line = (s.press p).line ∧
      (((s.mediaWaitEnded p now).setJob e (some { j with starve := none })).press p).txq = (s.press p).txq ∧
      (((s.mediaWaitEnded p now).setJob e (some { j with starve := none })).press p).credits = (s.press p).credits := by
    cases now <;> simp [State.mediaWaitEnded_none, State.mediaWaitEnded_some]
  have spool : ((s.mediaWaitEnded p now).setJob e (some { j with starve := none })).spool = s.spool :=
    State.mediaWaitEnded_spool
  rw [State.examine_starts busy bound live printing st.cursor loaded complete st.free]
  exact State.startSheet_free (d := k) (kept.1.trans st.line) (kept.2.1.trans st.nothing) (by rw [kept.2.2]; exact credit)
    (State.job_setJob_self _ _ _) hsh (by rw [spool]; exact page) (by rw [spool]; exact block)

/-- What a job waits for is unchanged by what leaves the jobs, the spool, the records and the press's state. -/
theorem Waits.of_same {e : Entry} {j : Job} (w : Waits s p e j) (job : t.job = s.job) (spool : t.spool = s.spool)
    (record : t.pressRec p = s.pressRec p) (state : (t.press p).state = (s.press p).state) : Waits t p e j := by
  obtain ⟨⟨live, bound, alone⟩, printing, busy, whole⟩ := w
  refine ⟨⟨by rw [job]; exact live, bound, by rw [job]; exact alone⟩, printing, ?_, fun x hx sh k hsh hk => ?_⟩
  · have loaded : ∀ m, t.loaded p m = s.loaded p m := fun m => by simp only [State.loaded, record]
    rw [state, busy]
    exact congrArg (fun f => PressState.busy (j.cursorSheet.bind f)) (funext fun x => by rw [loaded])
  · rw [State.pageIs_congr spool]
    exact whole x hx sh k hsh hk

end Credit

end Sys2Proof.Machine
end

section
/-! PROOF. CREDIT, TRAY, the start of a sheet, media wait and the end of a frame (R46 to R51, R81, R85, R86). -/

namespace Sys2Proof.Machine

/-! ## CREDIT (R86) -/

/-- CREDIT on a press as its line and its job let it (R46, R51, R86). -/
theorem credit_outcomes (s : State) (p : PressNo) (n : Byte) (linked : Linked s p) :
    let total := min ((s.press p).credits + n.toNat) 255
    ((s.press p).txq = [] → (∀ m, (s.press p).state ≠ .busy m) → (∀ r t, (s.press p).state ≠ .calibrating r t) →
      exec (.credit p n) s = .next (s.credited p n)) ∧
    (∀ f g rest, (s.press p).txq = f :: g :: rest → f.needsCredit = true → g.needsCredit = true →
      (s.press p).line = none → (s.press p).send ≠ .idle → 0 < total →
      let sent := (s.credited p n).modPress p fun x => { x with credits := x.credits - 1, line := some f, txq := g :: rest }
      ((∀ m, (s.press p).state ≠ .busy m) ∨
        (∀ e j q, s.boundJob p = some e → s.job e = some j → j.state ≠ .printing q) →
        exec (.credit p n) s = .next sent) ∧
      (∀ e j, Waits s p e j →
        exec (.credit p n) s = .next (sent.setJob e (some { j with starve := s.starveOf e j })))) ∧
    (∀ e j i sh, (s.press p).txq = [] → (s.press p).state = .busy none → BoundAlone s p e j → j.state = .printing p →
      j.cursorSheet = some (i, sh) →
      (∀ data last, Starts (s.credited p n) p e j i sh data last →
        exec (.credit p n) s = .next (((s.credited p n).modPress p
          (started (some (e, i)) sh.media sh.sides data last)).setJob e (some { j with starve := none }))) ∧
      (Undamaged s e j i → s.loaded p sh.media = false →
        exec (.credit p n) s = .next (((((s.credited p n).modPress p fun x =>
          { x with state := .busy (some sh.media) }).setJob e (some { j with starve := s.starveOf e j })).mark
            (.press p)).raise .mediaOut (.press p) (some sh.media)))) := by
  intro total
  have quiet : Quiet (s.credited p n) := by simpa [State.credited] using linked.quiet
  have nothing (queue : (s.press p).txq = []) : (s.credited p n).transmit p = s.credited p n :=
    State.transmit_same (State.pump_empty (by simpa using queue)) rfl
  refine ⟨fun queue not_busy cal => ?_, fun f g rest queue hf hg line send credit => ?_,
    fun e j i sh queue busy alone printing cursor => ⟨fun data last starts => ?_, fun whole unloaded => ?_⟩⟩
  · exact exec_credited linked quiet quiet (nothing queue) (State.examine_other (by simpa using not_busy) (by simpa using cal))
  · intro sent
    have transmits : (s.credited p n).transmit p = sent :=
      State.transmit_same (State.pump_more (by simpa using line) (by simpa using queue) hf hg (by rw [State.press_credited]; exact credit))
        (by simp [sent])
    have quiet' : Quiet sent := by simpa [sent] using quiet
    have send' : (sent.press p).send ≠ .idle := by simpa [sent] using send
    refine ⟨fun idle => ?_, fun e j waits => ?_⟩
    · refine exec_credited linked quiet' quiet' transmits (State.examine_sending send' ?_)
      exact idle.imp (fun not_busy => by simpa [sent] using not_busy) id
    · have waits' : Waits sent p e j := Waits.of_same waits (by rfl) (by rfl) (by rfl) (by simp [sent])
      have timer : sent.starveOf e j = s.starveOf e j := State.starveOf_congr (by rfl) (by rfl) e j
      refine exec_credited linked quiet' (by simpa using quiet') transmits ?_
      rw [State.examine_waits waits' (.inr (.inr (.inl send'))), timer]
  · have bound := alone.boundJob
    have started := State.examine_begins (s := s.credited p n) (by simpa using busy) bound alone.live printing starts
    refine exec_credited linked quiet (by simpa using quiet) (nothing queue) ?_
    rw [started, State.mediaWaitEnded_none, State.modPress_setJob]
  · have bound := alone.boundJob
    have whole' : Undamaged (s.credited p n) e j i := whole
    have waits := State.examine_unloaded (s := s.credited p n) (now := none) (by simpa using busy) bound alone.live printing
      cursor whole' unloaded
    have timer : (s.credited p n).starveOf e j = s.starveOf e j := State.starveOf_congr (by rfl) (by rfl) e j
    rw [timer] at waits
    refine exec_credited linked quiet (by simpa using quiet) (nothing queue) (waits.trans ?_)
    simp [State.mediaWaitBegun]

/-! ## TRAY (R85) -/

section Tray

variable {s : State} {p : PressNo} {index media : Byte} {loaded : Bool} {c : Caps}

/-- A press heard with one tray of its capabilities replaced, its report pending (R85). -/
def State.trayTold (p : PressNo) (index : Nat) (t : Tray) (c : Caps) (s : State) : State :=
  ((s.modPress p fun x => { x with heartbeat := 0 }).modRec p fun r =>
    { r with caps := some { c with trays := c.trays.set index t } }).mark (.press p)

theorem State.press_trayTold {t : Tray} : (s.trayTold p index.toNat t c).press p = { s.press p with heartbeat := 0 } := by
  simp [State.trayTold]

theorem exec_tray (h : Linked s p) (caps : (s.pressRec p).caps = some c) (index_lt : index.toNat < c.trays.length)
    (media_le : media.toNat ≤ 15) {t : State}
    (told : s.trayTold p index.toNat { media := media.toNat, loaded := loaded } c = t) (calm : t.evalDemand = t) :
    exec (.tray p index media loaded) s = .next
      (if (s.press p).state.isIdle then (t.push (.examine p)).push (.decidePress p) else t.push (.examine p)).settle := by
  have caps' : ((s.heard p).pressRec p).caps = some c := caps
  have taken : (decide (index.toNat < c.trays.length) && decide (media.toNat ≤ 15)) = true := by simp [index_lt, media_le]
  have heard : ((s.heard p).modRec p fun r => { r with
      caps := some { c with trays := c.trays.set index.toNat { media := media.toNat, loaded := loaded } } }).mark
        (.press p) = t := told
  have idle : (t.press p).state.isIdle = (s.press p).state.isIdle := by simp [← told, State.trayTold]
  rw [exec_linked h (f := .tray index media loaded) rfl, State.frameAct, State.onTray]
  simp only [caps', taken, if_true, heard, calm, State.press_push, idle]

/-- With no work a TRAY is taken and nothing is decided (R66, R85). -/
theorem exec_tray_noWork (h : Linked s p) (work : NoWork s) (cal : ∀ r t, (s.press p).state ≠ .calibrating r t)
    (caps : (s.pressRec p).caps = some c) (index_lt : index.toNat < c.trays.length) (media_le : media.toNat ≤ 15) :
    exec (.tray p index media loaded) s =
      .next (s.trayTold p index.toNat { media := media.toNat, loaded := loaded } c) := by
  have work' : NoWork (s.trayTold p index.toNat { media := media.toNat, loaded := loaded } c) := by
    simpa [State.trayTold] using work.modPress p (f := fun x => { x with heartbeat := 0 }) (work.nobody p)
  have quiet : Quiet (s.trayTold p index.toNat { media := media.toNat, loaded := loaded } c) := by
    simpa [State.trayTold] using h.quiet
  have state : ((s.trayTold p index.toNat { media := media.toNat, loaded := loaded } c).press p).state =
      (s.press p).state := by simp [State.trayTold]
  rw [exec_tray h caps index_lt media_le rfl (State.evalDemand_noWork work')]
  refine congrArg Host.Outcome.next ?_
  generalize s.trayTold p index.toNat { media := media.toNat, loaded := loaded } c = t at work' quiet state
  have free (e : Entry) : t.eligible e = false := State.eligible_not_queued fun j hj => by simp [work'.free e] at hj
  have rests (u : State) (hu : u = (t.push (.examine p)).push (.decidePress p) ∨ u = t.push (.examine p)) :
      u.settle = t := by
    have calm : u.calm = t := by rcases hu with rfl | rfl <;> simpa using State.calm_quiet quiet
    have agenda : u.agenda = [.examine p, .decidePress p] ∨ u.agenda = [.examine p] := by
      rcases hu with rfl | rfl <;> simp [State.push, quiet.1]
    have press (q : PressNo) : u.press q = t.press q := by rcases hu with rfl | rfl <;> rfl
    have jobs : u.jobs = t.jobs := by rcases hu with rfl | rfl <;> rfl
    have spool : u.spool = t.spool := by rcases hu with rfl | rfl <;> rfl
    rw [State.settle_nothing ?_ (fun e => ?_) (fun q => ?_) (fun q hq => ?_), calm]
    · rcases agenda with h | h <;> simp [h]
    · rw [State.eligible_congr jobs spool]
      exact free e
    · rw [press]
      exact work'.nobody q
    · obtain rfl : q = p := by rcases agenda with h | h <;> simpa [h] using hq
      exact ⟨by rw [State.boundJob_congr jobs]; exact State.boundJob_noJobs work'.free q, by rw [press, state]; exact cal⟩
  split
  · exact rests _ (.inl rfl)
  · exact rests _ (.inr rfl)

/-- Where no press can be bound or woken, a TRAY on a BUSY press has its sheet conditions examined (R46, R85). -/
theorem exec_tray_examined {now : Option Nat} {t : State} (h : Linked s p) (still : Still s)
    (busy : (s.press p).state = .busy now) (caps : (s.pressRec p).caps = some c) (index_lt : index.toNat < c.trays.length)
    (media_le : media.toNat ≤ 15) (quiet : Quiet t)
    (examined : (s.trayTold p index.toNat { media := media.toNat, loaded := loaded } c).examine p = t) :
    exec (.tray p index media loaded) s = .next t := by
  have still' : Still (s.trayTold p index.toNat { media := media.toNat, loaded := loaded } c) := by
    simpa [State.trayTold] using still.modPress p (f := fun x => { x with heartbeat := 0 }) (still p)
  rw [exec_tray h caps index_lt media_le rfl (State.evalDemand_still still'), if_neg (by simp [busy, PressState.isIdle]),
    (Settles.examined (by simpa [State.trayTold] using h.quiet) examined quiet).settle (by decide)]

end Tray

section Examined

variable {s x : State} {p : PressNo} {e : Entry} {j : Job} {now : Option Nat}

theorem State.mediaWaitEnded_setJob (i : Option Job) :
    (x.mediaWaitEnded p now).setJob e i = (x.setJob e i).mediaWaitEnded p now := by
  cases now <;> simp [State.mediaWaitEnded_none, State.mediaWaitEnded_some]

theorem State.mediaWaitEnded_started {job : Option (Entry × Nat)} {media sides : Nat} {data : List Byte} {last : Bool} :
    (x.mediaWaitEnded p now).modPress p (started job media sides data last) =
      (x.modPress p (started job media sides data last)).mediaWaitEnded p now := by
  cases now <;> simp [State.mediaWaitEnded_none, State.mediaWaitEnded_some, started]

/-- What an examination leaves of a press whose report is pending, by what it finds (R46, R50, R51). -/
theorem examined_outcomes {goes : State → Prop} (hq : Quiet x) (pending : Report.press p ∈ x.reports)
    (busy : (x.press p).state = .busy now) (bound : x.boundJob p = some e) (live : x.job e = some j)
    (printing : j.state = .printing p) (outcome : ∀ t, Quiet t → x.examine p = t → goes t) :
    (j.cursorSheet = none ∨ (SheetReady x p e j ∧ NoStart x p) →
      goes ((x.setJob e (some { j with starve := none })).mediaWaitEnded p now)) ∧
    (∀ i sh data last, Starts x p e j i sh data last →
      goes (((x.setJob e (some { j with starve := none })).modPress p
        (started (some (e, i)) sh.media sh.sides data last)).mediaWaitEnded p now)) ∧
    (∀ i sh, j.cursorSheet = some (i, sh) → Undamaged x e j i →
      let t := x.setJob e (some { j with starve := x.starveOf e j })
      (x.loaded p sh.media = true → (∃ k ∈ sh.pages, x.pageIs e .complete k = false) → goes (t.mediaWaitEnded p now)) ∧
      (x.loaded p sh.media = false → goes (if now = some sh.media then t else
        (t.modPress p fun y => { y with state := .busy (some sh.media) }).raise .mediaOut (.press p) (some sh.media)))) := by
  refine ⟨fun h => outcome _ (by simpa using hq) ?_, fun i sh data last st => outcome _ (by simpa using hq) ?_,
    fun i sh cursor whole => ⟨fun loaded missing => outcome _ (by simpa using hq) ?_, fun unloaded => outcome _ ?_ ?_⟩⟩
  · rw [← State.mediaWaitEnded_setJob]
    rcases h with ends | ⟨ready, rests⟩
    · exact State.examine_end busy bound live printing ends
    · exact State.examine_noStart busy bound live printing ready rests
  · rw [← State.mediaWaitEnded_started, ← State.mediaWaitEnded_setJob]
    exact State.examine_begins busy bound live printing st
  · rw [← State.mediaWaitEnded_setJob]
    exact State.examine_missing busy bound live printing cursor whole loaded missing
  · split <;> simpa using hq
  · rw [State.examine_unloaded busy bound live printing cursor whole unloaded, State.mediaWaitBegun]
    split
    case isTrue => rfl
    case isFalse =>
      have told : (x.modPress p fun y => { y with state := .busy (some sh.media) }).mark (.press p) =
          x.modPress p fun y => { y with state := .busy (some sh.media) } :=
        State.mark_of_pending (Report.plain_press p) pending
      simp [told]

end Examined

end Sys2Proof.Machine
end

section
/-! SUPPORT. What is framed when the last frame given of a sheet goes: the next stretch of a side, a failing block, the end
of the sheet (R35, R43, R48, R49). -/

namespace Sys2Proof.Machine

/-! ## The DATA frames of a side (R48) -/

section Cut

variable {last : Bool}

theorem cutFrames_short {n : Nat} {bs : List Byte} (h : bs.length < 256) :
    cutFrames (n + 1) bs last = if last || !bs.isEmpty then [bs] else [] := by
  rw [cutFrames, if_pos h]

theorem cutFrames_long {n : Nat} {bs : List Byte} (h : ¬ bs.length < 256) :
    cutFrames (n + 1) bs last = bs.take 256 :: cutFrames n (bs.drop 256) last := by
  rw [cutFrames, if_neg h]

/-- What is left after a full frame needs one frame fewer. -/
theorem drop_frames {n : Nat} {bs : List Byte} (h : ¬ bs.length < 256) (hn : bs.length / 256 = n + 1) :
    (bs.drop 256).length / 256 = n := by
  rw [List.length_drop]
  omega

theorem cutFrames_flatten (n : Nat) (bs : List Byte) (hn : bs.length / 256 = n) : (cutFrames (n + 1) bs last).flatten = bs := by
  induction n generalizing bs with
  | zero =>
    rw [cutFrames_short (by omega)]
    cases bs <;> cases last <;> simp
  | succ n ih =>
    have long : ¬ bs.length < 256 := by omega
    rw [cutFrames_long long, List.flatten_cons, ih _ (drop_frames long hn), List.take_append_drop]

/-- Every frame but the last is full. -/
theorem cutFrames_full (n : Nat) (bs : List Byte) (hn : bs.length / 256 = n) (k : Nat) (b : List Byte)
    (h : (cutFrames (n + 1) bs last)[k]? = some b) :
    b.length ≤ 256 ∧ (k + 1 < (cutFrames (n + 1) bs last).length → b.length = 256) := by
  induction n generalizing bs k with
  | zero =>
    rw [cutFrames_short (by omega)] at h ⊢
    split at h
    case isTrue some_bytes =>
      rw [if_pos some_bytes]
      obtain ⟨rfl, rfl⟩ : k = 0 ∧ bs = b := by
        cases k <;> simp_all
      exact ⟨by omega, fun more => by simp at more⟩
    case isFalse => simp at h
  | succ n ih =>
    have long : ¬ bs.length < 256 := by omega
    rw [cutFrames_long long] at h ⊢
    cases k with
    | zero =>
      obtain rfl : bs.take 256 = b := by simpa using h
      have full : (bs.take 256).length = 256 := by
        rw [List.length_take]
        omega
      exact ⟨full.le, fun _ => full⟩
    | succ k =>
      rw [List.getElem?_cons_succ] at h
      obtain ⟨most, full⟩ := ih _ (drop_frames long hn) k h
      exact ⟨most, fun more => full (by simpa using more)⟩

/-- The frames of a stretch that ends a side: the last of fewer bytes than 256. -/
theorem cutFrames_last (n : Nat) (bs : List Byte) (hn : bs.length / 256 = n) :
    (cutFrames (n + 1) bs true).length = n + 1 ∧ ∀ b ∈ (cutFrames (n + 1) bs true).getLast?, b.length < 256 := by
  induction n generalizing bs with
  | zero =>
    rw [cutFrames_short (by omega)]
    simp
    omega
  | succ n ih =>
    have long : ¬ bs.length < 256 := by omega
    obtain ⟨count, short⟩ := ih _ (drop_frames long hn)
    rw [cutFrames_long long]
    refine ⟨by rw [List.length_cons, count], fun b hb => short b ?_⟩
    have some_left : cutFrames (n + 1) (bs.drop 256) true ≠ [] := fun none_left => by simp [none_left] at count
    rwa [List.getLast?_cons_of_ne_nil some_left] at hb

end Cut

/-! ## The frame that was the last given (R48) -/

section Feed

variable {s : State} {p : PressNo} {f : PFrame} {older : List PathEntry} {ent : PathEntry} {side framed : Nat} {ended : Bool}

/-- A press's last frame given gone onto its line, with a credit (R81, R86). -/
def State.lastGone (p : PressNo) (f : PFrame) (s : State) : State :=
  s.modPress p fun x => { x with line := some f, txq := [], credits := x.credits - 1 }

@[simp] theorem State.press_lastGone : (s.lastGone p f).press p =
    { s.press p with line := some f, txq := [], credits := (s.press p).credits - 1 } := by simp [State.lastGone]

theorem State.pump_last (queue : (s.press p).txq = [f]) (hf : f.needsCredit = true) (credit : 0 < (s.press p).credits) :
    (s.modPress p fun x => { x with line := none }).pump p = (s.lastGone p f).feed p := by
  rw [State.pump_credit (f := f) (rest := []) (by simp) (by simpa using queue) hf (by simpa using credit)]
  simp [State.lastGone]

variable (path : (s.press p).path = older ++ [ent]) (send : (s.press p).send = .sending side framed ended)
include path send

/-- The next stretch of the side, or the second side (R48). -/
theorem State.feed_side (h : ended = false ∨ (side = 1 ∧ ent.sides = 2)) : (s.lastGone p f).feed p =
    (s.lastGone p f).feedSide p ent (if ended then 2 else side) (if ended then 0 else framed) := by
  have unsent : (((s.lastGone p f).press p).unsent) = false := by simp [Press.unsent]
  have send' : ((s.lastGone p f).press p).send = .sending side framed ended := by simpa using send
  have path' : ((s.lastGone p f).press p).path.getLast? = some ent := by simp [path]
  simp only [State.feed, send', unsent, Bool.false_eq_true, if_false, path']
  cases ended with
  | false => rfl
  | true =>
    have two : side = 1 ∧ ent.sides = 2 := by simpa using h
    simp [two]

/-- The end of the sheet (R43, R48). -/
theorem State.feed_sent (h : ended = true) (sides : ent.sides = side) :
    (s.lastGone p f).feed p = (s.lastGone p f).sheetSent p ent := by
  have unsent : (((s.lastGone p f).press p).unsent) = false := by simp [Press.unsent]
  have send' : ((s.lastGone p f).press p).send = .sending side framed ended := by simpa using send
  have path' : ((s.lastGone p f).press p).path.getLast? = some ent := by simp [path]
  simp only [State.feed, send', unsent, Bool.false_eq_true, if_false, path', h, Bool.not_true]
  rw [if_neg]
  simp
  omega

end Feed

end Sys2Proof.Machine
end

section
/-! SUPPORT. The end of a sheet, and the failure of a block, as the transmitter comes to them (R18, R35, R43, R46, R49). -/

namespace Sys2Proof.Machine

section Sent

variable {s t : State} {p : PressNo} {f : PFrame} {older : List PathEntry} {ent : PathEntry} {e : Entry} {i : Nat} {j : Job}
  {c : Commit}

/-- A sheet whose last frame has gone: its entry SENT, the sending at rest (R43, R48). -/
def State.sheetGone (p : PressNo) (f : PFrame) (older : List PathEntry) (ent : PathEntry) (s : State) : State :=
  s.modPress p fun x =>
    { x with
      line := some f, txq := [], credits := x.credits - 1, path := older ++ [{ ent with state := .sent }], send := .idle }

@[simp] theorem State.press_sheetGone : (s.sheetGone p f older ent).press p =
    { s.press p with
      line := some f, txq := [], credits := (s.press p).credits - 1
      path := older ++ [{ ent with state := .sent }], send := .idle } := by simp [State.sheetGone]

@[simp] theorem quiet_sheetGone : Quiet (s.sheetGone p f older ent) ↔ Quiet s := by simp [State.sheetGone]

/-- A job whose cursor has moved past a position (R43). -/
def Job.movedPast (c : Commit) (i : Nat) (j : Job) : Job :=
  { j with commit := some { c with cursor := if j.total ≤ i then none else some (i + 1) } }

theorem Job.setCursor_next (hc : j.commit = some c) : j.setCursor (j.nextPosition i) = j.movedPast c i := by
  simp only [Job.setCursor, hc, Job.movedPast, Job.nextPosition]

theorem Job.movedPast_end (h : j.total ≤ i) : (j.movedPast c i).cursorSheet = none := by
  simp [Job.cursorSheet, Job.movedPast, h]

theorem Job.movedPast_next (h : i < j.total) {sh : Sheet} (hsh : j.sheetOf (i + 1) = some sh) :
    (j.movedPast c i).cursorSheet = some (i + 1, sh) :=
  Job.cursorSheet_iff.mpr ⟨{ c with cursor := some (i + 1) }, by simp [Job.movedPast, Nat.not_le.mpr h], rfl, hsh⟩

/-- The cursor comes onto no DAMAGED page (R18, R46). -/
theorem State.faultAtCursor_none (live : s.job e = some j)
    (whole : ∀ n sh, j.cursorSheet = some (n, sh) → Undamaged s e j n) : s.faultAtCursor e = s := by
  have none_damaged : s.damageAtCursor e = none := by
    rw [State.damageAtCursor, live, Option.bind_some]
    split
    case isTrue =>
      cases hc : j.cursorSheet with
      | none => rfl
      | some x =>
        obtain ⟨n, sh⟩ := x
        obtain ⟨-, -, -, hsh⟩ := Job.cursorSheet_iff.mp hc
        refine List.find?_eq_none.mpr fun k hk => ?_
        rw [whole n sh hc sh k hsh hk]
        simp
    case isFalse => rfl
  rw [State.faultAtCursor, none_damaged]

theorem State.lastGone_sent (path : (s.press p).path = older ++ [ent]) : ((s.lastGone p f).modPress p fun x =>
    { x with path := x.path.dropLast ++ [{ ent with state := .sent }], send := .idle }) = s.sheetGone p f older ent := by
  rw [State.lastGone, State.modPress_twice, State.sheetGone]
  exact State.modPress_congr (by simp [path])

/-- The end of a job's sheet: its entry SENT, the cursor moved on, the conditions of the press to be examined (R43, R46). -/
theorem State.sheetSent_job (path : (s.press p).path = older ++ [ent]) (hjob : ent.job = some (e, i)) (live : s.job e = some j)
    (hc : j.commit = some c) (whole : i < j.total → Undamaged s e j (i + 1)) : (s.lastGone p f).sheetSent p ent =
      ((s.sheetGone p f older ent).setJob e (some (j.movedPast c i))).push (.examine p) := by
  have live' : (s.sheetGone p f older ent).job e = some j := by simpa [State.sheetGone] using live
  have moved : ((s.sheetGone p f older ent).modJob e fun j => j.setCursor (j.nextPosition i)) =
      (s.sheetGone p f older ent).setJob e (some (j.movedPast c i)) := by
    rw [State.modJob_live live', Job.setCursor_next hc]
  unfold State.sheetSent
  dsimp only
  rw [State.lastGone_sent path]
  simp only [hjob]
  rw [moved, State.faultAtCursor_none (State.job_setJob_self _ _ _) fun n sh hn => ?_]
  by_cases last : j.total ≤ i
  · rw [Job.movedPast_end last] at hn
    cases hn
  · obtain ⟨k, hk, hkn, -⟩ := Job.cursorSheet_iff.mp hn
    obtain rfl : n = i + 1 := by
      obtain rfl : { c with cursor := some (i + 1) } = k := by simpa [Job.movedPast, last] using hk
      simpa using hkn.symm
    exact whole (Nat.not_le.mp last)

/-- The end of a pattern sheet (R61). -/
theorem State.sheetSent_pattern (path : (s.press p).path = older ++ [ent]) (hjob : ent.job = none) :
    (s.lastGone p f).sheetSent p ent = (s.sheetGone p f older ent).push (.examine p) := by
  unfold State.sheetSent
  dsimp only
  rw [State.lastGone_sent path]
  simp only [hjob]

/-! ## What goes when the last frame given of a sheet goes -/

variable {side framed : Nat} {ended : Bool}

/-- The last frame given of a sheet goes, and what is framed behind it empties no path (R48, R81). -/
theorem State.transmit_last (queue : (s.press p).txq = [f]) (hf : f.needsCredit = true) (credit : 0 < (s.press p).credits)
    (fed : (s.lastGone p f).feed p = t) (kept : (t.press p).path ≠ []) :
    (s.modPress p fun x => { x with line := none }).transmit p = t :=
  State.transmit_kept ((State.pump_last queue hf credit).trans fed) (.inr kept)

section Ends

variable (running : s.phase = .running) (hq : Quiet s) (line : (s.press p).line ≠ none) (queue : (s.press p).txq = [f])
  (hf : f.needsCredit = true) (credit : 0 < (s.press p).credits) (path : (s.press p).path = older ++ [ent])
  (send : (s.press p).send = .sending side framed true) (sides : ent.sides = side)
include running hq line queue hf credit path send sides

/-- The end of a job's sheet, and what the sheet conditions find then (R43, R46, R48). -/
theorem exec_sheetSent_job (hjob : ent.job = some (e, i)) (live : s.job e = some j) (hc : j.commit = some c)
    (whole : i < j.total → Undamaged s e j (i + 1))
    (examined : ((s.sheetGone p f older ent).setJob e (some (j.movedPast c i))).examine p = t) (quiet : Quiet t) :
    exec (.pressFrameTransmitted p) s = .next t := by
  refine exec_transmitted_examined running line ?_ quiet (State.transmit_last queue hf credit
    ((State.feed_sent path send rfl sides).trans (State.sheetSent_job path hjob live hc whole)) ?_) examined
  · simpa using hq
  · simp

/-- The end of a pattern sheet after which none follows (R61, R114). -/
theorem exec_sheetSent_pattern {run : CalRun} {timer : Nat} (hjob : ent.job = none)
    (cal : (s.press p).state = .calibrating run timer) (rests : run.count ≤ run.started ∨ (s.press p).credits = 1) :
    exec (.pressFrameTransmitted p) s = .next (s.sheetGone p f older ent) := by
  have cal' : ((s.sheetGone p f older ent).press p).state = .calibrating run timer := by simpa using cal
  refine exec_transmitted_examined running line (by simpa using hq) (by simpa using hq) (State.transmit_last queue hf credit
    ((State.feed_sent path send rfl sides).trans (State.sheetSent_pattern path hjob)) (by simp)) ?_
  rcases rests with all | one
  · have all_started : ¬ run.started < run.count := Nat.not_lt.mpr all
    simp only [State.examine, cal', State.examinePattern, all_started, decide_false, Bool.false_and, Bool.false_eq_true,
      if_false]
    cases (s.sheetGone p f older ent).patternMedia p <;> rfl
  · exact State.examine_calibrating cal' (.inl (by simp [one]))

end Ends

/-- A sheet that is ready starts behind the one that has gone, where the press and the supply let it (R46, R47). -/
theorem State.examine_behind {k : Job} {n d : Nat} {sh : Sheet} {pg : Page} {data : List Byte} {last : Bool}
    (busy : (s.press p).state = .busy none) (bound : s.boundJob p = some e) (live : s.job e = some k)
    (printing : k.state = .printing p) (cursor : k.cursorSheet = some (n, sh)) (loaded : s.loaded p sh.media = true)
    (complete : ∀ x ∈ sh.pages, s.pageIs e .complete x = true) (free : ¬ NoStart s p) (line : (s.press p).line ≠ none)
    (queue : (s.press p).txq = []) (page : s.spool.page e sh.side1 = some (d, pg))
    (block : s.spool.readBlock pg 0 = .bytes data last) : s.examine p =
      (s.modPress p fun x =>
        { x with
          seq := x.seq + 1, txq := .sheet x.seq sh.media sh.sides :: dataFrames x.seq 1 data last
          send := .sending 1 data.length last
          path := x.path ++ [{ seq := x.seq, job := some (e, n), sides := sh.sides, media := sh.media
                               state := .sending }] }).setJob e (some { k with starve := none }) := by
  obtain ⟨c, -, -, hsh⟩ := Job.cursorSheet_iff.mp cursor
  rw [State.examine_starts busy bound live printing cursor loaded complete free, State.mediaWaitEnded_none,
    ← State.modPress_setJob]
  exact State.startSheet_behind (s := s.setJob e (some { k with starve := none })) line queue (State.job_setJob_self _ _ _)
    hsh page block

/-- What the end of a job's sheet comes to, by the job's state and the sheet the cursor comes to (R43, R46, R48). -/
theorem sheetSent_outcomes {side framed : Nat} (running : s.phase = .running) (hq : Quiet s) (line : (s.press p).line ≠ none)
    (queue : (s.press p).txq = [f]) (hf : f.needsCredit = true) (credit : 0 < (s.press p).credits)
    (path : (s.press p).path = older ++ [ent]) (send : (s.press p).send = .sending side framed true)
    (sides : ent.sides = side) (hjob : ent.job = some (e, i)) (busy : (s.press p).state = .busy none)
    (alone : BoundAlone s p e j) (hc : j.commit = some c) :
    let sent := s.sheetGone p f older ent
    let goes (t : State) := exec (.pressFrameTransmitted p) s = .next t
    let rested : State := sent.setJob e (some { j.movedPast c i with starve := none })
    (j.state = .printing p → j.total ≤ i → goes rested) ∧
    (∀ sh, j.state = .printing p → i < j.total → j.sheetOf (i + 1) = some sh → s.loaded p sh.media = true →
      (∀ k ∈ sh.pages, s.pageIs e .complete k = true) →
      (NoStart sent p → goes rested) ∧
      (∀ d pg data last, ¬ NoStart sent p → s.spool.page e sh.side1 = some (d, pg) →
        s.spool.readBlock pg 0 = .bytes data last →
        goes ((sent.modPress p fun x =>
          { x with
            seq := x.seq + 1, txq := .sheet x.seq sh.media sh.sides :: dataFrames x.seq 1 data last
            send := .sending 1 data.length last
            path := x.path ++ [{ seq := x.seq, job := some (e, i + 1), sides := sh.sides, media := sh.media
                                 state := .sending }] }).setJob e (some { j.movedPast c i with starve := none })))) ∧
    (∀ target, j.state = .draining p target → (i < j.total → Undamaged s e j (i + 1)) →
      goes (sent.setJob e (some (j.movedPast c i)))) := by
  intro sent goes rested
  have outcome (t : State) (whole : i < j.total → Undamaged s e j (i + 1))
      (examined : (sent.setJob e (some (j.movedPast c i))).examine p = t) (quiet : Quiet t) : goes t :=
    exec_sheetSent_job running hq line queue hf credit path send sides hjob alone.live hc whole examined quiet
  have busy' : ((sent.setJob e (some (j.movedPast c i))).press p).state = .busy none := by simpa [sent] using busy
  have bound' : (sent.setJob e (some (j.movedPast c i))).boundJob p = some e :=
    State.boundJob_setJob (s := sent) alone.boundJob alone.bound
  have live' : (sent.setJob e (some (j.movedPast c i))).job e = some (j.movedPast c i) := State.job_setJob_self _ _ _
  have over_written : (sent.setJob e (some (j.movedPast c i))).setJob e (some { j.movedPast c i with starve := none }) = rested :=
    State.setJob_twice _ _ _ _
  have quiet : Quiet sent := by simpa [sent] using hq
  refine ⟨fun printing ends => outcome _ (fun more => absurd more (Nat.not_lt.mpr ends)) ?_ (by simpa [rested] using quiet),
    fun sh printing more hsh loaded complete => ⟨fun rests => outcome _ ?_ ?_ (by simpa [rested] using quiet),
      fun d pg data last free page block => outcome _ ?_ ?_ (by simpa using quiet)⟩,
    fun target draining whole => outcome _ whole ?_ (by simpa using quiet)⟩
  · rw [State.examine_end busy' bound' live' printing (Job.movedPast_end ends), State.mediaWaitEnded_none, over_written]
  · exact fun _ => State.undamaged_ready hsh complete
  · have ready : SheetReady (sent.setJob e (some (j.movedPast c i))) p e (j.movedPast c i) :=
      ⟨{ c with cursor := some (i + 1) }, i + 1, sh, by simp [Job.movedPast, Nat.not_le.mpr more], rfl, hsh, loaded, complete⟩
    rw [State.examine_noStart busy' bound' live' printing ready rests, State.mediaWaitEnded_none, over_written]
  · exact fun _ => State.undamaged_ready hsh complete
  · rw [State.examine_behind busy' bound' live' printing (Job.movedPast_next more hsh) loaded complete free
      (by simp [sent]) (by simp [sent]) page block]
    simp
  · exact State.examine_draining bound' live' draining fun r n cal => by
      rw [busy'] at cal
      cases cal

/-! ## A block that fails (R18, R35, R49) -/

/-- What the failure of a block leaves of the spool and the sticky set: the page DAMAGED, SPOOL_CHECK set (R35). -/
def State.blockFailed (d : Nat) (pg : Page) (s : State) : State :=
  { s with
    spool := s.spool.damage d pg
    ret := { s.ret with sticky := { s.ret.sticky with spoolCheck := true } } }

theorem State.blockFailed_modPress (d : Nat) (pg : Page) (g : Press → Press) :
    (s.modPress p g).blockFailed d pg = (s.blockFailed d pg).modPress p g := rfl

/-- What the failure of a block leaves of a press: ABORT SHEET given, the SENDING entry removed (R35, R49). -/
def State.aborted (p : PressNo) (f : PFrame) (older : List PathEntry) (ent : PathEntry) (d : Nat) (pg : Page) (s : State) :
    State :=
  (s.blockFailed d pg).modPress p fun x =>
    { x with line := some f, txq := [.abort ent.seq], credits := x.credits - 1, path := older, send := .idle }

theorem State.press_aborted {d : Nat} {pg : Page} : (s.aborted p f older ent d pg).press p =
    { s.press p with
      line := some f, txq := [.abort ent.seq], credits := (s.press p).credits - 1, path := older, send := .idle } := by
  rw [State.aborted, State.press_modPress_self]
  rfl

/-- A job PRINTING on a BUSY press goes toward FAULT, its drain still going on (R18, R19). -/
theorem State.towardFault_printing (busy : (s.press p).state = .busy none) (live : s.job e = some j)
    (printing : j.state = .printing p) (inside : (s.press p).path ≠ []) : s.towardFault e =
      ((s.setJob e (some { j with state := .draining p .fault, starve := none })).mark (.job e)).wantDemand := by
  have bound : (s.job e).bind (fun j => j.state.bound) = some p := by
    rw [live, Option.bind_some, printing]
    rfl
  have aimed : s.aimAtFault e =
      ((s.setJob e (some { j with state := .draining p .fault, starve := none })).mark (.job e)).wantDemand := by
    simp only [State.aimAtFault, live, printing]
    rw [State.endMediaWait_busy busy, State.mediaWaitEnded_none, State.moveJob_live live]
  have live' : (((s.setJob e (some { j with state := .draining p .fault, starve := none })).mark (.job e)).wantDemand).job e =
      some { j with state := .draining p .fault, starve := none } := by simp
  have inside' : ((((s.setJob e (some { j with state := .draining p .fault, starve := none })).mark
      (.job e)).wantDemand).press p).path.isEmpty = false := by simpa using inside
  simp only [State.towardFault, bound, aimed, State.endFaultDrain, live', inside', Bool.and_false, Bool.false_eq_true,
    if_false]

/-- A PRINTING job drains toward FAULT where a block of its sheet fails, sheets left in its path (R18, R19, R35). -/
theorem State.checkFailure_printing {k d : Nat} {pg : Page} (path : (s.press p).path = older ++ [ent]) (inside : older ≠ [])
    (busy : (s.press p).state = .busy none) (live : s.job e = some j) (printing : j.state = .printing p) :
    (s.lastGone p f).checkFailure p ent e d k pg =
      (((((s.aborted p f older ent d pg).setJob e (some { j with state := .draining p .fault, starve := none })).mark
        (.job e)).raise .spoolFault (.job j.serial) (some k))).wantDemand := by
  have dropped : ((s.lastGone p f).blockFailed d pg).modPress p (fun x => { x with
      txq := x.dropSheetFrames.txq ++ [.abort ent.seq], path := x.path.dropLast, send := .idle }) =
      s.aborted p f older ent d pg := by
    have same : (s.blockFailed d pg).press p = s.press p := rfl
    rw [State.lastGone, State.blockFailed_modPress, State.modPress_twice, State.aborted]
    exact State.modPress_congr (by simp [same, path, Press.dropSheetFrames])
  have live' : (s.aborted p f older ent d pg).job e = some j := live
  have toward := State.towardFault_printing (s := s.aborted p f older ent d pg) (by rw [State.press_aborted]; exact busy) live'
    printing (by rw [State.press_aborted]; exact inside)
  unfold State.checkFailure
  dsimp only
  refine (congrArg (fun x => (State.towardFault e x).raiseSpoolFault e k) dropped).trans ?_
  rw [toward]
  simp only [State.raiseSpoolFault]
  simp

end Sent

end Sys2Proof.Machine
end

section
/-! PROOF. CREDIT, TRAY, a sheet's start, media wait, and the end of each frame (R43, R46 to R51, R81, R85, R86, R114). -/

namespace Sys2Proof.Machine

/-- Settles O44. -/
theorem creditTrayAndTransmission : Obligations.CreditTrayAndTransmission := by
  refine ⟨fun s p n linked => ?_, fun s p index media loaded c linked work cal caps index_lt media_le => ?_,
    fun s p index media loaded c e j now linked still caps index_lt media_le busy alone printing => ?_,
    fun s p running hq line => ?_,
    fun s p f older ent side framed ended e i j c running hq line queue hf credit path send hjob busy alone hc => ?_,
    fun s p f older ent side framed ended run timer running hq line queue hf credit path send hjob cal => ?_,
    fun q side bytes last => ?_⟩
  · intro total
    obtain ⟨nothing, more, starts⟩ := credit_outcomes s p n linked
    refine ⟨fun queue not_busy cal => nothing queue not_busy cal, fun f g rest queue hf hg line send credit => ?_,
      fun e j c i sh queue busy alone printing hc hi hsh => ?_⟩
    · intro sent
      have gone : sent = (s.credited p n).modPress p fun x =>
          { x with credits := x.credits - 1, line := some f, txq := g :: rest } := by
        rw [State.credited, State.modPress_twice]
        exact State.modPress_congr rfl
      rw [gone]
      exact more f g rest queue hf hg line send credit
    · have cursor : j.cursorSheet = some (i, sh) := Job.cursorSheet_iff.mpr ⟨c, hc, hi, hsh⟩
      obtain ⟨begins, waits⟩ := starts e j i sh queue busy alone printing cursor
      refine ⟨fun d pg data last line send credit low room loaded complete page block => ?_, fun whole unloaded => ?_⟩
      · have free : ¬ NoStart (s.credited p n) p := by
          rintro (no_credit | supply | sending | full)
          · rw [State.press_credited] at no_credit
            exact absurd no_credit (Nat.ne_of_gt credit)
          · exact absurd (low.symm.trans supply) (by simp)
          · exact sending (by simpa using send)
          · rw [State.press_credited] at full
            exact absurd full (Nat.not_le.mpr room)
        have ready : SheetReady (s.credited p n) p e j := ⟨c, i, sh, hc, hi, hsh, loaded, complete⟩
        have begun := begins data last ⟨by simpa using line, by simpa using queue, free, cursor, ready, d, pg, page, block⟩
        rw [begun, State.credited, State.modPress_twice]
        refine congrArg (fun t => Host.Outcome.next (State.setJob e _ t)) (State.modPress_congr ?_)
        rfl
      · intro ready limit
        have timer : s.starveOf e j = if ready then none else some (j.starve.getD { elapsed := 0, limit := limit }) := by
          rw [State.starveOf_sheet cursor]
          by_cases complete : ready
          · rw [if_pos complete, if_pos (State.sheetReady_iff.mpr complete)]
          · rw [if_neg complete, if_neg (fun h => complete (State.sheetReady_iff.mp h))]
        rw [waits whole unloaded, timer, State.credited, State.modPress_twice]
        exact congrArg (fun t => Host.Outcome.next (((State.setJob e _ t).mark (.press p)).raise .mediaOut (.press p)
          (some sh.media))) (State.modPress_congr rfl)
  · exact exec_tray_noWork linked work cal caps index_lt media_le
  · intro u told goes
    have taken (st : Option Starve) : told st = (s.trayTold p index.toNat { media := media.toNat, loaded := loaded } c).setJob e
        (some { j with starve := st }) := rfl
    have bound := alone.boundJob
    have outcomes := examined_outcomes (x := s.trayTold p index.toNat { media := media.toNat, loaded := loaded } c) (goes := goes)
      (by simpa [State.trayTold] using linked.quiet) (State.pending_mark_self _ _) (by simpa [State.trayTold] using busy) bound
      alone.live printing fun t quiet examined =>
        exec_tray_examined linked still busy caps index_lt media_le quiet examined
    obtain ⟨rests, begins, others⟩ := outcomes
    have spool : (s.trayTold p index.toNat { media := media.toNat, loaded := loaded } c).spool = u.spool := rfl
    have trays : (s.trayTold p index.toNat { media := media.toNat, loaded := loaded } c).pressRec p = u.pressRec p := rfl
    have press : (s.trayTold p index.toNat { media := media.toNat, loaded := loaded } c).press p =
        { s.press p with heartbeat := 0 } := State.press_trayTold
    have timer : (s.trayTold p index.toNat { media := media.toNat, loaded := loaded } c).starveOf e j = s.starveOf e j :=
      State.starveOf_congr rfl rfl e j
    have ready : SheetReady u p e j → SheetReady (s.trayTold p index.toNat { media := media.toNat, loaded := loaded } c) p e j :=
      fun h => SheetReady.of_same h rfl rfl spool trays
    have kept : u.press p = s.press p := rfl
    have low : (s.trayTold p index.toNat { media := media.toNat, loaded := loaded } c).low = u.low := rfl
    have rest : NoStart (s.trayTold p index.toNat { media := media.toNat, loaded := loaded } c) p ↔ NoStart u p := by
      simp only [NoStart, press, kept, low, State.depth, trays]
    refine ⟨fun h => rests (h.imp_right fun ⟨rd, ns⟩ => ⟨ready rd, rest.mpr ns⟩), fun i sh data last st => ?_,
      fun i sh cursor whole => ?_⟩
    · exact begins i sh data last ⟨by rw [press]; exact st.line, by rw [press]; exact st.nothing,
        fun ns => st.free (rest.mp ns), st.cursor, ready st.ready, st.first⟩
    · have waits := others i sh cursor whole
      rw [timer] at waits
      exact waits
  · intro done
    have quiet (g : Press → Press) : Quiet (s.modPress p g) := by simpa using hq
    have goes (g : Press → Press) (pumped : (s.modPress p fun x => { x with line := none }).pump p = s.modPress p g)
        (path : (g (s.press p)).path = (s.press p).path) : done g :=
      exec_transmitted running line (quiet g) (State.transmit_same pumped (by simpa using path))
    refine ⟨fun queue => goes _ (State.pump_empty (by simpa using queue)) rfl,
      fun waiting f rest queue needs none_left hf => goes _ ?_ rfl,
      fun f g rest queue hf hg credit => goes _ ?_ rfl,
      fun waiting queue needs none_left => goes _ (State.pump_waiting ?_ (by simpa using none_left)) rfl⟩
    · rw [State.pump_ahead (waiting := waiting) (rest := rest) (f := f) (by simp) (by simpa using queue) needs
        (by simpa using none_left) hf, State.modPress_twice]
    · rw [State.pump_more (f := f) (g := g) (rest := rest) (by simp) (by simpa using queue) hf hg (by simpa using credit),
        State.modPress_twice]
    · simpa [queue] using needs
  · intro goes next start
    have quiet (g : Press → Press) : Quiet (s.modPress p g) := by simpa using hq
    refine ⟨fun sh k d pg more hsh hk page => ⟨fun data last block => ?_, fun still inside printing block => ?_⟩,
      fun ends sides => ?_⟩
    · have stretch : (s.lastGone p f).fetch p ent next start = .chunk data last :=
        State.fetch_page hjob alone.live (by simpa [Job.pageOnSide, hsh] using hk) page block
      have fed : (s.lastGone p f).feed p = goes fun x =>
          { x with txq := dataFrames ent.seq next data last, send := .sending next (start + data.length) last } := by
        rw [State.feed_side path send more, State.feedSide_chunk stretch, State.lastGone, State.modPress_twice]
        exact State.modPress_congr (by simp)
      exact exec_transmitted running line (quiet _) (State.transmit_last queue hf credit fed (by simp [goes, path]))
    · intro t
      have failing : (s.lastGone p f).feedSide p ent next start = (s.lastGone p f).checkFailure p ent e d k pg := by
        have failed : (s.lastGone p f).fetch p ent next start = .failed e d k pg :=
          State.fetch_failed hjob alone.live (by simpa [Job.pageOnSide, hsh] using hk) page block
        rw [State.feedSide, failed]
      have fed := (State.feed_side (f := f) path send more).trans
        (failing.trans (State.checkFailure_printing path inside busy alone.live printing))
      have still' : Still (s.aborted p f older ent d pg) :=
        Still.modPress (s := s.blockFailed d pg) still p (f := fun x => { x with
          line := some f, txq := [.abort ent.seq], credits := x.credits - 1, path := older, send := .idle }) (still p)
      have quiet' : Quiet (s.aborted p f older ent d pg) := hq
      rw [exec_pressFrameTransmitted running line, State.transmit_last queue hf credit fed (by
        simpa [State.press_aborted] using inside)]
      exact congrArg Host.Outcome.next ((Settles.demand_still (by simpa using quiet') (by simpa using still')).settle (by decide))
    · intro sent advanced
      have gone : sent = s.sheetGone p f older ent := State.modPress_congr rfl
      obtain ⟨at_end, next_ready, drains⟩ := sheetSent_outcomes running hq line queue hf credit path (ends ▸ send) sides hjob
        busy alone hc
      have rests : NoStart (s.sheetGone p f older ent) p ↔
          (s.press p).credits = 1 ∨ s.low = true ∨ s.depth p ≤ (s.press p).path.length := by
        have low : (s.sheetGone p f older ent).low = s.low := rfl
        have depth : (s.sheetGone p f older ent).depth p = s.depth p := rfl
        have spent : (s.press p).credits - 1 = 0 ↔ (s.press p).credits = 1 := by omega
        simp only [NoStart, State.press_sheetGone, low, depth, path, List.length_append, List.length_singleton, ne_eq,
          not_true_eq_false, false_or, spent]
      rw [gone]
      refine ⟨at_end, fun sh printing more hsh loaded complete => ?_, drains⟩
      obtain ⟨stays, begins⟩ := next_ready sh printing more hsh loaded complete
      refine ⟨fun h => stays (rests.mpr h), fun d pg data last many low room page block =>
        begins d pg data last (fun h => ?_) page block⟩
      rcases rests.mp h with one | supply | full
      · omega
      · simp [low] at supply
      · omega
  · intro goes
    refine ⟨fun more => ?_, fun ends sides rests => ?_⟩
    · intro next start data
      have stretch : (s.lastGone p f).fetch p ent next start = .chunk data (decide (2048 ≤ start + 512)) := by
        have pattern : ((s.lastGone p f).press p).pattern = (run.long, run.started) := by simp [Press.pattern, cal]
        simp only [State.fetch, hjob, pattern]
        rfl
      have fed : (s.lastGone p f).feed p = s.modPress p fun x =>
          { x with
            line := some f, credits := x.credits - 1, txq := dataFrames ent.seq next data (decide (2048 ≤ start + 512))
            send := .sending next (start + data.length) (decide (2048 ≤ start + 512)) } := by
        rw [State.feed_side path send more, State.feedSide_chunk stretch, State.lastGone, State.modPress_twice]
        exact State.modPress_congr (by simp)
      exact exec_transmitted running line (by simpa using hq) (State.transmit_last queue hf credit fed (by simp [path]))
    · exact exec_sheetSent_pattern running hq line queue hf credit path (ends ▸ send) sides hjob cal rests
  · exact ⟨cutFrames (bytes.length / 256 + 1) bytes last, rfl, cutFrames_flatten _ bytes rfl,
      fun k b h => cutFrames_full _ bytes rfl k b h, fun ends => by
        subst ends
        exact cutFrames_last _ bytes rfl⟩

end Sys2Proof.Machine
end

section
/-! PROOF. What a step can do to the spool, said once: changes inside the part, a segment taken, the spool of a start or of
FLUSH. Each keeps the canonical form (R24, R26, R27). -/

namespace Sys2Proof.Machine

/-! ## The changes of the spool -/

/-- What a step does to the spool: damage, release and freeing of pages, the storing of a segment that JOB DATA takes
(R29 to R32), and the fresh spool of a start and of FLUSH (R39). -/
inductive SpoolChange : Spool → Spool → Prop where
  | inside {a b : Spool} (h : SpoolStep a b) : SpoolChange a b
  | stored (s : State) (e : Entry) (j : Job) (k d : Nat) (pg : Page) (begins ends : Bool) (data : List Byte)
      (page : s.segmentPage e j k begins = some (d, pg)) (room : ¬ (begins && s.spool.freeDescriptors = 0) = true) :
      SpoolChange s.spool (s.spool.storeSegment d pg data ends)
  | fresh (a : Spool) : SpoolChange a Spool.fresh
  | trans {a b c : Spool} (h : SpoolChange a b) (h' : SpoolChange b c) : SpoolChange a c

/-- Every change of the spool keeps its canonical form. -/
theorem SpoolChange.form {a b : Spool} (h : SpoolChange a b) : a.Form → b.Form := by
  induction h with
  | inside h => exact h.form
  | stored s e j k d pg begins ends data page room =>
    intro form
    obtain ⟨hd, range⟩ := State.segmentPage_range form page room
    exact form.storeSegment hd range data ends
  | fresh a => exact fun _ => Spool.fresh_form
  | trans _ _ first second => exact second ∘ first

/-- The spool of a state has come from a given one by such changes. -/
def SpoolFrom (a : Spool) (t : State) : Prop := SpoolChange a t.spool

/-- What every small change inside the part does to the spool is such a change. -/
theorem spool_local {a : Spool} : Local (SpoolFrom a) where
  press _ _ _ h := h
  record _ _ _ _ h := h
  circuit _ _ _ h := h
  meter _ _ _ _ h := h
  account _ _ _ _ _ h := h
  job _ _ _ _ h := h
  write _ _ _ _ _ _ _ h := h
  report _ _ h := h
  raise k src d s _ h := by rwa [SpoolFrom, s.raise_spool k src d]
  ended k src s h := by rwa [SpoolFrom, s.endCondition_spool k src]
  spool _ _ hsp h := SpoolChange.trans h (.inside hsp)
  sticky _ _ h := h
  agenda _ _ h := h
  demand _ _ h := h

namespace SpoolFrom

variable {a : Spool}

/-- A state with the fresh spool. -/
theorem of_fresh {t : State} (h : t.spool = Spool.fresh) : SpoolFrom a t := by
  rw [SpoolFrom, h]
  exact .fresh a

theorem settle {s : State} (h : SpoolFrom a s) : SpoolFrom a s.settle := spool_local.settle h

variable {s : State} (h : SpoolFrom a s)
include h

/-! ## Alerts and the supply -/

theorem ackAlert (n : AlertNo) : SpoolFrom a (s.ackAlert n) := by
  unfold State.ackAlert
  repeat' split
  all_goals exact h

theorem escalate (n : AlertNo) : SpoolFrom a (s.escalate n) := by
  unfold State.escalate
  repeat' split
  all_goals exact h

theorem escalateAll : SpoolFrom a s.escalateAll := Local.fold _ (fun _ n hs => hs.escalate n) _ h

theorem removeJobAlerts : SpoolFrom a s.removeJobAlerts := by
  refine Local.fold _ (fun s n hs => ?_) _ h
  repeat' split
  all_goals exact hs

theorem evalSupply : SpoolFrom a s.evalSupply := by
  have low : SpoolFrom a s.enterLow := spool_local.raise .supplyLow .part none { s with low := true } (by decide) h
  have normal : SpoolFrom a s.enterNormal := Local.fold _ (fun _ p hs => spool_local.push _ hs) _
    (spool_local.ended .supplyLow .part { s with low := false } h)
  exact Local.choose (Local.choose normal h) (Local.choose low h)

theorem takeSense (mv : Nat) : SpoolFrom a (s.takeSense mv) :=
  have sensed : SpoolFrom a { s with sense := mv } := h
  Local.choose sensed.evalSupply.settle sensed

/-! ## How a request names its subject -/

theorem withJob {hd : Handle} {f : Entry → Job → Reply × State} (hf : ∀ e j, SpoolFrom a (f e j).2) :
    SpoolFrom a (withJob hd s f).2 := by
  unfold Machine.withJob
  split
  · exact hf _ _
  · exact h

theorem withPress {b : Byte} {f : PressNo → Reply × State} (hf : ∀ p, SpoolFrom a (f p).2) :
    SpoolFrom a (withPress b s f).2 := by
  unfold Machine.withPress
  split
  · exact hf _
  · exact h

theorem withAccount {n : Nat} {f : AccountNo → Reply × State} (hf : ∀ m, SpoolFrom a (f m).2) :
    SpoolFrom a (withAccount n s f).2 := by
  unfold Machine.withAccount
  split
  · exact hf _
  · exact h

/-! ## The requests of the spool: JOB DATA and FLUSH -/

theorem pageCompleted (e : Entry) (was : Bool) : SpoolFrom a (s.pageCompleted e was) := by
  have offered : SpoolFrom a (if s.eligible e && !was then (s.push (.decideJob e)).wantDemand else s) := Local.choose h h
  unfold State.pageCompleted
  dsimp only
  split
  · exact spool_local.push _ (spool_local.leaveStarved offered)
  · exact spool_local.leaveStarved offered

omit h in
theorem takeSegment {e : Entry} {d : Nat} {pg : Page} {data : List Byte} {ends : Bool}
    (stored : SpoolChange a (s.spool.storeSegment d pg data ends)) : SpoolFrom a (s.takeSegment e d pg data ends) := by
  have written : SpoolFrom a (({ s with spool := s.spool.storeSegment d pg data ends } : State).modJob e fun j =>
    { j with received := j.received + 1 }) := stored
  exact Local.choose (written.pageCompleted e _).settle stored

theorem reqJobData (hd : Handle) (k : BitVec 16) (f : Byte) (b : List Byte) : SpoolFrom a (reqJobData hd k f b s).2 := by
  unfold Machine.reqJobData
  split
  · exact h
  · refine h.withJob fun e j => ?_
    split
    · exact h
    · split
      · exact h
      · split
        · exact h
        · rename_i d pg page
          split
          · exact h
          · split
            · exact h
            · rename_i room
              refine takeSegment (.trans h (.stored s e j _ d pg _ _ b page fun full => room ?_))
              rw [full, Bool.true_or]

theorem flushPath (p : PressNo) (b : Bool) : SpoolFrom a (s.flushPath p b) := by
  have emptied : SpoolFrom a (s.modPress p fun x => { x with txq := x.dropSheetFrames.txq, path := [], send := .idle }) := h
  exact Local.choose h (Local.choose (spool_local.give _ emptied) emptied)

theorem flushPress (p : PressNo) : SpoolFrom a (s.flushPress p) := by
  have unmarked : SpoolFrom a (s.modPress p fun x => { x with resumeMark := false }) := h
  unfold State.flushPress
  dsimp only
  split
  · exact spool_local.enterIdle unmarked
  · exact spool_local.enterIdle (spool_local.ended _ _ _ unmarked)
  · exact spool_local.enterIdle unmarked
  · exact unmarked

omit h in
/-- FLUSH begins with the fresh spool (R39, R178). -/
theorem flush (s : State) : SpoolFrom a s.flush := by
  unfold State.flush
  dsimp only
  exact settle (spool_local.wantDemand
    (Local.fold _ (fun _ p hs => hs.flushPress p) _ (Local.fold _ (fun _ p hs => hs.flushPath p _) _
      (removeJobAlerts (of_fresh rfl)))))

omit h in
theorem reqFlush (s : State) : SpoolFrom a (reqFlush s).2 := by
  unfold Machine.reqFlush
  dsimp only
  exact flush s

/-! ## The requests of the jobs and the accounts -/

theorem reqJobOpen (x t c n : Byte) : SpoolFrom a (reqJobOpen x t c n s).2 := by
  unfold Machine.reqJobOpen
  repeat' split
  all_goals exact h

theorem reqJobRuns (hd : Handle) (d : BitVec 16) (rs : List RunSpec) : SpoolFrom a (reqJobRuns hd d rs s).2 := by
  unfold Machine.reqJobRuns
  split
  · exact h
  · refine h.withJob fun e j => ?_
    repeat' split
    all_goals exact h

theorem quoteJob (e : Entry) (j : Job) : SpoolFrom a (s.quoteJob e j) := by
  unfold State.quoteJob
  dsimp only
  refine Local.choose (spool_local.raise _ _ _ _ (by decide) ?_) ?_ <;> split <;> exact h

theorem offerCredit (e : Entry) : SpoolFrom a (s.offerCredit e) := by
  unfold State.offerCredit
  split
  · exact h
  · rename_i j hj
    dsimp only
    split
    · exact spool_local.enterAdmitted (spool_local.reserve _ hj h)
    · exact spool_local.raise _ _ _ _ (by decide) h

theorem reqJobCommit (hd : Handle) : SpoolFrom a (reqJobCommit hd s).2 := by
  unfold Machine.reqJobCommit
  refine h.withJob fun e j => ?_
  split
  · exact h
  · dsimp only
    split <;> exact ((h.quoteJob e j).offerCredit e).settle

theorem reqJobHold (hd : Handle) : SpoolFrom a (reqJobHold hd s).2 := by
  unfold Machine.reqJobHold
  refine h.withJob fun e j => ?_
  have held : SpoolFrom a (s.setHostHold e true) := h
  cases j.state with
  | queued t => exact settle (spool_local.moveJob _ held)
  | starved => exact settle (spool_local.ended _ _ _ (spool_local.moveJob _ held))
  | printing p => exact settle (spool_local.startDrain _ held)
  | _ => exact h

theorem reqJobRelease (hd : Handle) : SpoolFrom a (reqJobRelease hd s).2 := by
  unfold Machine.reqJobRelease
  refine h.withJob fun e j => ?_
  have unheld : SpoolFrom a (s.modJob e Job.unheld) := h
  split
  · exact settle (spool_local.enterQueued unheld)
  · exact h
  · exact h

theorem cancelJob {e : Entry} {j : Job} {t : State} (ht : s.cancelJob e j = some t) : SpoolFrom a t := by
  unfold State.cancelJob at ht
  split at ht <;> cases ht
  case h_7 => exact settle (spool_local.startDrain _ h)
  case h_8 => exact h
  all_goals exact settle (spool_local.finishJob _ h)

theorem reqJobCancel (hd : Handle) : SpoolFrom a (reqJobCancel hd s).2 := by
  unfold Machine.reqJobCancel
  refine h.withJob fun e j => ?_
  split
  · exact h
  · exact h.cancelJob ‹_›

theorem reqAccountSet (n : Nat) (st : Byte) (l : BitVec 32) : SpoolFrom a (reqAccountSet n st l s).2 := by
  unfold Machine.reqAccountSet
  refine h.withAccount fun n => ?_
  split
  · exact h
  · dsimp only
    split
    · exact h
    · refine settle ?_
      split
      · exact spool_local.recheck (s := s.modAccount n _) n h
      · exact h

theorem reqAccountAdjust (n : Nat) (x : BitVec 32) : SpoolFrom a (reqAccountAdjust n x s).2 := by
  unfold Machine.reqAccountAdjust
  refine h.withAccount fun n => ?_
  dsimp only
  split
  · exact h
  · split
    · exact h
    · split
      · exact h
      · refine settle ?_
        split
        · exact spool_local.recheck (s := s.modAccount n _) n h
        · exact h

theorem reqMeterRead (p c : Byte) : SpoolFrom a (reqMeterRead p c s).2 := by
  refine h.withPress fun p => ?_
  split
  · exact h
  · split
    · exact h
    · exact Local.choose (P := SpoolFrom a) h h

theorem reqPriceWrite (g f : Byte) (v : List Nat) : SpoolFrom a (reqPriceWrite g f v s).2 := by
  unfold Machine.reqPriceWrite
  split <;> exact h

theorem reqPriceCommit : SpoolFrom a (reqPriceCommit s).2 := by
  unfold Machine.reqPriceCommit
  split <;> exact h

theorem reqPriceRead (r : Byte) : SpoolFrom a (reqPriceRead r s).2 := by
  unfold Machine.reqPriceRead
  dsimp only
  repeat' split
  all_goals exact h

/-! ## The requests of the presses -/

theorem moveQueue (p : PressNo) (old new : CircuitNo) : SpoolFrom a (s.moveQueue p old new) := by
  unfold State.moveQueue
  split
  · exact h
  · split
    · exact spool_local.joinQueue _ (spool_local.leaveQueue _ h)
    · exact h

theorem poolChanged (p : PressNo) : SpoolFrom a (s.poolChanged p) := by
  unfold State.poolChanged
  dsimp only
  split <;> exact h

theorem holdPool (p : PressNo) : SpoolFrom a (s.holdPool p) := by
  unfold State.holdPool
  split <;> exact h

/-- What new settings of a press do at once: the idle timer, a deferred sleep, a change of pool (R79, R102, R109). -/
theorem resettled (p : PressNo) (c : Prop) [Decidable c] :
    SpoolFrom a (if c then (s.expireIdle p).trySleep p else ((s.expireIdle p).trySleep p).poolChanged p) := by
  have slept := spool_local.trySleep (p := p) (spool_local.expireIdle (p := p) h)
  exact Local.choose slept (slept.poolChanged p)

theorem setPress (p : PressNo) (pool : Option PoolNo) (c : CircuitNo) (f : PressSpec) :
    SpoolFrom a (s.setPress p pool c f) := by
  have held : SpoolFrom a ((if (s.pressRec p).pool = pool then s else s.holdPool p).modRec p (PressRec.set pool c f)) :=
    Local.choose (P := SpoolFrom a) h (h.holdPool p)
  exact (held.moveQueue p _ c).resettled p _

theorem reqPressSet (p : Byte) (f : PressSpec) : SpoolFrom a (reqPressSet p f s).2 := by
  refine h.withPress fun p => ?_
  split
  · split
    · exact h
    · split
      · exact h
      · exact (h.setPress _ _ _ _).settle
  · exact h

theorem reqPressRead (p : Byte) : SpoolFrom a (reqPressRead p s).2 := by
  refine h.withPress fun p => ?_
  split <;> exact h

theorem wakePress {p : PressNo} {t : State} (ht : s.wakePress p = some t) : SpoolFrom a t := by
  unfold State.wakePress at ht
  split at ht <;> cases ht
  · exact settle (spool_local.requestWake _ h)
  · exact h
  · exact spool_local.keepAwake h

theorem reqPressWake (p : Byte) : SpoolFrom a (reqPressWake p s).2 := by
  refine h.withPress fun p => ?_
  split
  · exact h
  · split
    · exact h.wakePress ‹_›
    · exact h

theorem sleepPress {p : PressNo} {t : State} (ht : s.sleepPress p = some t) : SpoolFrom a t := by
  unfold State.sleepPress at ht
  split at ht
  · obtain rfl := Option.some.inj ht
    exact settle (spool_local.setSleepPending h)
  · obtain rfl := Option.some.inj ht
    exact settle (spool_local.withdraw h)
  · obtain rfl := Option.some.inj ht
    exact h
  · obtain rfl := Option.some.inj ht
    exact h
  · cases ht

theorem reqPressSleep (p : Byte) : SpoolFrom a (reqPressSleep p s).2 := by
  refine h.withPress fun p => ?_
  split
  · exact h
  · split
    · exact h.sleepPress ‹_›
    · exact h

theorem reqPressCalibrate (p k : Byte) : SpoolFrom a (reqPressCalibrate p k s).2 := by
  refine h.withPress fun p => ?_
  split
  · exact h
  · split
    · exact h
    · have due : SpoolFrom a (s.modRec p (PressRec.setDue (k == 1))) := h
      exact Local.choose (settle (spool_local.enterCalibrating due)) due

theorem reqPressResume (p : Byte) : SpoolFrom a (reqPressResume p s).2 := by
  refine h.withPress fun p => ?_
  split
  · exact h
  · split
    · exact settle (spool_local.enterIdle h)
    · exact h

theorem reqPressRestart (p : Byte) : SpoolFrom a (reqPressRestart p s).2 := by
  refine h.withPress fun p => ?_
  split
  · exact h
  · exact settle (spool_local.restartLink h)

/-! ## The requests of the whole part -/

theorem reqCircuitSet (c w : Byte) (tw : BitVec 16) (ts : Byte) : SpoolFrom a (reqCircuitSet c w tw ts s).2 := by
  unfold Machine.reqCircuitSet
  split
  · exact h
  · exact settle (spool_local.grantCheck _ h)

theorem reqScheduleSet (f : ScheduleSpec) : SpoolFrom a (reqScheduleSet f s).2 := by
  unfold Machine.reqScheduleSet
  split
  · exact h
  · rename_i m _
    have stored : SpoolFrom a { s with ret := { s.ret with schedule := scheduleOf m f } } := h
    dsimp only
    exact stored.escalateAll.evalSupply.settle

theorem reqFilterSet (n : Byte) (f : FilterSpec) : SpoolFrom a (reqFilterSet n f s).2 := by
  unfold Machine.reqFilterSet
  repeat' split
  all_goals exact h

theorem reqFilterRead (n : Byte) : SpoolFrom a (reqFilterRead n s).2 := by
  unfold Machine.reqFilterRead
  split <;> exact h

theorem reqAlertLevels (v : List Byte) : SpoolFrom a (reqAlertLevels v s).2 := by
  unfold Machine.reqAlertLevels
  repeat' split
  all_goals exact h

theorem reqAlertAck (n k st : Byte) (src : BitVec 32) : SpoolFrom a (reqAlertAck n k st src s).2 := by
  unfold Machine.reqAlertAck
  split
  · exact h
  · split
    · dsimp only
      exact Local.fold _ (fun _ n hs => hs.ackAlert n) _ h
    · split
      · split
        · exact h
        · split
          · exact h.ackAlert _
          · exact h
      · exact h

theorem reqStatus (c : Byte) : SpoolFrom a (reqStatus c s).2 := by
  unfold Machine.reqStatus
  split
  · exact h
  · exact Local.choose (P := SpoolFrom a) h h

theorem clearRetained : SpoolFrom a s.clearRetained := by
  have gathered : SpoolFrom a ({ s with ret := s.ret.cleared } : State).gatherQueues :=
    Local.fold _ (fun _ c hs => spool_local.grantCheck c hs) _ h
  have pressed : SpoolFrom a (allPresses.foldl
      (fun t p => t.clearedPress p (s.ret.presses.map (·.pool))[p]) ({ s with ret := s.ret.cleared } : State).gatherQueues) :=
    Local.fold _ (fun _ p hs => hs.resettled p _) _ gathered
  exact settle (spool_local.wantDemand pressed.escalateAll.evalSupply)

theorem reqRetainedClear : SpoolFrom a (reqRetainedClear s).2 := by
  unfold Machine.reqRetainedClear
  split
  · exact h
  · dsimp only
    exact h.clearRetained

/-- Every request changes the spool by such changes. -/
theorem performRequest (r : Request) : SpoolFrom a (performRequest r s).2 := by
  cases r with
  | jobOpen x t c n => exact h.reqJobOpen x t c n
  | jobRuns hd d rs => exact h.reqJobRuns hd d rs
  | jobData hd k f b => exact h.reqJobData hd k f b
  | jobCommit hd => exact h.reqJobCommit hd
  | jobHold hd => exact h.reqJobHold hd
  | jobRelease hd => exact h.reqJobRelease hd
  | jobCancel hd => exact h.reqJobCancel hd
  | jobStatus hd => exact h.withJob fun _ _ => h
  | accountSet n st l => exact h.reqAccountSet n st l
  | accountAdjust n x => exact h.reqAccountAdjust n x
  | accountRead n => exact h.withAccount fun _ => h
  | priceWrite g f v => exact h.reqPriceWrite g f v
  | priceCommit => exact h.reqPriceCommit
  | priceRead r => exact h.reqPriceRead r
  | pressSet p f => exact h.reqPressSet p f
  | pressRead p => exact h.reqPressRead p
  | pressWake p => exact h.reqPressWake p
  | pressSleep p => exact h.reqPressSleep p
  | pressCalibrate p k => exact h.reqPressCalibrate p k
  | pressResume p => exact h.reqPressResume p
  | pressRestart p => exact h.reqPressRestart p
  | circuitSet c w tw ts => exact h.reqCircuitSet c w tw ts
  | scheduleSet f => exact h.reqScheduleSet f
  | filterSet n f => exact h.reqFilterSet n f
  | filterRead n => exact h.reqFilterRead n
  | alertLevels v => exact h.reqAlertLevels v
  | alertAck n k st src => exact h.reqAlertAck n k st src
  | meterRead p c => exact h.reqMeterRead p c
  | status c => exact h.reqStatus c
  | flush => exact reqFlush s
  | retainedClear => exact h.reqRetainedClear
  | alertList | restart | unknown | badLength => exact h

/-! ## The host line -/

theorem execute (q : Queued) : SpoolFrom a (s.execute q) := h.performRequest q.req

theorem arrive (q : Queued) : SpoolFrom a (s.arrive q) := Local.choose (h.execute q) (Local.choose (P := SpoolFrom a) h h)

theorem serve : SpoolFrom a s.serve := by
  unfold State.serve
  split
  · rename_i q rest _
    exact Local.choose (execute (s := { s with intake := rest }) h q) h
  · exact h

theorem feedByte (b : Byte) : SpoolFrom a (s.feedByte b) := by
  have hunting : SpoolFrom a { s with framer := { s.framer with bytes := none } } := h
  unfold State.feedByte
  split
  · exact h
  · split
    · split <;> exact h
    · dsimp only
      exact Local.choose (P := SpoolFrom a) h (Local.choose (P := SpoolFrom a) (Local.choose (hunting.arrive _) hunting) h)

theorem takeBytes (bytes : List Byte) : SpoolFrom a (s.takeBytes bytes) :=
  Local.fold _ (fun _ b hs => hs.feedByte b) _ h

theorem freeEntry (e : Entry) (n : Serial) : SpoolFrom a (s.freeEntry e n) := by
  have freed : SpoolFrom a (s.setJob e none) := h
  unfold State.freeEntry
  split
  · exact Local.choose (settle (spool_local.wantDemand (spool_local.ended _ _ _ (spool_local.ended _ _ _ freed)))) h
  · exact h

theorem endReport : SpoolFrom a s.endReport := by
  have done : SpoolFrom a { s with txReport := none } := h
  unfold State.endReport
  split
  · dsimp only
    split
    · exact done.freeEntry _ _
    · exact h
  · exact h

theorem beginReport : SpoolFrom a s.beginReport := by
  unfold State.beginReport
  split <;> exact h

omit h in
/-- The end of all working state leaves the fresh spool (R39, R175). -/
theorem dropWorking (ph : Phase) (s : State) : SpoolFrom a (s.dropWorking ph) := of_fresh rfl

theorem endReply : SpoolFrom a s.endReply := by
  have done : SpoolFrom a { s with slot := none } := h
  unfold State.endReply
  split
  · exact Local.choose (dropWorking _ s) done.serve
  · exact h

/-! ## Timers, the panel, starts -/

theorem endWindow (p : PressNo) : SpoolFrom a (s.endWindow p) := by
  have ended : SpoolFrom a (((s.modPress p fun x => { x with restart := none }).mark (.press p)).wantDemand) := h
  exact Local.choose (settle (Local.choose ended (spool_local.raise _ _ _ _ (by decide) ended))) h

theorem starveOut (e : Entry) : SpoolFrom a (s.starveOut e) := by
  unfold State.starveOut
  split
  · exact settle (spool_local.startDrain _ h)
  · exact h

theorem buttonPress : SpoolFrom a s.buttonPress := by
  have pressed : SpoolFrom a { s with buttonArmed := false } := h
  unfold State.buttonPress
  split
  · dsimp only
    split
    · exact pressed.ackAlert _
    · exact h
  · exact h

theorem tick : SpoolFrom a s.tick := Local.choose (P := SpoolFrom a) h h

omit h in
/-- A start of the part leaves the fresh spool (R39, R176). -/
theorem startPart (c : ResetCause) (b1 b0 : Bool) (mv : Nat) (s : State) : SpoolFrom a (s.startPart c b1 b0 mv) := by
  rw [State.startPart_eq]
  exact Local.choose (of_fresh rfl) (spool_local.raise _ _ _ _ (by decide) (of_fresh rfl))

/-! ## The step -/

/-- Every command changes the spool by such changes. -/
theorem exec {t : State} (c : Instr) (ht : Machine.exec c s = .next t) : SpoolFrom a t := by
  cases hq : requestRow c with
  | some q => exact whenRunning_keeps ((exec_request hq s).symm.trans ht) (fun h => h.arrive q) h
  | none =>
    cases hp : pressRow c with
    | some x => exact whenRunning_keeps ((exec_pressRow hp s).symm.trans ht) (fun h => spool_local.takeFrame _ h) h
    | none =>
      cases c with
      | hostFrameReceived bytes => exact whenRunning_keeps ht (fun h => h.takeBytes bytes) h
      | hostFrameDiscarded bytes err =>
        cases ht
        exact Local.choose (Local.choose (P := SpoolFrom a) (h.takeBytes bytes) (h.takeBytes bytes)) h
      | interByteGapTimeout late =>
        cases ht
        exact Local.choose (takeBytes (s := s.dropFrame) h late.toList) h
      | lineBreak =>
        cases ht
        exact Local.choose (P := SpoolFrom a) h h
      | lineReturnToMark =>
        cases ht
        exact Local.choose (P := SpoolFrom a) h h
      | replyTransmitted => exact whenRunning_keeps ht (fun h => h.endReply) h
      | reportTransmissionBegin => exact whenRunning_keeps ht (fun h => h.beginReport) h
      | reportTransmitted => exact whenRunning_keeps ht (fun h => h.endReport) h
      | unactedPressFrame p k b => exact whenRunning_keeps ht (fun h => spool_local.takeFrame _ h) h
      | pressFrameDiscarded p bytes err =>
        cases ht
        have fed := spool_local.feedPressBytes (p := p) bytes h
        exact Local.choose (Local.choose (P := SpoolFrom a) fed fed) h
      | pressFrameTransmitted p => exact whenRunning_keeps ht (fun h => spool_local.frameDone h) h
      | heartbeatExpiry p =>
        exact whenRunning_keeps ht (fun h => Local.choose (settle (spool_local.linkDown _ h)) h) h
      | restartSignalEnd p => exact whenRunning_keeps ht (fun h => Local.choose (P := SpoolFrom a) h h) h
      | restartWindowExpiry p => exact whenRunning_keeps ht (fun h => h.endWindow p) h
      | wakeTimeout p =>
        exact whenRunning_keeps ht (fun h => Local.choose
          (settle (spool_local.raise _ _ _ _ (by decide) (spool_local.enter _ h))) h) h
      | calibrationTimeout p =>
        exact whenRunning_keeps ht (fun h => Local.choose (settle (spool_local.failRun h)) h) h
      | starveExpiry e => exact whenRunning_keeps ht (fun h => h.starveOut e) h
      | idleTimerExpiry p =>
        cases ht
        exact Local.choose (settle (spool_local.expireIdle h)) h
      | sleepPointReached p =>
        cases ht
        exact Local.choose (settle (spool_local.trySleep h)) h
      | nextGrantTime k =>
        cases ht
        exact Local.choose (settle (spool_local.grantCheck k h)) h
      | escalation n => exact whenRunning_keeps ht (fun h => h.escalate n) h
      | ackButtonPress => exact whenRunning_keeps ht (fun h => h.buttonPress) h
      | supplyFall mv =>
        cases ht
        exact Local.choose (h.takeSense mv) h
      | supplyRise mv =>
        cases ht
        exact Local.choose (h.takeSense mv) h
      | mainSupplyLoss =>
        cases ht
        exact dropWorking _ _
      | supplyStart =>
        cases ht
        exact Local.choose (P := SpoolFrom a) h h
      | resetInputAssert =>
        cases ht
        split
        · exact dropWorking _ _
        · exact h
        · exact h
      | resetInputRelease =>
        cases ht
        split <;> exact h
      | startOfPart b1 b0 mv =>
        cases ht
        split
        · exact startPart _ _ _ _ _
        · exact h
      | backupCellLoss =>
        cases ht
        exact h
      | ackButtonRelease =>
        cases ht
        exact h
      | _ => simp [requestRow, pressRow] at hq hp

end SpoolFrom

/-- What a step does to the spool: nothing, or a row of such changes. -/
theorem step_spool {s t : State} (ht : step s = .next t) : SpoolChange s.spool t.spool := by
  have start : SpoolFrom s.spool s := .inside (.refl _)
  unfold step at ht
  split at ht
  · cases ht
    exact start.tick
  · rename_i c rest _
    exact SpoolFrom.exec (s := { s with pending := rest }) start c ht

/-- Settles O8: each change that a step makes to the spool keeps the canonical form. -/
theorem spoolInvariant : Obligations.SpoolInvariant := fun _ _ ht h =>
  Spool.wf_iff.mpr ((step_spool ht).form (Spool.wf_iff.mp h))

end Sys2Proof.Machine
end

section
/-! PROOF. The checks of JOB DATA in their order (R28). -/

namespace Sys2Proof.Machine

/-! ## The page of a segment (R28 check 4) -/

/-- A segment is in page order with BEGIN for the page due next, else for the page that is FILLING. -/
theorem State.segmentPage_isSome (s : State) (e : Entry) (j : Job) (page : Nat) (begins : Bool) :
    (s.segmentPage e j page begins).isSome =
      if begins then j.runs.isSome && (s.spool.filling e).isNone && j.received < j.pageCount && page = j.received
      else (s.spool.filling e).any fun x => x.2.number == page := by
  unfold State.segmentPage
  cases begins with
  | true =>
    rw [if_pos rfl, if_pos rfl]
    split <;> simp_all
  | false =>
    cases s.spool.filling e with
    | none => rfl
    | some x => by_cases number : x.2.number = page <;> simp [number]

/-- The page that BEGIN opens is empty (R29). -/
theorem State.segmentPage_begin {s : State} {e : Entry} {j : Job} {page d : Nat} {pg : Page}
    (h : s.segmentPage e j page true = some (d, pg)) : pg.byteLen = 0 ∧ s.spool.room pg = 0 := by
  rw [State.segmentPage, if_pos rfl] at h
  split at h
  · cases h
    exact ⟨rfl, rfl⟩
  · cases h

theorem State.segmentPage_filling {s : State} {e : Entry} {j : Job} {page d : Nat} {pg : Page}
    (h : s.segmentPage e j page false = some (d, pg)) : s.spool.filling e = some (d, pg) := by
  unfold State.segmentPage at h
  cases hf : s.spool.filling e with
  | none => simp [hf] at h
  | some x => simp_all

/-! ## What is answered (R28) -/

section Checks

variable {s : State} {h : Handle} {page : BitVec 16} {flags : Byte} {data : List Byte} {e : Entry} {j : Job}
  (length : data.length ≤ 1024) (hn : Names s h e j)
include length hn

theorem reqJobData_undefined (undefined : 3 < flags.toNat) : reqJobData h page flags data s = refuse .field s := by
  rw [reqJobData, if_neg (by simpa [Config.maxSegment] using length), withJob_names hn, if_pos undefined]

variable (defined : flags.toNat ≤ 3)
include defined

theorem reqJobData_state (ended : j.state.takesData = false) : reqJobData h page flags data s = refuse .state s := by
  rw [reqJobData, if_neg (by simpa [Config.maxSegment] using length), withJob_names hn, if_neg (by omega),
    if_pos (by simp [ended])]

variable (takes : j.state.takesData = true)
include takes

theorem reqJobData_outOfOrder (order : s.segmentPage e j page.toNat (flags.getLsbD 0) = none) :
    (reqJobData h page flags data s).1.code = .sequence := by
  rw [reqJobData, if_neg (by simpa [Config.maxSegment] using length), withJob_names hn, if_neg (by omega),
    if_neg (by simp [takes]), isBegin, order]
  rfl

/-- A segment in page order: the size of its page, then the room in the spool (R31). -/
theorem reqJobData_inOrder {d : Nat} {pg : Page}
    (order : s.segmentPage e j page.toNat (flags.getLsbD 0) = some (d, pg)) :
    (reqJobData h page flags data s).1.code =
      if 4194304 < pg.byteLen + data.length then .length
      else if (flags.getLsbD 0 = true ∧ s.spool.freeDescriptors = 0) ∨
          s.spool.freeBlocks < blocksNeeded data.length (s.spool.room pg) then .spoolFull
      else .ok := by
  rw [reqJobData, if_neg (by simpa [Config.maxSegment] using length), withJob_names hn, if_neg (by omega),
    if_neg (by simp [takes]), isBegin, order]
  simp only [apply_ite (fun x : Reply × State => x.1.code), Bool.or_eq_true, Bool.and_eq_true, decide_eq_true_eq]
  rfl

end Checks

/-- Settles O20: check after check; the fourth finds the page whose length and room the later ones look at. -/
theorem jobDataChecks : Obligations.JobDataChecks := by
  intro s h page flags data
  refine ⟨fun long => ?_, fun length none => ?_, fun e j length hn undefined => ?_, ?_⟩
  · rw [reqJobData, if_pos (by simpa [Config.maxSegment] using long)]
    rfl
  · rw [reqJobData, if_neg (by simpa [Config.maxSegment] using length), withJob, none]
    rfl
  · rw [reqJobData_undefined length hn undefined]
    rfl
  intro e j length hn defined fits byteLen room blocks
  have order : fits = (s.segmentPage e j page.toNat (flags.getLsbD 0)).isSome := (State.segmentPage_isSome ..).symm
  have later (takes : j.state.takesData = true) : (reqJobData h page flags data s).1.code =
      if fits = false then .sequence
      else if 4194304 < byteLen + data.length then .length
      else if (flags.getLsbD 0 = true ∧ s.spool.freeDescriptors = 0) ∨ s.spool.freeBlocks < blocks then .spoolFull
      else .ok := by
    cases hp : s.segmentPage e j page.toNat (flags.getLsbD 0) with
    | none => rw [reqJobData_outOfOrder length hn defined takes hp, if_pos (by rw [order, hp]; rfl)]
    | some x =>
      obtain ⟨d, pg⟩ := x
      have figures : byteLen = pg.byteLen ∧ room = s.spool.room pg := by
        cases hb : flags.getLsbD 0 with
        | true =>
          obtain ⟨empty, full⟩ := State.segmentPage_begin (hb ▸ hp)
          simp only [byteLen, room, hb, empty, full, if_true, and_self]
        | false =>
          have filling := State.segmentPage_filling (hb ▸ hp)
          simp only [byteLen, room, hb, filling, Bool.false_eq_true, if_false, Option.map_some, Option.getD_some, and_self]
      rw [reqJobData_inOrder length hn defined takes hp, if_neg (c := fits = false) (by rw [order, hp]; simp), figures.1,
        ← figures.2]
      rfl
  split
  · rw [reqJobData_state length hn defined (by simp [*, JobState.takesData])]
    rfl
  · rw [reqJobData_state length hn defined (by simp [*, JobState.takesData])]
    rfl
  · rename_i nfault nfin
    exact later (JobState.takesData_iff.mpr ⟨nfault, nfin⟩)

end Sys2Proof.Machine
end

section
/-! PROOF. Each page of a run list is carried by one sheet of a copy (R36, R42). -/

namespace Sys2Proof.Machine

/-! ## The sheets of one run -/

/-- The index, within its run, of the sheet that carries the run's page `k` (R42). -/
def Run.sheetOfPage (r : Run) (k : Nat) : Nat := if r.duplex then k / 2 else k

theorem Run.sheetOfPage_lt {r : Run} {k : Nat} (h : k < r.pages) : r.sheetOfPage k < r.sheets := by
  unfold Run.sheetOfPage Run.sheets
  split <;> omega

/-- A sheet of a run carries the pages whose sheet it is, and no other (R42). -/
theorem Run.mem_sheet_pages {r : Run} {f i k : Nat} (hi : i < r.sheets) :
    k ∈ (r.sheet f i).pages ↔ ∃ m < r.pages, k = f + m ∧ r.sheetOfPage m = i := by
  unfold Run.sheets at hi
  unfold Run.sheet Run.sheetOfPage Sheet.pages
  cases hd : r.duplex with
  | true =>
    simp only [hd, if_true] at hi ⊢
    by_cases second : 2 * i + 1 < r.pages
    · simp only [second, if_true, Option.toList_some, List.mem_cons, List.not_mem_nil, or_false]
      exact ⟨fun h => ⟨k - f, by omega, by omega, by omega⟩, fun ⟨m, hm, hk, hs⟩ => by omega⟩
    · simp only [second, if_false, Option.toList_none, List.mem_cons, List.not_mem_nil, or_false]
      exact ⟨fun h => ⟨k - f, by omega, by omega, by omega⟩, fun ⟨m, hm, hk, hs⟩ => by omega⟩
  | false =>
    simp only [hd, Bool.false_eq_true, if_false, Option.toList_none, List.mem_cons, List.not_mem_nil, or_false] at hi ⊢
    exact ⟨fun h => ⟨k - f, by omega, by omega, by omega⟩, fun ⟨m, hm, hk, hs⟩ => by omega⟩

/-- No sheet carries a page twice. -/
theorem Run.sheet_pages_nodup (r : Run) (f i : Nat) : (r.sheet f i).pages.Nodup := by
  unfold Run.sheet Sheet.pages
  split
  · dsimp only
    split <;> simp
  · simp

/-! ## The sheets of a run list -/

/-- A sheet of a run list carries pages of the list alone. -/
theorem sheetAt_pages {runs : List Run} {f i k : Nat} {sh : Sheet} (h : sheetAt runs f i = some sh) (hk : k ∈ sh.pages) :
    f ≤ k ∧ k < f + pagesOf runs := by
  induction runs generalizing f i with
  | nil => cases h
  | cons r rs ih =>
    simp only [pagesOf, List.map_cons, List.sum_cons] at ih ⊢
    rw [sheetAt] at h
    split at h
    · rename_i hi
      cases h
      obtain ⟨m, hm, rfl, -⟩ := (Run.mem_sheet_pages hi).mp hk
      omega
    · have := ih h
      omega

theorem sheetAt_pages_nodup {runs : List Run} {f i : Nat} {sh : Sheet} (h : sheetAt runs f i = some sh) :
    sh.pages.Nodup := by
  induction runs generalizing f i with
  | nil => cases h
  | cons r rs ih =>
    rw [sheetAt] at h
    split at h
    · cases h
      exact r.sheet_pages_nodup f i
    · exact ih h

/-- Each page of a run list stands on a sheet. -/
theorem sheetAt_exists {runs : List Run} {f k : Nat} (hf : f ≤ k) (hk : k < f + pagesOf runs) :
    ∃ i sh, sheetAt runs f i = some sh ∧ k ∈ sh.pages := by
  induction runs generalizing f with
  | nil => simp [pagesOf] at hk; omega
  | cons r rs ih =>
    simp only [pagesOf, List.map_cons, List.sum_cons] at ih hk
    by_cases here : k < f + r.pages
    · have hi := Run.sheetOfPage_lt (r := r) (k := k - f) (by omega)
      exact ⟨_, _, by rw [sheetAt, if_pos hi], (Run.mem_sheet_pages hi).mpr ⟨k - f, by omega, by omega, rfl⟩⟩
    · obtain ⟨i, sh, hsh, mem⟩ := ih (f := f + r.pages) (by omega) (by omega)
      exact ⟨r.sheets + i, sh, by rw [sheetAt, if_neg (by omega), Nat.add_sub_cancel_left]; exact hsh, mem⟩

/-- Two sheets that carry one page are one sheet: a page is in one run, and there on the sheet of its number. -/
theorem sheetAt_unique {runs : List Run} {f i i' k : Nat} {sh sh' : Sheet} (h : sheetAt runs f i = some sh)
    (h' : sheetAt runs f i' = some sh') (hk : k ∈ sh.pages) (hk' : k ∈ sh'.pages) : i' = i := by
  induction runs generalizing f i i' with
  | nil => cases h
  | cons r rs ih =>
    rw [sheetAt] at h h'
    split at h <;> split at h'
    · rename_i hi hi'
      cases h
      cases h'
      obtain ⟨m, -, rfl, rfl⟩ := (Run.mem_sheet_pages hi).mp hk
      obtain ⟨m', -, same, rfl⟩ := (Run.mem_sheet_pages hi').mp hk'
      rw [Nat.add_left_cancel same]
    · rename_i hi _
      cases h
      obtain ⟨m, hm, rfl, -⟩ := (Run.mem_sheet_pages hi).mp hk
      have := sheetAt_pages h' hk'
      omega
    · rename_i _ hi'
      cases h'
      obtain ⟨m, hm, rfl, -⟩ := (Run.mem_sheet_pages hi').mp hk'
      have := sheetAt_pages h hk
      omega
    · have := ih h h'
      omega

/-- Settles O59: the page's sheet exists, carries it once, and is the only one. -/
theorem pagesCarriedOnce : Obligations.PagesCarriedOnce := by
  intro runs k hk
  obtain ⟨i, sh, hsh, mem⟩ := sheetAt_exists (Nat.zero_le k) (runs := runs) (by simpa [pagesOf] using hk)
  exact ⟨i, sh, hsh, mem, List.count_eq_one_of_mem (sheetAt_pages_nodup hsh) mem, fun i' sh' h' mem' =>
    sheetAt_unique hsh h' mem mem'⟩

end Sys2Proof.Machine
end

section
/-! SUPPORT. What each operation of the spool leaves in its blocks, its free list and its descriptors, and the chain of a page
by its links (R24, R26, R27). -/

namespace Sys2Proof.Machine

/-! ## One write, one removal -/

theorem lookup_sput {α : Type} (k n : Nat) (v : α) (m : List (Nat × α)) :
    (sput k v m).lookup n = if n = k then some v else m.lookup n := by
  split
  · rename_i h
    subst h
    exact lookup_sput_self
  · exact lookup_sput_other ‹_›

theorem lookup_sdel {α : Type} (k n : Nat) (m : List (Nat × α)) :
    (sdel k m).lookup n = if n = k then none else m.lookup n := by
  split
  · rename_i h
    subst h
    exact lookup_sdel_self
  · exact lookup_sdel_other ‹_›

/-- A number names one record of a table in its form. -/
theorem ssorted_unique {α : Type} {bound : Nat} {m : List (Nat × α)} (h : ssorted bound m = true) {x y : Nat × α}
    (hx : x ∈ m) (hy : y ∈ m) (same : x.1 = y.1) : x = y := by
  have keys : (m.map (·.1)).Nodup := List.pairwise_map.mpr ((ssorted_iff.mp h).1.imp Nat.ne_of_lt)
  exact List.inj_on_of_nodup_map keys hx hy same

/-- A search finds what it found before in what a filter keeps, if that is kept. -/
theorem find?_filter_kept {α : Type} {p q : α → Bool} {l : List α} {x : α} (h : l.find? p = some x) (kept : q x = true) :
    (l.filter q).find? p = some x := by
  induction l with
  | nil => cases h
  | cons y l ih =>
    rw [List.find?_cons] at h
    cases hp : p y with
    | true =>
      rw [hp] at h
      obtain rfl := Option.some.inj h
      rw [List.filter_cons, if_pos kept, List.find?_cons, hp]
    | false =>
      rw [hp] at h
      rw [List.filter_cons]
      split
      · rw [List.find?_cons, hp]
        exact ih h
      · exact ih h

namespace Spool

variable (sp : Spool)

@[simp] theorem setBlock_free (b : Nat) (blk : Block) : (sp.setBlock b blk).free = sp.free := rfl
@[simp] theorem setBlock_pool (b : Nat) (blk : Block) : (sp.setBlock b blk).pool = sp.pool := rfl
@[simp] theorem setPage_free (d : Nat) (pg : Page) : (sp.setPage d pg).free = sp.free := rfl
@[simp] theorem block_setPage (d : Nat) (pg : Page) (b : Nat) : (sp.setPage d pg).block b = sp.block b := rfl

theorem block_setBlock (b : Nat) (blk : Block) (x : Nat) :
    (sp.setBlock b blk).block x = if x = b then some blk else sp.block x := lookup_sput ..

theorem lookup_setPage (d : Nat) (pg : Page) (i : Nat) :
    (sp.setPage d pg).pool.lookup i = if i = d then some pg else sp.pool.lookup i := lookup_sput ..

/-- Writing a block that is in use as a function of what it was changes that block so. -/
theorem block_rewrite {l : Nat} {blk : Block} (h : sp.block l = some blk) (f : Block → Block) (x : Nat) :
    (sp.setBlock l (f blk)).block x = if some l = some x then (sp.block x).map f else sp.block x := by
  rw [block_setBlock]
  by_cases hx : x = l
  · subst hx
    simp [h]
  · simp [hx, Ne.symm hx]

/-- Linking a block behind another changes that one's link alone (R30). -/
theorem linkAfter_eq (last : Option Nat) (b : Nat) :
    (sp.linkAfter last b).free = sp.free ∧ (sp.linkAfter last b).pool = sp.pool ∧ ∀ x, (sp.linkAfter last b).block x =
      if last = some x then (sp.block x).map fun blk => { blk with link := some b } else sp.block x := by
  unfold Spool.linkAfter
  cases last with
  | none => simp
  | some l =>
    cases hl : sp.block l with
    | none =>
      simp only [hl, true_and]
      intro x
      by_cases hx : some l = some x
      · cases hx
        simp [hl]
      · rw [if_neg hx]
    | some blk =>
      simp only [hl]
      exact ⟨rfl, rfl, sp.block_rewrite hl fun blk => { blk with link := some b }⟩

variable {sp} in
theorem openLast_iff {pg : Page} {b : Nat} {blk : Block} :
    sp.openLast pg = some (b, blk) ↔ pg.last = some b ∧ sp.block b = some blk ∧ blk.check = none := by
  constructor
  · intro h
    refine ⟨(openLast_block h).1, (openLast_block h).2, ?_⟩
    simp only [openLast, (openLast_block h).1, (openLast_block h).2] at h
    split at h
    · simpa using ‹blk.check.isNone = true›
    · cases h
  · rintro ⟨hl, hb, hc⟩
    simp [openLast, hl, hb, hc]

/-- Closing the last block writes its check word, if it is open (R32). -/
theorem closeLast_eq (pg : Page) :
    (sp.closeLast pg).free = sp.free ∧ (sp.closeLast pg).pool = sp.pool ∧ ∀ x, (sp.closeLast pg).block x =
      if pg.last = some x then (sp.block x).map fun blk => if blk.check = none then blk.close else blk
      else sp.block x := by
  unfold Spool.closeLast
  cases ho : sp.openLast pg with
  | none =>
    refine ⟨rfl, rfl, fun x => ?_⟩
    by_cases hl : pg.last = some x
    · cases hb : sp.block x with
      | none => simp
      | some blk =>
        have closed : blk.check ≠ none := fun hc => by simpa [ho] using openLast_iff.mpr ⟨hl, hb, hc⟩
        simp [closed]
    · simp [hl]
  | some l =>
    obtain ⟨b, blk⟩ := l
    obtain ⟨hl, hb, hc⟩ := openLast_iff.mp ho
    refine ⟨rfl, rfl, fun x => ?_⟩
    have closed : blk.close = (fun blk : Block => if blk.check = none then blk.close else blk) blk := by simp [hc]
    dsimp only
    rw [hl, closed]
    exact sp.block_rewrite hb (fun blk => if blk.check = none then blk.close else blk) x

/-- Returned blocks stand on the free list, the last returned on top, and are no longer in use (R26). -/
theorem returnBlocks_eq (bs : List Nat) : ∀ sp : Spool, (sp.returnBlocks bs).free = bs.reverse ++ sp.free ∧
    (sp.returnBlocks bs).pool = sp.pool ∧
    ∀ b, (sp.returnBlocks bs).block b = if b ∈ bs then none else sp.block b := by
  induction bs with
  | nil => simp [Spool.returnBlocks]
  | cons c bs ih =>
    intro sp
    obtain ⟨free, pool, block⟩ := ih { sp with free := c :: sp.free, blocks := sdel c sp.blocks }
    refine ⟨free.trans (by simp), pool, fun b => (block b).trans ?_⟩
    have gone : ({ sp with free := c :: sp.free, blocks := sdel c sp.blocks } : Spool).block b =
      if b = c then none else sp.block b := lookup_sdel ..
    rw [gone]
    by_cases hc : b = c <;> simp [hc]

end Spool

/-! ## Chains (R24) -/

theorem chainFrom_length (blocks : List (Nat × Block)) (n : Nat) : ∀ o, (chainFrom blocks n o).length ≤ n := by
  induction n with
  | zero => simp [chainFrom]
  | succ n ih =>
    intro o
    cases o with
    | none => simp [chainFrom]
    | some b => simpa [chainFrom] using ih _

theorem chainFrom_head (blocks : List (Nat × Block)) (n : Nat) (o : Option Nat) :
    (chainFrom blocks (n + 1) o)[0]? = o := by
  cases o <;> simp [chainFrom]

/-- The block after a block of a chain is the one it links to. -/
theorem chainFrom_next (blocks : List (Nat × Block)) (n : Nat) : ∀ (o : Option Nat) (i : Nat), i + 1 < n →
    (chainFrom blocks n o)[i + 1]? = (chainFrom blocks n o)[i]?.bind fun b => (blocks.lookup b).bind (·.link) := by
  induction n with
  | zero => intro o i h; omega
  | succ n ih =>
    intro o i h
    cases o with
    | none => simp [chainFrom]
    | some b =>
      obtain ⟨m, rfl⟩ : ∃ m, n = m + 1 := ⟨n - 1, by omega⟩
      cases i with
      | zero =>
        rw [chainFrom, List.getElem?_cons_succ, chainFrom_head]
        simp
      | succ i =>
        rw [chainFrom, List.getElem?_cons_succ, List.getElem?_cons_succ]
        exact ih _ i (by omega)

/-- A chain depends on its own blocks alone. -/
theorem chainFrom_congr {blocks blocks' : List (Nat × Block)} (n : Nat) : ∀ o : Option Nat,
    (∀ b ∈ chainFrom blocks n o, blocks'.lookup b = blocks.lookup b) → chainFrom blocks' n o = chainFrom blocks n o := by
  induction n with
  | zero => exact fun _ _ => rfl
  | succ n ih =>
    intro o h
    cases o with
    | none => rfl
    | some b =>
      rw [chainFrom, chainFrom, h b (by simp [chainFrom]),
        ih _ fun x hx => h x (by rw [chainFrom]; exact List.mem_cons_of_mem _ hx)]

end Sys2Proof.Machine
end

section
/-! SUPPORT. Bytes stored in a page without an open block: the blocks they take from the free list, and what those hold (R25,
R30). -/

namespace Sys2Proof.Machine

/-! ## What new blocks hold -/

/-- A block filled with a part of a page's bytes, closed if they fill it (R25). -/
def Block.filled (part : List Byte) (next : Option Nat) : Block :=
  ({ data := part, link := next, check := none } : Block).closeIfFull

@[simp] theorem Block.filled_data (part : List Byte) (next : Option Nat) : (Block.filled part next).data = part := by
  unfold Block.filled Block.closeIfFull
  split <;> rfl

@[simp] theorem Block.filled_link (part : List Byte) (next : Option Nat) : (Block.filled part next).link = next :=
  Block.closeIfFull_link _

theorem Block.filled_check (part : List Byte) (next : Option Nat) :
    (Block.filled part next).check = if part.length = 512 then some (crc16 part) else none := by
  unfold Block.filled Block.closeIfFull
  rw [Config.blockBytes]
  split <;> rfl

theorem Block.filled_relink (part : List Byte) (next : Option Nat) :
    { Block.filled part none with link := next <|> (Block.filled part none).link } = Block.filled part next := by
  rw [Block.filled_link]
  unfold Block.filled Block.closeIfFull
  split <;> cases next <;> rfl

/-- Blocks hold bytes in their order: 512 in each but the last, each linked to the next (R24, R25). -/
def Spool.Holds (sp : Spool) : List Nat → List Byte → Prop
  | [], bytes => bytes = []
  | b :: bs, bytes => bytes ≠ [] ∧ sp.block b = some (.filled (bytes.take 512) bs.head?) ∧ sp.Holds bs (bytes.drop 512)

namespace Spool.Holds

variable {sp : Spool}

/-- The blocks read back as the bytes. -/
theorem flatten {bs : List Nat} {bytes : List Byte} (h : sp.Holds bs bytes) :
    (bs.map fun b => ((sp.block b).map (·.data)).getD []).flatten = bytes := by
  induction bs generalizing bytes with
  | nil => exact Eq.symm h
  | cons b bs ih =>
    obtain ⟨-, block, rest⟩ := h
    rw [List.map_cons, List.flatten_cons, ih rest, block]
    simp

/-- The links run through the blocks. -/
theorem chainFrom {bs : List Nat} {bytes : List Byte} (h : sp.Holds bs bytes) {n : Nat} (hn : bs.length ≤ n) :
    chainFrom sp.blocks n bs.head? = bs := by
  induction bs generalizing n bytes with
  | nil => cases n <;> rfl
  | cons b bs ih =>
    obtain ⟨-, block, rest⟩ := h
    obtain ⟨n, rfl⟩ : ∃ m, n = m + 1 := ⟨n - 1, by simp at hn; omega⟩
    have link : (sp.blocks.lookup b).bind (·.link) = bs.head? := by
      change (sp.block b).bind _ = _
      rw [block]
      simp
    rw [List.head?_cons, Machine.chainFrom, link, ih rest (by simpa using hn)]

/-- The block at a place holds the bytes of that place. -/
theorem block_at {bs : List Nat} {bytes : List Byte} (h : sp.Holds bs bytes) {i b : Nat} (hb : bs[i]? = some b) :
    sp.block b = some (.filled ((bytes.drop (512 * i)).take 512) bs[i + 1]?) := by
  induction bs generalizing bytes i with
  | nil => cases hb
  | cons c bs ih =>
    obtain ⟨-, block, rest⟩ := h
    cases i with
    | zero =>
      obtain rfl := Option.some.inj hb
      simpa [List.head?_eq_getElem?] using block
    | succ i =>
      have place : 512 * (i + 1) = 512 + 512 * i := by omega
      rw [place, ← List.drop_drop]
      exact ih rest hb

end Spool.Holds

/-! ## Storing -/

theorem storeBytes_nil (fuel : Nat) (x : Spool × Page) : storeBytes fuel [] x = x := by cases fuel <;> rfl

/-- What storing leaves of a page and a spool that had no open block: the blocks taken, and only those and the last block
before them changed (R30). -/
structure Stored (sp : Spool) (pg : Page) (taken rest : List Nat) (bytes : List Byte) (r : Spool × Page) : Prop where
  free : r.1.free = rest
  pool : r.1.pool = sp.pool
  byteLen : r.2.byteLen = pg.byteLen + bytes.length
  first : r.2.first = (pg.first <|> taken.head?)
  holds : r.1.Holds taken bytes
  others : ∀ x ∉ taken, r.1.block x =
    if pg.last = some x then (sp.block x).map fun blk => { blk with link := taken.head? <|> blk.link } else sp.block x

/-- The spool and the page after one new block (R30 step 2). -/
def storeNew (sp : Spool) (pg : Page) (b : Nat) (rest : List Nat) (part : List Byte) : Spool × Page :=
  (({ sp with free := rest }.linkAfter pg.last b).setBlock b (.filled part none),
    { pg with byteLen := pg.byteLen + part.length, first := pg.first <|> some b, last := some b })

theorem storeBytes_new {sp : Spool} {pg : Page} {bytes : List Byte} {b : Nat} {rest : List Nat} (fuel : Nat)
    (more : bytes ≠ []) (shut : sp.openLast pg = none) (free : sp.free = b :: rest) :
    storeBytes (fuel + 1) bytes (sp, pg) =
      storeBytes fuel (bytes.drop 512) (storeNew sp pg b rest (bytes.take 512)) := by
  rw [storeBytes, if_neg (by simpa using more), shut]
  simp only [free]
  rfl

section New

variable (sp : Spool) (pg : Page) (b : Nat) (rest : List Nat) (part : List Byte)

theorem storeNew_free : (storeNew sp pg b rest part).1.free = rest :=
  (Spool.linkAfter_eq { sp with free := rest } pg.last b).1

theorem storeNew_pool : (storeNew sp pg b rest part).1.pool = sp.pool :=
  (Spool.linkAfter_eq { sp with free := rest } pg.last b).2.1

theorem storeNew_block (x : Nat) : (storeNew sp pg b rest part).1.block x =
    if x = b then some (.filled part none)
    else if pg.last = some x then (sp.block x).map fun blk => { blk with link := some b } else sp.block x := by
  unfold storeNew
  rw [Spool.block_setBlock, (Spool.linkAfter_eq _ _ _).2.2]
  rfl

/-- A new block that is not the last is full, and so not open. -/
theorem storeNew_openLast (full : part.length = 512) :
    (storeNew sp pg b rest part).1.openLast (storeNew sp pg b rest part).2 = none := by
  rw [Option.eq_none_iff_forall_ne_some]
  rintro ⟨c, blk⟩ hc
  obtain ⟨hl, hb, unclosed⟩ := Spool.openLast_iff.mp hc
  obtain rfl := Option.some.inj hl
  rw [storeNew_block, if_pos rfl] at hb
  obtain rfl := Option.some.inj hb
  simp [Block.filled_check, full] at unclosed

end New

/-- Bytes that find no open block take new blocks from the top of the free list, in that order (R25, R30). -/
theorem storeBytes_stored {bytes : List Byte} {fuel : Nat} (enough : bytes.length ≤ fuel) {taken rest : List Nat}
    (count : taken.length = (bytes.length + 511) / 512) (distinct : taken.Nodup) :
    ∀ {sp : Spool} {pg : Page}, (bytes ≠ [] → sp.openLast pg = none) → sp.free = taken ++ rest →
      (∀ b ∈ taken, sp.block b = none) → Stored sp pg taken rest bytes (storeBytes fuel bytes (sp, pg)) := by
  induction taken generalizing bytes fuel with
  | nil =>
    intro sp pg _ free _
    obtain rfl : bytes = [] := List.length_eq_zero_iff.mp (by simp at count; omega)
    rw [storeBytes_nil]
    refine ⟨free, rfl, rfl, by simp, rfl, fun x _ => ?_⟩
    simp
  | cons b taken ih =>
    intro sp pg shut free unused
    have more : bytes ≠ [] := by
      rintro rfl
      simp at count
    have some_bytes : 0 < bytes.length := List.length_pos_iff.mpr more
    obtain ⟨fuel, rfl⟩ : ∃ m, fuel = m + 1 := ⟨fuel - 1, by omega⟩
    obtain ⟨fresh, distinct⟩ := List.nodup_cons.mp distinct
    rw [storeBytes_new (rest := taken ++ rest) fuel more (shut more) free]
    obtain ⟨r, hr⟩ : ∃ r, r = storeNew sp pg b (taken ++ rest) (bytes.take 512) := ⟨_, rfl⟩
    have block (x : Nat) : r.1.block x = if x = b then some (.filled (bytes.take 512) none)
        else if pg.last = some x then (sp.block x).map fun blk => { blk with link := some b } else sp.block x := by
      rw [hr, storeNew_block]
    have last : r.2.last = some b := by rw [hr]; rfl
    have later : Stored r.1 r.2 taken rest (bytes.drop 512) (storeBytes fuel (bytes.drop 512) r) := by
      refine ih (by simp; omega) (by simp at count ⊢; omega) distinct (fun more => ?_) ?_ fun x hx => ?_
      · have : 512 < bytes.length := by simpa using more
        rw [hr]
        exact storeNew_openLast _ _ _ _ _ (by simp; omega)
      · rw [hr, storeNew_free]
      · rw [block, if_neg (by rintro rfl; exact fresh hx), unused x (List.mem_cons_of_mem _ hx)]
        simp
    have here : (storeBytes fuel (bytes.drop 512) r).1.block b = some (.filled (bytes.take 512) taken.head?) := by
      rw [later.others b fresh, if_pos last, block, if_pos rfl, Option.map_some, Block.filled_relink]
    rw [← hr]
    exact
      { free := later.free
        pool := later.pool.trans (by rw [hr, storeNew_pool])
        byteLen := by
          rw [later.byteLen, hr]
          simp [storeNew]
          omega
        first := by
          rw [later.first, hr]
          cases hf : pg.first <;> simp [storeNew, hf]
        holds := ⟨more, here, later.holds⟩
        others := fun x hx => by
          obtain ⟨other, after⟩ : x ≠ b ∧ x ∉ taken := by simpa using hx
          rw [later.others x after, last, if_neg (by simpa using Ne.symm other), block, if_neg other]
          simp }

end Sys2Proof.Machine
end

section
/-! PROOF. What intake, reading, release and freeing do to the spool (R24 to R26, R30, R32, R34, R35, R37, R38). -/

namespace Sys2Proof.Machine

/-! ## Intake (R30, R32) -/

/-- Storing bytes leaves the descriptors alone. -/
theorem storeBytes_pool (n : Nat) : ∀ (bytes : List Byte) (sp : Spool) (pg : Page),
    (storeBytes n bytes (sp, pg)).1.pool = sp.pool := by
  induction n with
  | zero => exact fun _ _ _ => rfl
  | succ n ih =>
    intro bytes sp pg
    unfold storeBytes
    split
    · rfl
    · split
      · exact ih ..
      · split
        · rfl
        · exact (ih ..).trans (Spool.linkAfter_eq _ _ _).2.1

/-- Bytes stored in an empty page read back in order. -/
theorem storeBytes_reads_back (sp : Spool) (pg : Page) (data : List Byte) (first : pg.first = none)
    (last : pg.last = none) (empty : pg.byteLen = 0) (distinct : sp.free.Nodup) (unused : ∀ b ∈ sp.free, sp.block b = none)
    (room : (data.length + 511) / 512 ≤ sp.free.length) (size : data.length ≤ 4194304) :
    let n := (data.length + 511) / 512
    let r := storeBytes data.length data (sp, pg)
    r.1.chain r.2 = sp.free.take n ∧ r.1.free = sp.free.drop n ∧ r.2.byteLen = data.length ∧ r.1.pool = sp.pool ∧
    (((r.1.chain r.2).map fun b => ((r.1.block b).map (·.data)).getD []).flatten = data) ∧
    ∀ i b blk, (r.1.chain r.2)[i]? = some b → r.1.block b = some blk →
      (i + 1 < n → blk.data.length = 512) ∧ blk.data.length ≤ 512 ∧
      (blk.data.length = 512 → blk.check = some (crc16 blk.data)) ∧ (blk.data.length ≠ 512 → blk.check = none) := by
  intro n r
  have count : (sp.free.take n).length = n := List.length_take_of_le room
  have stored : Stored sp pg (sp.free.take n) (sp.free.drop n) data r :=
    storeBytes_stored le_rfl count (distinct.sublist (List.take_sublist ..))
      (fun _ => by simp [Spool.openLast, last]) (List.take_append_drop ..).symm
      fun b hb => unused b (List.mem_of_mem_take hb)
  have chain : r.1.chain r.2 = sp.free.take n := by
    rw [Spool.chain, stored.first, first]
    exact stored.holds.chainFrom (by omega)
  rw [chain]
  refine ⟨rfl, stored.free, by rw [stored.byteLen, empty, Nat.zero_add], stored.pool, stored.holds.flatten, ?_⟩
  intro i b blk place block
  obtain rfl := Option.some.inj ((stored.holds.block_at place).symm.trans block)
  simp only [Block.filled_data, Block.filled_check, List.length_take, List.length_drop]
  refine ⟨fun more => by omega, by omega, fun full => by rw [if_pos full], fun part => by rw [if_neg part]⟩

/-- A segment writes its page's descriptor alone; END closes the last block and makes the page COMPLETE. -/
theorem Spool.storeSegment_eq (sp : Spool) (d : Nat) (pg : Page) (data : List Byte) (ends : Bool) :
    let r := storeBytes data.length data (sp, pg)
    let t := sp.storeSegment d pg data ends
    t.free = r.1.free ∧
    (∀ i, t.pool.lookup i = if i = d then some { r.2 with state := if ends then .complete else r.2.state }
      else sp.pool.lookup i) ∧
    ∀ b, t.block b = if ends = true ∧ r.2.last = some b then
      (r.1.block b).map fun blk => if blk.check = none then { blk with check := some (crc16 blk.data) } else blk
      else r.1.block b := by
  intro r t
  have pool : r.1.pool = sp.pool := storeBytes_pool ..
  obtain ⟨free, closedPool, block⟩ := r.1.closeLast_eq r.2
  cases ends with
  | false => exact ⟨rfl, fun i => (r.1.lookup_setPage d r.2 i).trans (by simp [pool]), fun b => by simp; rfl⟩
  | true =>
    exact ⟨free, fun i => ((r.1.closeLast r.2).lookup_setPage d _ i).trans (by rw [closedPool, pool]; rfl),
      fun b => (block b).trans (by simp [Block.close])⟩

/-! ## Reading (R34, R35) -/

theorem Spool.readBlock_past {sp : Spool} {pg : Page} {framed : Nat} (h : (sp.chain pg)[framed / 512]? = none) :
    sp.readBlock pg framed = .bytes [] true := by
  simp [Spool.readBlock, Config.blockBytes, h]

theorem Spool.readBlock_at {sp : Spool} {pg : Page} {framed b : Nat} {blk : Block}
    (h : (sp.chain pg)[framed / 512]? = some b) (hb : sp.block b = some blk) : sp.readBlock pg framed =
      if blk.check = some (crc16 blk.data) then .bytes blk.data (decide ((sp.chain pg).length ≤ framed / 512 + 1))
      else .failed := by
  simp only [Spool.readBlock, Config.blockBytes, h, hb]

/-! ## Release (R37) -/

theorem Spool.releasePage_complete {sp : Spool} {e : Entry} {k d : Nat} {pg : Page} (h : sp.page e k = some (d, pg))
    (complete : pg.state = .complete) : sp.releasePage e k =
      (sp.returnBlocks (sp.chain pg)).setPage d { pg with state := .released, first := none, last := none } := by
  simp only [Spool.releasePage, h, complete, if_true]

/-- The release of a page in another state, or of none, does nothing. -/
theorem Spool.releasePage_other {sp : Spool} {e : Entry} {k : Nat}
    (h : ∀ x, sp.page e k = some x → x.2.state ≠ .complete) : sp.releasePage e k = sp := by
  unfold Spool.releasePage
  split
  · rename_i d pg page
    exact if_neg (h _ page)
  · rfl

/-! ## Freeing a job's pages (R38) -/

/-- The blocks that the freeing of a page returns: none of a RELEASED page. -/
def Spool.held (sp : Spool) (x : Nat × Page) : List Nat := if x.2.state = .released then [] else sp.chain x.2

theorem Spool.flatMap_held (sp : Spool) (pages : List (Nat × Page)) :
    (pages.filter fun x => x.2.state != .released).flatMap (fun x => sp.chain x.2) = pages.flatMap sp.held := by
  induction pages with
  | nil => rfl
  | cons x pages ih =>
    by_cases h : x.2.state = .released <;> simp [Spool.held, h, ih]

theorem Spool.freePage_eq {sp : Spool} {e : Entry} {k : Nat} {x : Nat × Page} (h : sp.page e k = some x) :
    sp.freePage e k = { sp.returnBlocks (sp.held x) with pool := sdel x.1 sp.pool } := by
  obtain ⟨d, pg⟩ := x
  simp only [Spool.freePage, h, Spool.held]
  split
  · rfl
  · rw [(Spool.returnBlocks_eq _ sp).2.1]

/-- What has become of a spool when pages of it have been freed in their order. -/
structure Spool.Freed (sp : Spool) (pages : List (Nat × Page)) (t : Spool) : Prop where
  free : t.free = (pages.flatMap sp.held).reverse ++ sp.free
  pool : t.pool = sp.pool.filter fun x => x.1 ∉ pages.map (·.1)
  block : ∀ b, t.block b = if b ∈ pages.flatMap sp.held then none else sp.block b

/-- A page whose blocks are still in use has the chain it had. -/
theorem Spool.Freed.held {sp t : Spool} {pages : List (Nat × Page)} (h : sp.Freed pages t) {x : Nat × Page}
    (apart : ∀ b ∈ sp.held x, b ∉ pages.flatMap sp.held) : t.held x = sp.held x := by
  unfold Spool.held at apart ⊢
  split
  · rfl
  · rename_i unreleased
    rw [if_neg unreleased] at apart
    exact chainFrom_congr _ _ fun b hb => (h.block b).trans (if_neg (apart b hb))

/-- A page that is not among the freed ones is still found by its number. -/
theorem Spool.Freed.page {sp t : Spool} {pages : List (Nat × Page)} (h : sp.Freed pages t) {e : Entry} {k : Nat}
    {x : Nat × Page} (hx : sp.page e k = some x) (apart : x.1 ∉ pages.map (·.1)) : t.page e k = some x := by
  unfold Spool.page
  rw [h.pool]
  exact find?_filter_kept hx (decide_eq_true apart)

/-- Freeing one page more. -/
theorem Spool.Freed.freePage {sp t : Spool} {pages : List (Nat × Page)} (h : sp.Freed pages t) {e : Entry} {k : Nat}
    {x : Nat × Page} (hx : sp.page e k = some x) (number : x.1 ∉ pages.map (·.1))
    (apart : ∀ b ∈ sp.held x, b ∉ pages.flatMap sp.held) : sp.Freed (pages ++ [x]) (t.freePage e k) := by
  rw [Spool.freePage_eq (h.page hx number), h.held apart]
  obtain ⟨free, -, block⟩ := Spool.returnBlocks_eq (sp.held x) t
  have all : (pages ++ [x]).flatMap sp.held = pages.flatMap sp.held ++ sp.held x := by simp
  refine ⟨?_, ?_, fun b => (block b).trans ?_⟩
  · rw [all, List.reverse_append, List.append_assoc, ← h.free]
    exact free
  · change sdel x.1 t.pool = _
    rw [h.pool, sdel, List.filter_filter]
    refine List.filter_congr fun y _ => ?_
    rw [Bool.eq_iff_iff]
    simp [and_comm]
  · rw [all, h.block b]
    by_cases hb : b ∈ sp.held x
    · rw [if_pos hb, if_pos (List.mem_append_right _ hb)]
    · rw [if_neg hb]
      exact if_congr (by simp only [List.mem_append, hb, or_false]) rfl rfl

section FreeJob

variable {sp : Spool} {e : Entry} {pages : List (Nat × Page)}

theorem Spool.page_spec {k : Nat} {x : Nat × Page} (h : sp.page e k = some x) :
    x ∈ sp.pool ∧ x.2.job = e ∧ x.2.number = k := by
  refine ⟨List.mem_of_find?_eq_some h, ?_⟩
  simpa using List.find?_some h

variable (form : sp.Form) (list : ∀ k x, pages[k]? = some x → sp.page e k = some x)
include list

/-- The pages of a list by number are distinct. -/
theorem Spool.pages_nodup : pages.Nodup := by
  rw [List.nodup_iff_getElem?_ne_getElem?]
  intro i k hik hk same
  have hx := list k _ (List.getElem?_eq_getElem hk)
  have hx' := list i _ (same.trans (List.getElem?_eq_getElem hk))
  have := (Spool.page_spec hx).2.2
  have := (Spool.page_spec hx').2.2
  omega

/-- As many pages as the job has are all its pages. -/
theorem Spool.mem_pages (all : (sp.pool.filter fun x => x.2.job == e).length = pages.length) {x : Nat × Page}
    (hx : x ∈ sp.pool) : x ∈ pages ↔ x.2.job = e := by
  have sub : pages ⊆ sp.pool.filter fun x => x.2.job == e := fun y hy => by
    obtain ⟨k, hk⟩ := List.mem_iff_getElem?.mp hy
    obtain ⟨mem, job, -⟩ := Spool.page_spec (list k y hk)
    exact List.mem_filter.mpr ⟨mem, by simpa using job⟩
  have perm := ((Spool.pages_nodup list).subperm sub).perm_of_length_le all.le
  rw [perm.mem_iff]
  simp [hx]

include form

/-- The descriptor numbers of the pages are distinct. -/
theorem Spool.numbers_nodup : (pages.map (·.1)).Nodup := by
  have inPool : ∀ y ∈ pages, y ∈ sp.pool := fun y hy => by
    obtain ⟨k, hk⟩ := List.mem_iff_getElem?.mp hy
    exact (Spool.page_spec (list k y hk)).1
  exact (Spool.pages_nodup list).map_on fun x hx y hy => ssorted_unique form.pool (inPool x hx) (inPool y hy)

theorem Spool.mem_numbers (all : (sp.pool.filter fun x => x.2.job == e).length = pages.length) {x : Nat × Page}
    (hx : x ∈ sp.pool) : x.1 ∈ pages.map (·.1) ↔ x.2.job = e := by
  rw [← Spool.mem_pages list all hx, List.mem_map]
  refine ⟨fun ⟨y, hy, same⟩ => ?_, fun h => ⟨x, h, rfl⟩⟩
  obtain ⟨k, hk⟩ := List.mem_iff_getElem?.mp hy
  rwa [← ssorted_unique form.pool (Spool.page_spec (list k y hk)).1 hx same]

/-- Freeing the first pages of a job in order frees each of them. -/
theorem Spool.freed_pages (apart : (pages.flatMap sp.held).Nodup) (n : Nat) (hn : n ≤ pages.length) :
    sp.Freed (pages.take n) ((List.range n).foldl (fun sp k => sp.freePage e k) sp) := by
  induction n with
  | zero => exact ⟨rfl, by simp, by simp⟩
  | succ n ih =>
    obtain ⟨x, hx⟩ : ∃ x, pages[n]? = some x := ⟨_, List.getElem?_eq_getElem hn⟩
    have longer : pages.take (n + 1) = pages.take n ++ [x] := by rw [List.take_add_one, hx]; rfl
    have sub : (pages.take n ++ [x]).Sublist pages := longer ▸ List.take_sublist (n + 1) pages
    have numbers := (Spool.numbers_nodup form list).sublist (sub.map (·.1))
    have blocks := apart.sublist (sub.flatMap sp.held)
    rw [List.map_append] at numbers
    rw [List.flatMap_append] at blocks
    rw [longer, List.range_succ, List.foldl_append]
    refine (ih (by omega)).freePage (list n x hx) (fun mem => ?_) fun b hb mem => ?_
    · exact List.disjoint_of_nodup_append numbers mem (by simp)
    · exact List.disjoint_of_nodup_append blocks mem (by simpa using hb)

end FreeJob

/-- The freeing of a job's pages in page order. -/
theorem Spool.freeJob_eq {sp : Spool} {e : Entry} {pages : List (Nat × Page)} (wf : sp.wf = true)
    (list : ∀ k x, pages[k]? = some x → sp.page e k = some x)
    (all : (sp.pool.filter fun x => x.2.job == e).length = pages.length) (apart : (pages.flatMap sp.held).Nodup) :
    (sp.freeJob e).free = (pages.flatMap sp.held).reverse ++ sp.free ∧
      (sp.freeJob e).pool = (sp.pool.filter fun x => x.2.job != e) ∧
      ∀ b, (sp.freeJob e).block b = if b ∈ pages.flatMap sp.held then none else sp.block b := by
  have form := Spool.wf_iff.mp wf
  have freed := Spool.freed_pages form list apart pages.length le_rfl
  rw [List.take_length] at freed
  rw [Spool.freeJob, Spool.pageCount, all]
  refine ⟨freed.free, freed.pool.trans (List.filter_congr fun x hx => ?_), freed.block⟩
  rw [Bool.eq_iff_iff]
  simp [← Spool.mem_numbers form list all hx]

/-- Settles O60: the laws of intake, of chains, of reading, of release and of freeing, each from its operation's. -/
theorem pageReadsBack : Obligations.PageReadsBack := by
  refine ⟨storeBytes_reads_back, fun sp pg => ⟨chainFrom_length .., chainFrom_head .., chainFrom_next _ _ _⟩,
    Spool.storeSegment_eq, fun sp pg framed => ⟨Spool.readBlock_past, fun b blk h hb => ?_⟩, fun sp e k => ⟨?_, ?_⟩, ?_⟩
  · rw [Spool.readBlock_at h hb]
    exact ⟨fun good => if_pos good, fun bad => if_neg bad⟩
  · intro d pg page complete t
    obtain ⟨free, pool, block⟩ := Spool.returnBlocks_eq (sp.chain pg) sp
    rw [show t = _ from Spool.releasePage_complete page complete]
    exact ⟨free, block, fun i => by rw [Spool.lookup_setPage, pool]⟩
  · exact Spool.releasePage_other
  · intro sp e pages wf list all held apart
    rw [show held = _ from sp.flatMap_held pages] at apart ⊢
    exact Spool.freeJob_eq wf list all apart

end Sys2Proof.Machine
end

section
/-! SUPPORT. A link down (R89): the path lost, the job unbound, the press DOWN, its alerts ended; the restart of a link
(R90) and the protocol fault (R56), which begin with it. -/

namespace Sys2Proof.Machine

/-- A press whose link is lost (R80, R89): DOWN, its receiver hunting, nothing to send, no credits, no path, no cover. -/
def linkLost (x : Press) : Press :=
  { x with
    state := .down, credits := 0, cover := none, heartbeat := 0, txq := [], path := [], send := .idle
    resumeMark := false, rx := none }

/-- A press whose link is going down, up to its entry into DOWN: its path lost, nothing to send, no credits, its receiver
hunting (R80, R89). -/
def linkCut (x : Press) : Press := { lostPath x with txq := [], credits := 0, rx := none }

/-- The alerts of a link down, in their order (R89): LINK_DOWN where it is raised, then the ends of COVER_OPEN and JAM. -/
def State.linkAlerts (p : PressNo) (raise : Bool) (s : State) : State :=
  ((if raise then s.raise .linkDown (.press p) none else s).endCondition .coverOpen (.press p)).endCondition .jam (.press p)

section LinkAlerts

variable {s : State} {p : PressNo} {b : Bool}

@[simp] theorem State.linkAlerts_wantDemand : s.wantDemand.linkAlerts p b = (s.linkAlerts p b).wantDemand := by
  cases b <;> simp [State.linkAlerts]

@[simp] theorem State.modPress_linkAlerts (q : PressNo) (f : Press → Press) :
    (s.linkAlerts p b).modPress q f = (s.modPress q f).linkAlerts p b := by
  cases b <;> simp [State.linkAlerts]

@[simp] theorem quiet_linkAlerts : Quiet (s.linkAlerts p b) ↔ Quiet s := by
  cases b <;> simp [State.linkAlerts]

@[simp] theorem noWork_linkAlerts : NoWork (s.linkAlerts p b) ↔ NoWork s := by
  cases b <;> simp [State.linkAlerts]

@[simp] theorem still_linkAlerts : Still (s.linkAlerts p b) ↔ Still s := by
  cases b <;> simp [State.linkAlerts]

/-- A report that is pending stays so through the alerts of a link down. -/
theorem State.pending_linkAlerts {r : Report} (hr : r.Plain) (h : r ∈ s.reports) : r ∈ (s.linkAlerts p b).reports := by
  refine State.pending_endCondition hr _ _ (State.pending_endCondition hr _ _ ?_)
  cases b
  · exact h
  · exact State.pending_raise hr _ _ _ h

end LinkAlerts

section LinkDown

variable {s u v : State} {p : PressNo} {e : Entry} {j : Job} {b : Bool}

/-- A press that stands in no queue leaves none (R105). -/
theorem State.leaveQueues_none (h : ∀ c, (s.circuit c).queue.contains p = false) : s.leaveQueues p = s := by
  refine foldl_same _ _ fun c => ?_
  simp only [h c, Bool.false_eq_true, if_false]

/-- A link down by its parts (R89): what the loss of the path and of the binding leaves, the entry into DOWN, and the
alerts, the wake demand raised with them having nothing to ask. -/
theorem State.linkDown_parts
    (unbound : (((s.modPress p fun x => { x with txq := [], credits := 0, rx := none }).losePath p).unbindLost p).settle = u)
    (entered : (u.enter p .down).modPress p (fun x => { x with resumeMark := false, cover := none, heartbeat := 0 }) =
      v.wantDemand)
    (hq : Quiet v) (either : NoWork v ∨ Still v) (unqueued : ∀ c, (v.circuit c).queue.contains p = false) :
    s.linkDown p b = v.linkAlerts p b := by
  have settled : (v.wantDemand.linkAlerts p b).settle = v.linkAlerts p b := by
    rw [State.linkAlerts_wantDemand]
    exact (Settles.demand_either (by simpa using hq) (by simpa using either)).settle (by decide)
  rw [← settled]
  unfold State.linkDown
  dsimp only
  rw [unbound, entered, State.leaveQueues_none (by simpa using unqueued)]
  rfl

/-- The link down of a press that is not BUSY, with an empty path and in no queue, where there is no work (R89). -/
theorem State.linkDown_noWork (hq : Quiet s) (work : NoWork s) (not_busy : ∀ m, (s.press p).state ≠ .busy m)
    (path : (s.press p).path = []) (unqueued : ∀ c, (s.circuit c).queue.contains p = false) :
    s.linkDown p b = ((s.modPress p linkLost).mark (.press p)).linkAlerts p b := by
  have cut : (s.modPress p fun x => { x with txq := [], credits := 0, rx := none }).losePath p =
      s.modPress p linkCut := by
    rw [State.losePath_service (by simp [path]), State.modPress_twice]
    rfl
  have work' : NoWork (s.modPress p linkCut) :=
    work.modPress p (by simpa [linkCut, lostPath] using work.nobody p)
  refine State.linkDown_parts
    (u := s.modPress p linkCut) ?_ ?_ ?_ ?_ ?_
  · rw [cut, State.unbindLost, State.boundJob_noJobs work'.free]
    exact State.settle_quiet (by simpa using hq)
  · rw [State.enter_other (by simpa [linkCut, lostPath] using not_busy), State.putState_eq]
    simp only [State.modPress_wantDemand, State.modPress_mark, State.modPress_twice]
    rfl
  · simpa using hq
  · exact .inl (by simpa using work.modPress p (f := linkLost) (by simp [linkLost]))
  · simpa using unqueued

/-- What a link down leaves of a press and its PRINTING job (R57, R60, R89): the press DOWN, the job with its cursor back
and QUEUED from now, and media wait, where the press was in it, ended (R51). -/
def State.linkUnbound (p : PressNo) (e : Entry) (j : Job) (s : State) : State :=
  let t := (((s.modPress p linkLost).setJob e (some
    { rewound (s.press p).path j with state := .queued s.time, starve := none })).mark (.job e)).mark (.press p)
  if (s.press p).state.mediaWait then t.endCondition .mediaOut (.press p) else t

/-- The entry into DOWN of a press whose job has been QUEUED and whose path is lost (R51, R89, R91). -/
theorem State.enter_down_unbound {i : Option Job}
    (free : (((s.modPress p linkCut).setJob e i).mark
      (.job e)).boundJob p = none) :
    (((((s.modPress p linkCut).setJob e i).mark (.job e)).enter p
      .down).modPress p fun x => { x with resumeMark := false, cover := none, heartbeat := 0 }) =
      (let t := (((s.modPress p linkLost).setJob e i).mark (.job e)).mark (.press p)
      if (s.press p).state.mediaWait then t.endCondition .mediaOut (.press p) else t).wantDemand := by
  by_cases busy : ∃ m, (s.press p).state = .busy m
  · obtain ⟨m, hm⟩ := busy
    rw [State.enter, State.leave_unbound (now := m) (by simpa [linkCut, lostPath] using hm) free, State.putState_eq]
    cases m with
    | none =>
      rw [State.mediaWaitEnded_none]
      simp [hm, PressState.mediaWait]
      rfl
    | some m =>
      rw [State.mediaWaitEnded_some]
      simp [hm, PressState.mediaWait]
      rfl
  · have waiting : (s.press p).state.mediaWait = false := by
      cases hst : (s.press p).state with
      | busy m => exact absurd ⟨m, hst⟩ busy
      | _ => rfl
    rw [State.enter_other (fun m hm => busy ⟨m, by simpa [linkCut, lostPath] using hm⟩), State.putState_eq]
    simp [waiting]
    rfl

section Unbound

variable (alone : BoundAlone s p e j) (printing : j.state = .printing p) (rewinds : Rewinds s p e j)
include alone printing rewinds

/-- The path of a PRINTING job lost with the link: the job rewound and QUEUED, its decision to be taken (R57, R60). -/
theorem State.unbindLost_printing :
    ((s.modPress p fun x => { x with txq := [], credits := 0, rx := none }).losePath p).unbindLost p =
      ((((s.modPress p linkCut).setJob e (some
        { rewound (s.press p).path j with state := .queued s.time, starve := none })).mark (.job e)).wantDemand).push
          (.decideJob e) := by
  have bound := alone.boundJob
  have kept : ((s.modPress p linkCut).setJob e (some
      (rewound (s.press p).path j))).boundJob p = some e :=
    State.boundJob_setJob (by simpa using bound) (by simp [printing, JobState.bound])
  have lost : (s.modPress p fun x => { x with txq := [], credits := 0, rx := none }).losePath p =
      let t := (s.modPress p linkCut).setJob e (some
        (rewound (s.press p).path j))
      if (s.press p).path = [] then t else t.mark (.job e) := by
    rw [State.losePath_rewinds (j := j) (rewinds.of_same (by simp) (by simp)) (by simpa using alone.live)]
    simp only [State.press_modPress_self, State.modPress_twice]
    rfl
  have unbound (t : State) (ht : t.boundJob p = some e) (live : t.job e = some (rewound (s.press p).path j)) :
      t.unbindLost p = t.enterQueued e := by
    simp only [State.unbindLost, ht, live, state_rewound, printing]
  rw [lost]
  dsimp only
  split
  · rw [unbound _ kept (by simp), State.enterQueued_live (j := rewound (s.press p).path j) (by simp)]
    simp
  · rw [unbound _ (by simpa using kept) (by simp), State.enterQueued_live (j := rewound (s.press p).path j) (by simp)]
    simp

/-- The link down of a press with a PRINTING job, in no queue, where no press can be bound or woken (R57, R60, R89). -/
theorem State.linkDown_printing (hq : Quiet s) (still : Still s)
    (unqueued : ∀ c, (s.circuit c).queue.contains p = false) :
    s.linkDown p b = (s.linkUnbound p e j).linkAlerts p b := by
  have cutStill (f : Press → Press) (hf : (f (s.press p)).state = (s.press p).state) : Still (s.modPress p f) :=
    still.modPress p (by rw [hf]; exact still p)
  have free : (((s.modPress p linkCut).setJob e (some
      { rewound (s.press p).path j with state := .queued s.time, starve := none })).mark (.job e)).boundJob p = none := by
    refine State.boundJob_eq_none_iff.mpr fun d i hd => ?_
    rw [State.job_mark, State.job_setJob] at hd
    split at hd
    · obtain rfl := Option.some.inj hd
      simp [JobState.bound]
    · exact fun hb => absurd (alone.alone d i (by simpa using hd) hb).symm (by assumption)
  refine State.linkDown_parts (u := ((s.modPress p linkCut).setJob e (some
      { rewound (s.press p).path j with state := .queued s.time, starve := none })).mark (.job e)) ?_ ?_ ?_ ?_ ?_
  · rw [State.unbindLost_printing alone printing rewinds]
    refine (Settles.decideJob_still ?_ ?_ e).settle (by decide)
    · simpa using hq
    · simpa using cutStill linkCut rfl
  · exact State.enter_down_unbound free
  · unfold State.linkUnbound
    split <;> simpa using hq
  · refine .inr ?_
    have down : Still (s.modPress p linkLost) := still.modPress p (by simp [linkLost, PressState.isIdle])
    unfold State.linkUnbound
    split <;> simpa using down
  · unfold State.linkUnbound
    split <;> simpa using unqueued

end Unbound

end LinkDown

/-! ## The restart of a link (R90) -/

section Restart

variable {s : State} {p : PressNo} {e : Entry} {j : Job}

/-- A press whose restart has begun (R80, R90): the sequence at 0, its receiver hunting, the signal held. -/
def restartBegun (x : Press) : Press :=
  { x with seq := 0, rx := none, restart := some { signal := true, elapsed := 0, atStart := false } }

theorem State.restartLink_down (down : (s.press p).state = .down) :
    s.restartLink p = (s.modPress p restartBegun).mark (.press p) := by
  simp only [State.restartLink, down, if_true]
  rfl

theorem State.restartLink_linked (up : (s.press p).state ≠ .down) :
    s.restartLink p = ((s.linkDown p false).modPress p restartBegun).mark (.press p) := by
  simp only [State.restartLink, up, if_false]
  rfl

/-- The restart of a linked press that is not BUSY, with an empty path and in no queue, where there is no work. -/
theorem State.restartLink_noWork (up : (s.press p).state ≠ .down) (hq : Quiet s) (work : NoWork s)
    (not_busy : ∀ m, (s.press p).state ≠ .busy m) (path : (s.press p).path = [])
    (unqueued : ∀ c, (s.circuit c).queue.contains p = false) :
    s.restartLink p = ((s.modPress p restarted).mark (.press p)).linkAlerts p false := by
  rw [State.restartLink_linked up, State.linkDown_noWork hq work not_busy path unqueued, State.modPress_linkAlerts,
    State.modPress_mark, State.modPress_twice]
  exact State.mark_of_pending (by simp) (State.pending_linkAlerts (by simp) (State.pending_mark_self _ _))

/-- The restart of a press with a PRINTING job, in no queue, where no press can be bound or woken. -/
theorem State.restartLink_printing (up : (s.press p).state ≠ .down) (hq : Quiet s) (still : Still s)
    (alone : BoundAlone s p e j) (printing : j.state = .printing p) (rewinds : Rewinds s p e j)
    (unqueued : ∀ c, (s.circuit c).queue.contains p = false) :
    s.restartLink p = (let t := (((s.modPress p restarted).setJob e (some
        { rewound (s.press p).path j with state := .queued s.time, starve := none })).mark (.job e)).mark (.press p)
      if (s.press p).state.mediaWait then t.endCondition .mediaOut (.press p) else t).linkAlerts p false := by
  have restarting : (s.linkUnbound p e j).modPress p restartBegun =
      let t := (((s.modPress p restarted).setJob e (some
        { rewound (s.press p).path j with state := .queued s.time, starve := none })).mark (.job e)).mark (.press p)
      if (s.press p).state.mediaWait then t.endCondition .mediaOut (.press p) else t := by
    unfold State.linkUnbound
    cases (s.press p).state.mediaWait <;> simp <;> rfl
  have pending : Report.press p ∈ ((s.linkUnbound p e j).modPress p restartBegun).reports := by
    rw [restarting]
    dsimp only
    split
    · exact State.pending_endCondition (by simp) _ _ (State.pending_mark_self _ _)
    · exact State.pending_mark_self _ _
  rw [State.restartLink_linked up, State.linkDown_printing alone printing rewinds hq still unqueued,
    State.modPress_linkAlerts, State.mark_of_pending (by simp) (State.pending_linkAlerts (by simp) pending), restarting]

end Restart

/-! ## The protocol fault (R56) -/

/-- Marking a protocol fault in the sticky fault set (R56, R180). -/
def State.protocolMarked (s : State) : State :=
  { s with ret := { s.ret with sticky := { s.ret.sticky with pressProtocol := true } } }

section Protocol

variable {s : State} {p : PressNo}

theorem State.protocolFault_eq (s : State) (p : PressNo) :
    s.protocolFault p = ((s.raise .protocolFault (.press p) none).protocolMarked).restartLink p := rfl

@[simp] theorem State.press_protocolMarked (q : PressNo) : s.protocolMarked.press q = s.press q := rfl

theorem NoWork.protocolMarked (h : NoWork s) : NoWork s.protocolMarked := ⟨h.free, h.nobody⟩

@[simp] theorem State.protocolMarked_modPress (f : Press → Press) :
    (s.modPress p f).protocolMarked = s.protocolMarked.modPress p f := rfl

/-- The protocol fault of a linked press that is not BUSY, with an empty path and in no queue, where there is no work. -/
theorem State.protocolFault_noWork (up : (s.press p).state ≠ .down) (hq : Quiet s) (work : NoWork s)
    (not_busy : ∀ m, (s.press p).state ≠ .busy m) (path : (s.press p).path = [])
    (unqueued : ∀ c, (s.circuit c).queue.contains p = false) :
    s.protocolFault p =
      ((((s.raise .protocolFault (.press p) none).protocolMarked).modPress p restarted).mark (.press p)).linkAlerts p false := by
  rw [State.protocolFault_eq]
  refine State.restartLink_noWork (by simpa using up) ?_ ?_ (by simpa using not_busy) (by simpa using path) fun c => ?_
  · exact (quiet_raise s .protocolFault (.press p) none).mpr hq
  · exact NoWork.protocolMarked (by simpa using work)
  · exact (congrArg (fun x : Circuit => x.queue.contains p) (State.circuit_raise ..)).trans (unqueued c)

end Protocol

end Sys2Proof.Machine
end

section
/-! SUPPORT. The statements on the link's timers, on PRESS RESUME and PRESS RESTART, and on PICKED (O50, O34, O45). -/

namespace Sys2Proof.Machine

/-- Settles O50. -/
theorem linkTimers : Obligations.LinkTimers := by
  intro s p running hq
  refine ⟨fun up heartbeat unqueued => ?_, fun r restart signal elapsed => ?_, fun r either restart elapsed => ?_⟩
  · intro lost alerts
    have due : s.heartbeatDue p = true := by simp [State.heartbeatDue, up, Config.heartbeatMs, heartbeat]
    have taken {t : State} (down : s.linkDown p true = t.linkAlerts p true) (quiet : Quiet t) :
        exec (.heartbeatExpiry p) s = .next (alerts t) := by
      show whenRunning _ s = _
      rw [whenRunning, if_pos running, if_pos due, down, State.settle_quiet (quiet_linkAlerts.mpr quiet)]
      rfl
    refine ⟨fun work not_busy path => ?_, fun head rest e n j c still busy path hjob alone printing commit whole => ?_⟩
    · exact taken (State.linkDown_noWork hq work not_busy path unqueued) (by simpa [lost] using hq)
    · have rewinds : Rewinds s p e j := fun x hx => ⟨n, by
        obtain rfl : head = x := by simpa [path] using hx
        exact ⟨hjob, whole⟩⟩
      have left : s.linkUnbound p e j = ((lost.setJob e (some { j with
          commit := some { c with cursor := some n }, reprinted := min (j.reprinted + (rest.length + 1)) 4294967295
          state := .queued s.time, starve := none })).mark (.job e)).mark (.press p) := by
        simp [State.linkUnbound, busy, PressState.mediaWait, path, rewound, hjob, commit]
        rfl
      rw [← left]
      exact taken (State.linkDown_printing alone printing rewinds hq still unqueued)
        (by simpa [left, lost] using hq)
  · have due : s.signalDue p = true := by simp [State.signalDue, restart, signal, Config.signalMs, elapsed]
    show whenRunning (State.endSignal p) s = _
    rw [whenRunning, if_pos running, State.endSignal, if_pos due]
    exact congrArg Host.Outcome.next (State.modPress_congr (by simp [restart]))
  · intro ended
    have due : s.windowDue p = true := by simp [State.windowDue, restart, Config.windowMs, elapsed]
    have quiet : Quiet ended := by simpa [ended] using hq
    have left : NoWork ended ∨ Still ended := by
      simpa [ended] using either.imp (fun w => w.modPress p (w.nobody p)) (fun w => w.modPress p (w p))
    have atStart : ((s.press p).restart.any (·.atStart) && (ended.wantDemand.pressRec p).caps.isNone) = true ↔
        r.atStart = true ∧ (s.pressRec p).caps = none := by
      simp [restart, ended]
    show whenRunning (State.endWindow p) s = _
    rw [whenRunning, if_pos running, State.endWindow, if_pos due]
    refine congrArg Host.Outcome.next ?_
    show (if ((s.press p).restart.any (·.atStart) && (ended.wantDemand.pressRec p).caps.isNone) = true then ended.wantDemand
      else ended.wantDemand.raise .linkDown (.press p) none).settle = _
    by_cases first : r.atStart = true ∧ (s.pressRec p).caps = none
    · rw [if_pos (atStart.mpr first), if_pos first]
      exact (Settles.demand_either quiet left).settle (by decide)
    · rw [if_neg (mt atStart.mp first), if_neg first, State.raise_wantDemand]
      exact (Settles.demand_either (by simpa using quiet) (by simpa using left)).settle (by decide)

/-- Settles O45. -/
theorem pickedAndFault : Obligations.PickedAndFault := by
  intro s p q linked
  refine ⟨fun x named sent => ?_, fun work path not_busy unqueued => ?_⟩
  · have act : (s.heard p).onPicked p q = (s.heard p).modPress p fun y => { y with path := pickEntry q y.path } := by
      simp only [State.onPicked, State.press_heard, named, sent, if_true]
    rw [exec_linked linked (f := .picked q) rfl, State.frameAct, act, State.settle_quiet (by simpa using linked.quiet),
      State.heard, State.modPress_twice]
    rfl
  · intro raised marked t
    have fault : (s.heard p).protocolFault p = t := by
      rw [State.protocolFault_noWork (by simpa using linked.up) (by simpa using linked.quiet) work.heard
        (by simpa using not_busy) (by simpa using path) unqueued]
      have heard : ((((s.heard p).raise .protocolFault (.press p) none).protocolMarked).modPress p restarted) =
          (marked.modPress p restarted) := by
        simp only [State.heard]
        rw [← State.modPress_raise, State.protocolMarked_modPress, State.modPress_twice]
        rfl
      rw [heard]
      exact (State.mark_of_pending (by simp) (State.pending_linkAlerts (b := false) (by simp) (State.pending_mark_self _ _))).symm
    have quiet : Quiet t := by
      simp only [t, quiet_mark, quiet_endCondition, quiet_modPress]
      exact (quiet_raise s .protocolFault (.press p) none).mpr linked.quiet
    refine ⟨?_, ?_⟩
    · have act : (s.heard p).onPicked p q = t := by
        simp only [State.onPicked, State.press_heard, path, List.find?_nil, fault]
      rw [exec_linked linked (f := .picked q) rfl, State.frameAct, act, State.settle_quiet quiet]
    · have act : (s.heard p).onDelivered p q = t := by
        simp only [State.onDelivered, State.press_heard, path, fault]
      rw [exec_linked linked (f := .delivered q) rfl, State.frameAct, act, State.settle_quiet quiet]

/-- Settles O34. -/
theorem pressResumesAndRestarts : Obligations.PressResumesAndRestarts := by
  intro s tag p free
  refine ⟨fun steady => ⟨fun work cover halted => ?_, fun not_wake not_cal => ?_, fun down => ?_, fun up unqueued => ?_⟩,
    fun restarting => ⟨fun c q row named => ?_, fun f pool circuit => ?_⟩⟩
  · have resumable : (s.press p).state.resumable = true := by
      rcases halted with h | h <;> simp [h, PressState.resumable]
    have idle := (Settles.enterIdle_noWork free.quiet work (p := p) (by rcases halted with h | h <;> simp [h])).settle (by decide)
    rw [if_neg cover] at idle
    refine exec_free free rfl ?_
    rw [performRequest, reqPressResume, withPress_ofNat, steady]
    simp [resumable, idle]
  · have refused : (s.press p).state.resumable = false := by
      unfold PressState.resumable
      split
      · exact absurd (by assumption) not_wake
      · exact absurd (by assumption) not_cal
      · rfl
    refine exec_free free rfl ?_
    rw [performRequest, reqPressResume, withPress_ofNat, steady]
    simp [refused, refuse]
  · refine exec_free free rfl ?_
    rw [performRequest, reqPressRestart, withPress_ofNat, steady, State.restartLink_down down,
      State.settle_quiet (by simpa using free.quiet)]
    rfl
  · intro ends
    have taken {t : State} (restart : s.restartLink p = t.linkAlerts p false) (quiet : Quiet t) : ends t := by
      refine exec_free free rfl ?_
      rw [performRequest, reqPressRestart, withPress_ofNat, steady, restart,
        State.settle_quiet (quiet_linkAlerts.mpr quiet)]
      rfl
    refine ⟨fun work not_busy path => ?_, fun e j still alone printing rewinds => ?_⟩
    · exact taken (State.restartLink_noWork up free.quiet work not_busy path unqueued) (by simpa using free.quiet)
    · intro t
      have quiet : Quiet t := by simpa [t] using free.quiet
      have taken_up : ends (if (s.press p).state.mediaWait then t.endCondition .mediaOut (.press p) else t) := by
        refine taken (State.restartLink_printing up free.quiet still alone printing rewinds unqueued) ?_
        split <;> simpa using quiet
      generalize (s.press p).state = st at taken_up ⊢
      cases st with
      | busy m => cases m <;> exact taken_up
      | _ => exact taken_up
  · refine exec_free free row ?_
    obtain ⟨tag, kind, req⟩ := q
    simp only [List.mem_cons, List.not_mem_nil, or_false] at named
    rcases named with rfl | rfl | rfl | rfl | rfl | rfl | rfl | rfl | rfl <;>
      simp [performRequest, reqPressRead, reqPressWake, reqPressSleep, reqPressCalibrate, reqPressResume, reqPressRestart,
        reqMeterRead, withPress_ofNat, restarting, refuse]
  · refine exec_free free rfl ?_
    have pools : ∃ q, poolOf f.pool = some q := by
      rcases pool with low | all
      · by_cases none_pool : f.pool = 0xFF
        · exact ⟨none, by simp [poolOf, none_pool]⟩
        · exact ⟨some ⟨f.pool.toNat, low⟩, by rw [poolOf, if_neg none_pool, dif_pos low]⟩
      · exact ⟨none, by simp [poolOf, all]⟩
    obtain ⟨q, hq⟩ := pools
    have named : circuitOf f.circuit = some ⟨f.circuit.toNat, circuit⟩ := by simp [circuitOf, circuit]
    rw [performRequest, reqPressSet, withPress_ofNat]
    simp [hq, named, restarting, refuse]

end Sys2Proof.Machine
end

section
/-! SUPPORT. The pattern sheets of a calibration run (R61, R114), and PRESS CALIBRATE (R113). -/

namespace Sys2Proof.Machine

/-- The first stretch of a pattern sheet's first side: 512 of its 2,048 bytes (R48, R114). -/
def patternStart (long : Bool) (sheet : Nat) : List Byte := (List.range 512).map fun i => Config.patternByte long sheet 1 i

theorem patternChunk_first (long : Bool) (sheet : Nat) : patternChunk long sheet 1 0 = patternStart long sheet := by
  simp [patternChunk, patternStart, Config.blockBytes, Config.patternBytes]

@[simp] theorem length_patternStart (long : Bool) (sheet : Nat) : (patternStart long sheet).length = 512 := by
  simp [patternStart]

/-- A whole block that does not end its side goes in two frames of 256 bytes (R48). -/
theorem dataFrames_block (seq : Seq) (side : Nat) {bs : List Byte} (h : bs.length = 512) :
    dataFrames seq side bs false = [.data seq side (bs.take 256), .data seq side (bs.drop 256)] := by
  have half : (bs.drop 256).length = 256 := by simp [h]
  have nothing : (bs.drop 256).drop 256 = [] := List.drop_eq_nil_iff.mpr (by omega)
  unfold dataFrames
  rw [h, cutFrames_long (by omega), cutFrames_long (by omega), nothing, cutFrames_short (by simp),
    List.take_of_length_le (by omega : (bs.drop 256).length ≤ 256)]
  rfl

section Pattern

variable {s : State} {p : PressNo} {run : CalRun} {t media sides : Nat}

/-- The first stretch of the pattern sheet that a calibrating press is sending (R61, R114). -/
theorem State.fetch_pattern {ent : PathEntry} (cal : (s.press p).state = .calibrating run t) (service : ent.job = none) :
    s.fetch p ent 1 0 = .chunk (patternStart run.long run.started) false := by
  have pattern : (s.press p).pattern = (run.long, run.started) := by simp [Press.pattern, cal]
  simp [State.fetch, service, pattern, patternChunk_first, Config.patternBytes, Config.blockBytes]

/-- A pattern sheet starts behind a frame on the line (R47, R48, R114). -/
theorem State.startSheet_pattern_behind (cal : (s.press p).state = .calibrating run t) (line : (s.press p).line ≠ none)
    (queue : (s.press p).txq = []) : s.startSheet p none media sides = s.modPress p fun x =>
      { x with
        seq := x.seq + 1
        txq := .sheet x.seq media sides :: dataFrames x.seq 1 (patternStart run.long run.started) false
        send := .sending 1 512 false
        path := x.path ++ [{ seq := x.seq, job := none, sides := sides, media := media, state := .sending }] } := by
  unfold State.startSheet
  dsimp only
  rw [if_pos (by simpa [Option.isSome_iff_ne_none] using line)]
  refine Eq.trans (State.feedSide_chunk (State.fetch_pattern (by simpa using cal) rfl)) ?_
  rw [State.modPress_twice]
  exact State.modPress_congr (by simp [queue])

/-- A pattern sheet starts on a free line with nothing to send (R47, R48, R114). -/
theorem State.startSheet_pattern (cal : (s.press p).state = .calibrating run t) (line : (s.press p).line = none)
    (queue : (s.press p).txq = []) (credit : 0 < (s.press p).credits) : s.startSheet p none media sides =
      s.modPress p (started none media sides (patternStart run.long run.started) false) := by
  unfold State.startSheet
  dsimp only
  rw [if_neg (by simp [line]), State.pump_credit (f := .sheet (s.press p).seq media sides) (rest := []) (by simp [line])
    (by simp [queue]) rfl (by simpa using credit)]
  simp only [State.feed, State.modPress_twice, State.press_modPress_self, Press.unsent, List.any_nil, Bool.false_eq_true,
    if_false, List.getLast?_append, List.getLast?_singleton, Option.some_or, Bool.not_false, if_true]
  refine Eq.trans (State.feedSide_chunk (State.fetch_pattern (run := run) (t := t) (by simpa using cal) rfl)) ?_
  rw [State.modPress_twice]
  exact State.modPress_congr (by simp [started])

/-- The next pattern sheet of a run starts where the press lets a sheet start and a tray is LOADED (R114). -/
theorem State.examine_pattern {tray : Tray} (cal : (s.press p).state = .calibrating run t)
    (loaded : ((s.pressRec p).caps.bind fun c => c.trays.find? fun t => t.loaded) = some tray) (free : ¬ NoStart s p)
    (left : run.started < run.count) : s.examine p =
      (s.modPress p fun x => { x with state := .calibrating { run with started := run.started + 1 } t }).startSheet p none
        tray.media (patternSides run.long ((s.pressRec p).caps.any fun c => c.duplex) (run.started + 1)) := by
  have media : s.patternMedia p = some tray.media := by
    obtain ⟨c, hc, hfind⟩ := Option.bind_eq_some_iff.mp loaded
    simp [State.patternMedia, hc, hfind]
  simp [State.examine, cal, State.examinePattern, media, left, State.pressReady_iff.mpr free]

/-- A run with no sheet left to start, or no LOADED tray, starts none (R114). -/
theorem State.examine_pattern_none (cal : (s.press p).state = .calibrating run t)
    (nothing : run.count ≤ run.started ∨ ((s.pressRec p).caps.bind fun c => c.trays.find? fun t => t.loaded) = none) :
    s.examine p = s := by
  simp only [State.examine, cal, State.examinePattern]
  cases media : s.patternMedia p with
  | none => rfl
  | some m =>
    rcases nothing with all_started | unloaded
    · simp [Nat.not_lt.mpr all_started]
    · cases hc : (s.pressRec p).caps with
      | none => simp [State.patternMedia, hc] at media
      | some c =>
        have none_loaded : (c.trays.find? fun t => t.loaded) = none := by simpa [hc] using unloaded
        simp [State.patternMedia, hc, none_loaded] at media

/-- A press whose run has begun with CALIBRATE on the line and its first pattern sheet behind it (R98, R114). -/
def patternBegun (long : Bool) (tray : Tray) (x : Press) : Press :=
  { x with
    state := .calibrating { long := long, count := if long then 3 else 1, started := 1 } 0, resumeMark := false
    line := some (.calibrate long (if long then 3 else 1)), seq := x.seq + 1
    txq := [.sheet x.seq tray.media 1, .data x.seq 1 ((patternStart long 1).take 256),
      .data x.seq 1 ((patternStart long 1).drop 256)]
    send := .sending 1 512 false
    path := [{ seq := x.seq, job := none, sides := 1, media := tray.media, state := .sending }] }

/-- The first pattern sheet of a run starts behind CALIBRATE where the press has a credit, the supply is NORMAL and a tray
is LOADED (R114). -/
theorem State.examine_calibrated_starts {c : Caps} {tray : Tray} (caps : (s.pressRec p).caps = some c)
    (loaded : (c.trays.find? fun t => t.loaded) = some tray) (low : s.low = false) (path : (s.press p).path = [])
    (send : (s.press p).send = .idle) (credits : 0 < (s.press p).credits) (depth : 1 ≤ c.depth)
    (queue : (s.press p).txq = []) : (s.calibrated p).wantDemand.examine p =
      ((s.modPress p (patternBegun (s.pressRec p).longDue tray)).mark (.press p)).wantDemand := by
  have room : ¬ NoStart (s.calibrated p).wantDemand p := by
    rintro (no_credit | supply | sending | full)
    · rw [State.calibrated] at no_credit
      simp only [State.press_wantDemand, State.press_mark, State.press_modPress_self] at no_credit
      omega
    · exact absurd (low.symm.trans supply) (by simp)
    · exact sending (by simpa [State.calibrated] using send)
    · simp [State.calibrated, State.depth, caps, path] at full
      omega
  rw [State.examine_pattern (tray := tray) (t := 0) (run := (s.pressRec p).newRun)
    (by simp [State.calibrated, PressRec.newRun]) (by simp [State.calibrated, caps, loaded]) room
    (by unfold PressRec.newRun; dsimp only; split <;> decide)]
  rw [State.startSheet_pattern_behind (t := 0) (run := { (s.pressRec p).newRun with started := 1 }) (by simp [PressRec.newRun]) (by simp [State.calibrated])
    (by simp [State.calibrated, queue]), State.calibrated]
  simp only [State.modPress_wantDemand, State.modPress_mark, State.modPress_twice]
  refine congrArg (fun t : State => (t.mark (.press p)).wantDemand) (State.modPress_congr ?_)
  rw [dataFrames_block _ _ (length_patternStart _ _), path]
  simp [patternSides, patternBegun, PressRec.newRun]

end Pattern

/-- Settles O33. -/
theorem pressCalibrates : Obligations.PressCalibrates := by
  intro s tag p long free steady due ok
  have kind : ¬ 1 < (BitVec.ofNat 8 long.toNat).toNat := by cases long <;> decide
  have flagged : s.modRec p (PressRec.setDue (BitVec.ofNat 8 long.toNat == 1)) = due :=
    State.modRec_congr (by cases long <;> simp [PressRec.setDue])
  have taken {t : State} (h : (if (due.press p).state.isIdle then (due.enterCalibrating p).settle else due) = t) : ok t := by
    refine exec_free free rfl ?_
    rw [performRequest, reqPressCalibrate, withPress_ofNat, if_neg kind, steady]
    simp only [Bool.false_eq_true, if_false, flagged, h]
  have quiet : Quiet due := by simpa [due] using free.quiet
  have press : due.press p = s.press p := by simp [due]
  refine ⟨fun not_idle => taken (if_neg (by simp [press, not_idle])), fun b t work idle cover queue line => ?_⟩
  intro run n
  have not_busy : ∀ m, (due.press p).state ≠ .busy m := by simp [press, idle]
  have flag : (due.pressRec p).longDue = run := by simp [due, run]
  have calibrated : due.calibrated p = (due.modPress p fun x =>
      { x with state := .calibrating { long := run, count := n, started := 0 } 0, resumeMark := false
               line := some (.calibrate run n) }).mark (.press p) := by
    rw [State.calibrated, flag]
  have work' : NoWork (due.calibrated p) := by
    rw [calibrated, noWork_mark]
    exact NoWork.modPress (by simpa [due] using work) p (by simp)
  have quiet' : Quiet (due.calibrated p) := by simpa [calibrated] using quiet
  have entered {t : State} (h : (due.enterCalibrating p).settle = t) : ok t :=
    taken (by rw [press, idle]; exact h)
  refine ⟨fun credits => ?_, fun c tray caps loaded low path send credits depth => ?_⟩
  · rw [← calibrated]
    exact entered ((Settles.calibrated quiet not_busy (by simpa [press] using cover) (by simpa [press] using queue)
      (by simpa [press] using line) (by simpa [press] using credits) (Settles.demand_noWork quiet' work')).settle (by decide))
  · intro bytes
    have begun := State.examine_calibrated_starts (s := due) (p := p) (tray := tray) (c := c) (by simpa [due] using caps) loaded
      low (by simpa [press] using path) (by simpa [press] using send) (by simpa [press] using credits) depth
      (by simpa [press] using queue)
    have left : due.modPress p (patternBegun (due.pressRec p).longDue tray) = due.modPress p fun x =>
        { x with
          state := .calibrating { long := run, count := n, started := 1 } 0, resumeMark := false
          line := some (.calibrate run n), seq := x.seq + 1
          txq := [.sheet x.seq tray.media 1, .data x.seq 1 (bytes.take 256), .data x.seq 1 (bytes.drop 256)]
          send := .sending 1 512 false
          path := [{ seq := x.seq, job := none, sides := 1, media := tray.media, state := .sending }] } := by
      rw [flag]
      rfl
    rw [left] at begun
    refine entered ?_
    rw [State.enterCalibrating_eq not_busy (by simpa [press] using cover) (by simpa [press] using queue)
      (by simpa [press] using line)]
    refine (Settles.examine (s := (due.calibrated p).wantDemand) quiet'.1 ?_).settle (k := 3) (by decide)
    rw [begun]
    refine Settles.demand_noWork ?_ ?_
    · simpa using quiet
    rw [noWork_mark]
    exact NoWork.modPress (by simpa [due] using work) p (by simp)

end Sys2Proof.Machine
end

section
/-! SUPPORT. The timers that are due (spec/00 section 6.5): when each is, which commands join the queue at a tick, and the
statement on the tick (O2). -/

namespace Sys2Proof.Machine

section Due

variable {s : State}

theorem State.heartbeatDue_iff {p : PressNo} :
    s.heartbeatDue p = true ↔ (s.press p).state ≠ .down ∧ 5000 ≤ (s.press p).heartbeat := by
  simp [State.heartbeatDue, Config.heartbeatMs]

theorem State.signalDue_iff {p : PressNo} :
    s.signalDue p = true ↔ ∃ r, (s.press p).restart = some r ∧ r.signal = true ∧ 10 ≤ r.elapsed := by
  simp [State.signalDue, Config.signalMs, Option.any_eq_true]

theorem State.windowDue_iff {p : PressNo} :
    s.windowDue p = true ↔ ∃ r, (s.press p).restart = some r ∧ 10000 ≤ r.elapsed := by
  simp [State.windowDue, Config.windowMs, Option.any_eq_true]

theorem State.wakeDue_iff {p : PressNo} : s.wakeDue p = true ↔ ∃ t, (s.press p).state = .waking t ∧ 180000 ≤ t := by
  unfold State.wakeDue
  cases (s.press p).state <;> simp [Config.wakeMs]

theorem State.calibrationDue_iff {p : PressNo} :
    s.calibrationDue p = true ↔ ∃ run t, (s.press p).state = .calibrating run t ∧ 300000 ≤ t := by
  unfold State.calibrationDue
  cases (s.press p).state <;> simp [Config.calibrationMs]

theorem State.starveDue_iff {e : Entry} : (s.starveDue e).isSome = true ↔
    ∃ j p t, s.job e = some j ∧ j.state = .printing p ∧ j.starve = some t ∧ t.limit ≤ t.elapsed := by
  unfold State.starveDue
  cases s.job e with
  | none => simp
  | some j =>
    cases hst : j.state with
    | printing p =>
      cases ht : j.starve with
      | none => simp [ht]
      | some t => simp [hst, ht]
    | _ => simp [hst]

theorem State.idleExpired_iff {p : PressNo} : s.idleExpired p = true ↔
    ∃ t, (s.press p).state = .idle false t ∧ (s.pressRec p).idleTimeout ≠ 0 ∧ (s.pressRec p).idleTimeout * 60000 ≤ t := by
  unfold State.idleExpired
  cases (s.press p).state with
  | idle pending t => cases pending <;> simp
  | _ => simp

theorem State.sleepDue_iff {p : PressNo} : s.sleepDue p = true ↔ (∃ t, (s.press p).state = .idle true t) ∧
    ∀ since, (s.press p).awakeSince = some since → (s.pressRec p).minAwake * 60 ≤ (s.time - since).toNat := by
  have passed : s.sleepPointPassed p = true ↔
      ∀ since, (s.press p).awakeSince = some since → (s.pressRec p).minAwake * 60 ≤ (s.time - since).toNat := by
    unfold State.sleepPointPassed
    cases (s.press p).awakeSince with
    | none => simp
    | some t =>
      simp only [decide_eq_true_eq, Option.some.injEq, forall_eq']
      exact Iff.rfl
  rw [← passed]
  unfold State.sleepDue
  cases (s.press p).state with
  | idle pending t => cases pending <;> simp
  | _ => simp

theorem State.grantPasses_iff {c : CircuitNo} : (s.windowPasses c && s.spacingPasses c) = true ↔
    GrantOpen (s.settings c) (s.circuit c).ring s.time := by
  rw [Bool.and_eq_true]
  refine and_congr ?_ ?_
  · simp only [State.windowPasses, Bool.or_eq_true, beq_iff_eq, decide_eq_true_eq]
    exact Iff.rfl
  · unfold State.spacingPasses
    cases (s.circuit c).ring with
    | nil => simp
    | cons newest rest =>
      simp only [Bool.or_eq_true, beq_iff_eq, decide_eq_true_eq, List.head?_cons, Option.mem_def, Option.some.injEq, forall_eq']
      exact Iff.rfl

theorem State.grantDue_iff {c : CircuitNo} : s.grantDue c = true ↔ (s.circuit c).queue ≠ [] ∧
    GrantOpen (s.settings c) (s.circuit c).ring s.time := by
  rw [State.grantDue, Bool.and_assoc, Bool.and_eq_true, State.grantPasses_iff]
  simp

theorem grantOpen_iff {x : CircuitSettings} {ring : List Time} {now : Time} : GrantOpen x ring now ↔
    (x.tw = 0 ∨ (ring.filter fun t => decide ((now - t).toNat < x.tw)).length < x.w) ∧
      (x.ts = 0 ∨ ∀ t ∈ ring.head?, x.ts ≤ (now - t).toNat) := by
  unfold GrantOpen
  cases ring <;> simp

theorem State.escalationDue_iff {n : AlertNo} : s.escalationDue n = true ↔
    ∃ a, s.alert n = some a ∧ a.state = .activeUnacked ∧ a.level < 15 ∧ s.ret.schedule.escalation ≠ 0 ∧
      s.ret.schedule.escalation ≤ (s.time - a.changedAt).toNat := by
  unfold State.escalationDue
  cases s.alert n with
  | none => simp
  | some a =>
    simp only [Option.any_some, Bool.and_eq_true, bne_iff_ne, beq_iff_eq, decide_eq_true_eq, Option.some.injEq,
      exists_eq_left']
    exact ⟨fun ⟨on, ⟨unacked, below⟩, late⟩ => ⟨unacked, below, on, late⟩,
      fun ⟨unacked, below, on, late⟩ => ⟨on, ⟨unacked, below⟩, late⟩⟩

end Due

/-! ## The commands that join the queue at a tick (log entry 2) -/

section Events

variable {s : State}

/-- Whether a command is that of a timer due (log entry 2). -/
def State.IsDue (s : State) (c : Instr) : Prop :=
  (∃ p, c = .heartbeatExpiry p ∧ s.heartbeatDue p = true) ∨ (∃ p, c = .restartSignalEnd p ∧ s.signalDue p = true) ∨
  (∃ p, c = .restartWindowExpiry p ∧ s.windowDue p = true) ∨ (∃ p, c = .wakeTimeout p ∧ s.wakeDue p = true) ∨
  (∃ p, c = .calibrationTimeout p ∧ s.calibrationDue p = true) ∨
  (∃ e, c = .starveExpiry e ∧ (s.starveDue e).isSome = true) ∨ (∃ p, c = .idleTimerExpiry p ∧ s.idleExpired p = true) ∨
  (∃ p, c = .sleepPointReached p ∧ s.sleepDue p = true) ∨ (∃ k, c = .nextGrantTime k ∧ s.grantDue k = true) ∨
  ∃ n, c = .escalation n ∧ s.escalationDue n = true

/-- The commands of one kind of timer are those of its timers that are due. -/
theorem mem_events {n : Nat} {test : Fin n → Bool} {f : Fin n → Instr} {c : Instr} :
    c ∈ ((List.finRange n).filter test).map f ↔ ∃ i, c = f i ∧ test i = true := by
  simp only [List.mem_map, List.mem_filter, List.mem_finRange, true_and]
  exact exists_congr fun i => and_comm.trans (and_congr_left' eq_comm)

theorem State.mem_dueEvents {c : Instr} : c ∈ s.dueEvents ↔ s.IsDue c := by
  simp only [State.dueEvents, allPresses, allEntries, allAlerts, List.mem_append, mem_events, State.IsDue, or_assoc]

/-- The place of a timer's kind in the order in which the commands of the timers due join (log entry 2). -/
def timerKind : Instr → Nat
  | .heartbeatExpiry _ => 0
  | .restartSignalEnd _ => 1
  | .restartWindowExpiry _ => 2
  | .wakeTimeout _ => 3
  | .calibrationTimeout _ => 4
  | .starveExpiry _ => 5
  | .idleTimerExpiry _ => 6
  | .sleepPointReached _ => 7
  | .nextGrantTime _ => 8
  | _ => 9

/-- Commands each once, of the first `k` kinds of timer. -/
structure KindsBelow (k : Nat) (l : List Instr) : Prop where
  nodup : l.Nodup
  below : ∀ c ∈ l, timerKind c < k

/-- The commands of the next kind join behind the others, each once. -/
theorem KindsBelow.append {k n : Nat} {l : List Instr} (h : KindsBelow k l) (test : Fin n → Bool) {f : Fin n → Instr}
    (inj : Function.Injective f) (kind : ∀ i, timerKind (f i) = k) :
    KindsBelow (k + 1) (l ++ ((List.finRange n).filter test).map f) := by
  refine ⟨List.nodup_append.mpr ⟨h.nodup, ((List.nodup_finRange n).filter _).map inj, fun c hc d hd same => ?_⟩,
    fun c hc => ?_⟩
  · obtain ⟨i, rfl, -⟩ := mem_events.mp hd
    exact absurd (h.below c hc) (by rw [same, kind]; exact Nat.lt_irrefl k)
  · rcases List.mem_append.mp hc with old | new
    · exact Nat.lt_succ_of_lt (h.below c old)
    · obtain ⟨i, rfl, -⟩ := mem_events.mp new
      rw [kind]
      exact Nat.lt_succ_self k

theorem State.nodup_dueEvents : s.dueEvents.Nodup := by
  have none : KindsBelow 0 [] := ⟨List.nodup_nil, fun c hc => absurd hc List.not_mem_nil⟩
  have all := (((((((((none.append s.heartbeatDue (f := .heartbeatExpiry) (fun _ _ => by simp) fun _ => rfl).append
    s.signalDue (f := .restartSignalEnd) (fun _ _ => by simp) fun _ => rfl).append
    s.windowDue (f := .restartWindowExpiry) (fun _ _ => by simp) fun _ => rfl).append
    s.wakeDue (f := .wakeTimeout) (fun _ _ => by simp) fun _ => rfl).append
    s.calibrationDue (f := .calibrationTimeout) (fun _ _ => by simp) fun _ => rfl).append
    (fun e => (s.starveDue e).isSome) (f := .starveExpiry) (fun _ _ => by simp) fun _ => rfl).append
    s.idleExpired (f := .idleTimerExpiry) (fun _ _ => by simp) fun _ => rfl).append
    s.sleepDue (f := .sleepPointReached) (fun _ _ => by simp) fun _ => rfl).append
    s.grantDue (f := .nextGrantTime) (fun _ _ => by simp) fun _ => rfl).append
    s.escalationDue (f := .escalation) (fun _ _ => by simp) fun _ => rfl
  exact all.nodup

end Events

/-- Settles O2. -/
theorem tickCounts : Obligations.TickCounts := by
  intro s empty
  have ticks : step s = .next s.tick := by simp only [step, empty]
  refine ⟨fun stopped => by rw [ticks, State.tick, if_neg stopped], fun running => ?_⟩
  have joins (c : Instr) {d : Bool} {P : Prop} (named : s.count.IsDue c ↔ d = true) (due : d = true ↔ P) :
      c ∈ s.count.dueEvents ↔ P := State.mem_dueEvents.trans (named.trans due)
  intro time
  refine ⟨s.count.presses, s.count.jobs, s.count.dueEvents, ?_, fun p => ?_, fun e => ?_, ?_, ?_, ?_, ?_, ?_, ?_, ?_, ?_, ?_, ?_,
    State.nodup_dueEvents, fun c hc => ?_⟩
  · rw [ticks, State.tick, if_pos running, empty]
    rfl
  · have counted : s.count.presses[p] = (s.press p).tick s.low := Vector.getElem_map ..
    rw [counted]
    rfl
  · have counted : s.count.jobs[e] = (s.job e).map Job.tick := Vector.getElem_map ..
    rw [counted]
    rfl
  · exact fun i => joins _ (by simp [State.IsDue]) State.heartbeatDue_iff
  · exact fun i => joins _ (by simp [State.IsDue]) State.signalDue_iff
  · exact fun i => joins _ (by simp [State.IsDue]) State.windowDue_iff
  · exact fun i => joins _ (by simp [State.IsDue]) State.wakeDue_iff
  · exact fun i => joins _ (by simp [State.IsDue]) State.calibrationDue_iff
  · exact fun i => joins _ (by simp [State.IsDue]) State.starveDue_iff
  · exact fun i => joins _ (by simp [State.IsDue]) State.idleExpired_iff
  · exact fun i => joins _ (by simp [State.IsDue]) State.sleepDue_iff
  · intro i
    refine joins _ (by simp [State.IsDue]) ((State.grantDue_iff (s := s.count) (c := i)).trans ?_)
    rw [grantOpen_iff]
    exact Iff.rfl
  · exact fun i => joins _ (by simp [State.IsDue]) (State.escalationDue_iff (s := s.count))
  · rcases State.mem_dueEvents.mp hc with ⟨p, rfl, -⟩ | ⟨p, rfl, -⟩ | ⟨p, rfl, -⟩ | ⟨p, rfl, -⟩ | ⟨p, rfl, -⟩ | ⟨e, rfl, -⟩ |
      ⟨p, rfl, -⟩ | ⟨p, rfl, -⟩ | ⟨k, rfl, -⟩ | ⟨n, rfl, -⟩ <;> simp

end Sys2Proof.Machine
end

section
/-! SUPPORT. Examinations of many presses in one step (R174; log entry 53): each is made on what those before it left. -/

namespace Sys2Proof.Machine

section Examinations

variable {s t u : State} {p : PressNo} {l : List PressNo}

/-- The examination of a press takes one state to another, whatever else is to be done. -/
def Examines (p : PressNo) (s t : State) : Prop := ∀ l, (s.withAgenda l).examine p = t.withAgenda l

/-- The examinations of presses, one after the other, with no wake demand raised. -/
inductive ExaminedAll : List PressNo → State → State → Prop where
  | nil (s : State) : ExaminedAll [] s s
  | cons {p : PressNo} {l : List PressNo} {s t u : State} (first : Examines p s t) (calm : t.demand = false)
      (rest : ExaminedAll l t u) : ExaminedAll (p :: l) s u

/-- Examinations that change nothing. -/
theorem ExaminedAll.same (calm : s.demand = false) (h : ∀ p, Examines p s s) : ∀ l, ExaminedAll l s s
  | [] => .nil s
  | p :: l => .cons (h p) calm (ExaminedAll.same calm h l)

/-- The examinations raised are made in their order. -/
theorem ExaminedAll.settles (h : ExaminedAll l s t) (calm : s.demand = false) :
    Settles (l.length + 1) (s.withAgenda (l.map .examine)) (t.withAgenda []) := by
  induction h with
  | nil s => exact Settles.quiet ⟨rfl, calm⟩
  | @cons p l s t u first calm' rest ih =>
    have left : ((s.withAgenda (l.map .examine)).perform (.examine p)).newFirst (l.map Task.examine).length =
        t.withAgenda (l.map .examine) := by
      rw [show (s.withAgenda (l.map .examine)).perform (.examine p) = t.withAgenda (l.map .examine) from first _]
      simp [State.newFirst, State.withAgenda, ← List.map_take, ← List.map_drop]
    refine Settles.front calm ?_
    rw [left]
    simpa using ih calm'

theorem State.foldl_push (l : List PressNo) (s : State) :
    l.foldl (fun s p => s.push (.examine p)) s = s.withAgenda (s.agenda ++ l.map .examine) := by
  induction l generalizing s with
  | nil => simp [State.withAgenda]
  | cons p l ih => rw [List.foldl_cons, ih]; simp [State.push, State.withAgenda]

/-- On the entry into NORMAL the presses are examined in ascending number (R174; log entry 53). -/
theorem State.enterNormal_settle (hq : Quiet s)
    (h : ExaminedAll allPresses (({ s with low := false } : State).endCondition .supplyLow .part) t) :
    s.enterNormal.settle = t.withAgenda [] := by
  have quiet : Quiet (({ s with low := false } : State).endCondition .supplyLow .part) :=
    (quiet_endCondition _ _ _).mpr hq
  rw [State.enterNormal, State.foldl_push, quiet.1, List.nil_append]
  exact (h.settles quiet.2).settle (by simp [allPresses])

/-- The entry into NORMAL is the end of SUPPLY_LOW alone where no press has a job bound or calibrates (R174). -/
theorem State.enterNormal_nothing (hq : Quiet s)
    (nothing : ∀ p, s.boundJob p = none ∧ ∀ r t, (s.press p).state ≠ .calibrating r t) :
    s.enterNormal.settle = ({ s with low := false } : State).endCondition .supplyLow .part := by
  have quiet : Quiet (({ s with low := false } : State).endCondition .supplyLow .part) :=
    (quiet_endCondition _ _ _).mpr hq
  have same (p : PressNo) : Examines p (({ s with low := false } : State).endCondition .supplyLow .part)
      (({ s with low := false } : State).endCondition .supplyLow .part) := fun l => by
    refine State.examine_unbound ?_ fun r t => ?_
    · have unbound := (nothing p).1
      rw [← State.boundJob_congr (t := (({ s with low := false } : State).endCondition .supplyLow .part).withAgenda l)] at unbound
      · exact unbound
      · exact State.endCondition_jobs ..
    · have press : ((({ s with low := false } : State).endCondition .supplyLow .part).withAgenda l).press p = s.press p :=
        State.press_endCondition ..
      rw [press]
      exact (nothing p).2 r t
  rw [State.enterNormal_settle hq (ExaminedAll.same quiet.2 same _), State.withAgenda_quiet quiet]

end Examinations

/-! ## The supply monitor (R174) -/

section Monitor

variable {s : State}

theorem State.evalSupply_rest (h : if s.low then s.sense ≤ 2990 + 40 * s.ret.schedule.threshold
    else 2920 + 40 * s.ret.schedule.threshold ≤ s.sense) : s.evalSupply = s := by
  unfold State.evalSupply risingMv fallingMv
  split at h
  case isTrue low => rw [if_pos low, if_neg (by omega)]
  case isFalse normal => rw [if_neg normal, if_neg (by omega)]

theorem State.evalSupply_falls (normal : s.low = false) (h : s.sense < 2920 + 40 * s.ret.schedule.threshold) :
    s.evalSupply = s.enterLow := by
  simp [State.evalSupply, normal, fallingMv, h]

theorem State.evalSupply_rises (low : s.low = true) (h : 2990 + 40 * s.ret.schedule.threshold < s.sense) :
    s.evalSupply = s.enterNormal := by
  have above : 2920 + 40 * s.ret.schedule.threshold + 70 < s.sense := by omega
  simp [State.evalSupply, low, risingMv, fallingMv, above]

/-- The entry into LOW raises SUPPLY_LOW and nothing else (R174). -/
theorem State.enterLow_settle (hq : Quiet s) :
    s.enterLow.settle = ({ s with low := true } : State).raise .supplyLow .part none :=
  State.settle_quiet ((quiet_raise _ _ _ _).mpr hq)

end Monitor

end Sys2Proof.Machine
end

section
/-! SUPPORT. The grants of a circuit (R104 to R106), and CIRCUIT SET (R103). -/

namespace Sys2Proof.Machine

section Grants

variable {s : State} {c : CircuitNo} {p : PressNo} {rest : List PressNo}

theorem State.grantLoop_empty (h : (s.circuit c).queue = []) (n : Nat) : s.grantLoop c n = s := by
  cases n <;> simp [State.grantLoop, h]

theorem State.grantLoop_closed (h : ¬ GrantOpen (s.settings c) (s.circuit c).ring s.time) (n : Nat) : s.grantLoop c n = s := by
  have closed : ¬ (s.windowPasses c && s.spacingPasses c) = true := mt State.grantPasses_iff.mp h
  cases n with
  | zero => rfl
  | succ n => cases hq : (s.circuit c).queue <;> simp only [State.grantLoop, hq, if_neg closed]

theorem State.grantLoop_open (hq : (s.circuit c).queue = p :: rest)
    (h : GrantOpen (s.settings c) (s.circuit c).ring s.time) (n : Nat) :
    s.grantLoop c (n + 1) = (s.grant c p rest).grantLoop c n := by
  simp only [State.grantLoop, hq, if_pos (State.grantPasses_iff.mpr h)]

/-- A press that waits for its wake by request of the host, its line free and nothing else to send. -/
structure ReadyToWake (s : State) (p : PressNo) : Prop where
  waits : (s.press p).state = .wakeWait .host
  queue : (s.press p).txq = []
  line : (s.press p).line = none

/-- The grant of a wake to a ready press (R92, R106). -/
theorem State.grant_ready (hq : (s.circuit c).queue = p :: rest) (ready : ReadyToWake s p) :
    s.grant c p rest = (s.wakeGranted c p).wantDemand := by
  have left : s.modCircuit c (fun x => { ring := (s.time :: x.ring).take 4, queue := rest }) =
      s.modCircuit c fun x => { ring := (s.time :: x.ring).take 4, queue := x.queue.drop 1 } := by
    simp [State.modCircuit, hq]
  unfold State.grant
  dsimp only
  rw [State.enter_other (by simp [ready.waits]), State.putState_eq, State.give]
  simp only [State.modPress_wantDemand, State.modPress_mark, State.modPress_twice]
  rw [State.pump_control (f := .wake) (rest := []) (by simp [ready.line]) (by simp [ready.queue]) rfl]
  simp only [State.modPress_wantDemand, State.modPress_mark, State.modPress_twice, left, State.wakeGranted]
  exact congrArg (fun t => (State.mark (.press p) t).wantDemand) (State.modPress_congr (by simp [ready.queue]))

theorem State.circuit_wakeGranted (c : CircuitNo) (p : PressNo) : (s.wakeGranted c p).circuit c =
    { ring := (s.time :: (s.circuit c).ring).take 4, queue := (s.circuit c).queue.drop 1 } := by
  simp [State.wakeGranted]

@[simp] theorem State.settings_wakeGranted (d : CircuitNo) : (s.wakeGranted c p).settings d = s.settings d := rfl

@[simp] theorem State.quiet_wakeGranted : Quiet (s.wakeGranted c p) ↔ Quiet s := Iff.rfl

theorem NoWork.wakeGranted (h : NoWork s) : NoWork (s.wakeGranted c p) := by
  have work : NoWork (s.modCircuit c fun x => { ring := (s.time :: x.ring).take 4, queue := x.queue.drop 1 }) :=
    ⟨h.free, h.nobody⟩
  exact (noWork_mark _ _).mpr (work.modPress p (by simp))

theorem ReadyToWake.other {q : PressNo} (h : ReadyToWake s q) (hp : q ≠ p) : ReadyToWake (s.wakeGranted c p) q := by
  have same : (s.wakeGranted c p).press q = s.press q := by
    simp [State.wakeGranted, State.press_modPress, Ne.symm hp]
  exact ⟨by rw [same]; exact h.waits, by rw [same]; exact h.queue, by rw [same]; exact h.line⟩

@[simp] theorem State.settings_wantDemand (d : CircuitNo) : s.wantDemand.settings d = s.settings d := rfl

theorem State.time_wakeGranted : (s.wakeGranted c p).time = s.time := by simp [State.wakeGranted]

/-- After a grant the spacing keeps the circuit closed at the same time (R104). -/
theorem State.wakeGranted_closed (h : (s.settings c).ts ≠ 0) :
    ¬ GrantOpen ((s.wakeGranted c p).wantDemand.settings c) ((s.wakeGranted c p).wantDemand.circuit c).ring
      (s.wakeGranted c p).wantDemand.time := by
  rintro ⟨-, spaced⟩
  rw [State.settings_wantDemand, State.settings_wakeGranted, State.circuit_wantDemand, State.circuit_wakeGranted,
    State.wantDemand_time, State.time_wakeGranted] at spaced
  have newest := spaced s.time (by simp)
  rw [BitVec.sub_self] at newest
  exact newest.elim h fun no_time => h (Nat.le_zero.mp no_time)

/-- The grant of one wake: a spacing is set, or nobody waits behind the head (R104, R106). -/
theorem State.grantCheck_one (hq : (s.circuit c).queue = p :: rest) (ready : ReadyToWake s p)
    (h : GrantOpen (s.settings c) (s.circuit c).ring s.time) (one : (s.settings c).ts ≠ 0 ∨ rest = []) :
    s.grantCheck c = (s.wakeGranted c p).wantDemand := by
  rw [State.grantCheck, State.grantLoop_open hq h, State.grant_ready hq ready]
  rcases one with spacing | nobody
  · exact State.grantLoop_closed (s := (s.wakeGranted c p).wantDemand) (State.wakeGranted_closed spacing) 11
  · refine State.grantLoop_empty (s := (s.wakeGranted c p).wantDemand) ?_ 11
    rw [State.circuit_wantDemand, State.circuit_wakeGranted, hq]
    exact nobody

/-- With neither window nor spacing every press that waits is granted its wake (R104, R106). -/
theorem State.grantLoop_all (tw : (s.settings c).tw = 0) (ts : (s.settings c).ts = 0) (l : List PressNo) :
    ∀ n, (s.circuit c).queue = l → l.length ≤ n → l.Nodup → (∀ q ∈ l, ReadyToWake s q) →
      s.wantDemand.grantLoop c n = (l.foldl (fun t q => t.wakeGranted c q) s).wantDemand := by
  induction l generalizing s with
  | nil => exact fun n hq _ _ _ => State.grantLoop_empty (s := s.wantDemand) hq n
  | cons q l ih =>
    intro n hq hn distinct ready
    obtain ⟨m, rfl⟩ : ∃ m, n = m + 1 := ⟨n - 1, by simp at hn; omega⟩
    obtain ⟨new, distinct'⟩ := List.nodup_cons.mp distinct
    have head := ready q List.mem_cons_self
    have opens : GrantOpen (s.wantDemand.settings c) (s.wantDemand.circuit c).ring s.wantDemand.time :=
      ⟨.inl tw, fun _ _ => .inl ts⟩
    have granted : s.wantDemand.grant c q l = (s.wakeGranted c q).wantDemand :=
      State.grant_ready (s := s.wantDemand) hq ⟨head.waits, head.queue, head.line⟩
    rw [State.grantLoop_open (s := s.wantDemand) hq opens, granted, List.foldl_cons]
    refine ih (s := s.wakeGranted c q) tw ts m ?_ (by simpa using hn) distinct' fun r hr => ?_
    · rw [State.circuit_wakeGranted, hq]
      rfl
    · exact (ready r (List.mem_cons_of_mem q hr)).other fun same => new (same ▸ hr)

end Grants

/-! ## CIRCUIT SET (R103) -/

theorem circuitOf_val (c : CircuitNo) : circuitOf (BitVec.ofNat 8 c.val) = some c := by
  have small : (BitVec.ofNat 8 c.val).toNat = c.val := by simp; omega
  simp [circuitOf, small]

theorem clamp_eq {lo hi n : Nat} (h : lo ≤ hi) : clamp lo hi n = if n < lo then lo else if hi < n then hi else n := by
  unfold clamp
  split <;> try split
  all_goals omega

/-- The settings that CIRCUIT SET stores (R103). -/
def circuitStored (w : Byte) (tw : BitVec 16) (ts : Byte) : CircuitSettings :=
  { w := clamp 1 4 w.toNat, tw := clampWindow tw.toNat, ts := min ts.toNat 60 }

/-- A state with the settings of a circuit stored (R103). -/
def State.setCircuit (c : CircuitNo) (x : CircuitSettings) (s : State) : State :=
  { s with ret := { s.ret with circuits := s.ret.circuits.set c x } }

section Stored

variable {s t : State} {c : CircuitNo} {x : CircuitSettings}

theorem State.settings_setCircuit : (s.setCircuit c x).settings c = x := by simp [State.settings, State.setCircuit]

theorem NoWork.setCircuit (h : NoWork s) : NoWork (s.setCircuit c x) := ⟨h.free, h.nobody⟩

/-- CIRCUIT SET is taken: the settings stored, and what the grant check leaves settled (R103). -/
theorem exec_circuitSet (free : HostFree s) (tag w ts : Byte) (tw : BitVec 16)
    (granted : ((s.setCircuit c (circuitStored w tw ts)).grantCheck c).settle = t)
    (kept : t.settings c = circuitStored w tw ts) :
    exec (.circuitSet tag (BitVec.ofNat 8 c.val) w tw ts) s = .next (t.answered tag 0x28 (okWith
      (le 1 (circuitStored w tw ts).w ++ le 2 (circuitStored w tw ts).tw ++ le 1 (circuitStored w tw ts).ts
        ++ counted ((t.circuit c).queue.map fun p => le 1 p.val)
        ++ counted ((t.circuit c).ring.map fun t => le 4 t.toNat)))) := by
  have bytes : t.circuitBytes c = le 1 (circuitStored w tw ts).w ++ le 2 (circuitStored w tw ts).tw
      ++ le 1 (circuitStored w tw ts).ts ++ counted ((t.circuit c).queue.map fun p => le 1 p.val)
        ++ counted ((t.circuit c).ring.map fun t => le 4 t.toNat) := by
    rw [State.circuitBytes, kept]
  refine exec_free free rfl ?_
  rw [← bytes, ← granted, performRequest, reqCircuitSet, circuitOf_val]
  rfl

end Stored

/-- Every wake of a circuit's queue granted: the circuit's settings, and that there is no work, are kept. -/
theorem State.foldl_wakeGranted {s : State} (hq : Quiet s) (work : NoWork s) (c : CircuitNo) (l : List PressNo) :
    Quiet (l.foldl (fun t p => t.wakeGranted c p) s) ∧ NoWork (l.foldl (fun t p => t.wakeGranted c p) s) ∧
      (l.foldl (fun t p => t.wakeGranted c p) s).settings c = s.settings c :=
  Local.fold (P := fun t => Quiet t ∧ NoWork t ∧ t.settings c = s.settings c)
    (f := fun t p => t.wakeGranted c p) l
    (fun _ _ h => ⟨h.1, h.2.1.wakeGranted, h.2.2⟩) s ⟨hq, work, rfl⟩

/-- CIRCUIT SET: the settings as stored, and the wakes that they grant (R103, R104, R106). -/
theorem circuit_outcomes {s : State} (free : HostFree s) (c : CircuitNo) (x : CircuitSettings) {takes : State → Prop}
    (takes_of : ∀ t, ((s.setCircuit c x).grantCheck c).settle = t → t.settings c = x → takes t) :
    ((s.circuit c).queue = [] ∨ ¬ GrantOpen x (s.circuit c).ring s.time → takes (s.setCircuit c x)) ∧
    (NoWork s → GrantOpen x (s.circuit c).ring s.time →
      (∀ p rest, (s.circuit c).queue = p :: rest → x.ts ≠ 0 ∨ rest = [] → ReadyToWake s p →
        takes ((s.setCircuit c x).wakeGranted c p)) ∧
      (x.tw = 0 → x.ts = 0 → (s.circuit c).queue.length ≤ 12 → (s.circuit c).queue.Nodup →
        (∀ p ∈ (s.circuit c).queue, ReadyToWake s p) →
        takes ((s.circuit c).queue.foldl (fun t p => t.wakeGranted c p) (s.setCircuit c x)))) := by
  have settings := State.settings_setCircuit (s := s) (c := c) (x := x)
  have quiet : Quiet (s.setCircuit c x) := free.quiet
  have ready_stored {p : PressNo} (h : ReadyToWake s p) : ReadyToWake (s.setCircuit c x) p := ⟨h.waits, h.queue, h.line⟩
  refine ⟨fun nothing => takes_of _ ?_ settings, fun work opens =>
    ⟨fun p rest hq one ready => takes_of _ ?_ settings, fun tw ts len distinct ready => ?_⟩⟩
  · have same : (s.setCircuit c x).grantCheck c = s.setCircuit c x := nothing.elim
      (fun empty => State.grantLoop_empty (s := s.setCircuit c x) empty 12)
      fun closed => State.grantLoop_closed (s := s.setCircuit c x) (by rw [settings]; exact closed) 12
    rw [same, State.settle_quiet quiet]
  · rw [State.grantCheck_one (s := s.setCircuit c x) hq (ready_stored ready) (by rw [settings]; exact opens)
      (by rw [settings]; exact one)]
    exact (Settles.demand_noWork (by simpa using quiet) work.setCircuit.wakeGranted).settle (by decide)
  · obtain ⟨quiet', work', kept⟩ := State.foldl_wakeGranted quiet work.setCircuit c (s.circuit c).queue
    refine takes_of _ ?_ (kept.trans settings)
    cases hq : (s.circuit c).queue with
    | nil => exact (congrArg State.settle (State.grantLoop_empty (s := s.setCircuit c x) hq 12)).trans (State.settle_quiet quiet)
    | cons p rest =>
      rw [hq] at len distinct ready quiet' work'
      obtain ⟨new, distinct'⟩ := List.nodup_cons.mp distinct
      have first : (s.setCircuit c x).grantCheck c = ((s.setCircuit c x).wakeGranted c p).wantDemand.grantLoop c 11 := by
        rw [State.grantCheck, State.grantLoop_open (s := s.setCircuit c x) hq (by rw [settings]; exact opens),
          State.grant_ready (s := s.setCircuit c x) hq (ready_stored (ready p List.mem_cons_self))]
      have left : ((s.setCircuit c x).wakeGranted c p).wantDemand.grantLoop c 11 =
          (rest.foldl (fun t p => t.wakeGranted c p) ((s.setCircuit c x).wakeGranted c p)).wantDemand := by
        refine State.grantLoop_all (by rw [State.settings_wakeGranted, settings, tw])
          (by rw [State.settings_wakeGranted, settings, ts]) rest 11 ?_ (Nat.le_of_lt_succ len) distinct' fun q hq => ?_
        · have queue : ((s.setCircuit c x).circuit c).queue = p :: rest := hq
          rw [State.circuit_wakeGranted, queue]
          rfl
        · exact (ready_stored (ready q (List.mem_cons_of_mem p hq))).other fun same => new (same ▸ hq)
      rw [first, left]
      exact (Settles.demand_noWork quiet' work').settle (by decide)

end Sys2Proof.Machine
end

section
/-! SUPPORT. The escalations due under a new interval (R156; log entry 43), and the statement on CIRCUIT SET and SCHEDULE
SET (O35). -/

namespace Sys2Proof.Machine

section Escalations

variable {s : State} {n k : AlertNo}

/-- An alert at an entry as the escalation of the entry leaves it (R156). -/
def State.escalated (s : State) (k : AlertNo) : Option Alert :=
  if s.escalationDue k then (s.alert k).map fun a => { a with level := a.level + 1, changedAt := s.time } else s.alert k

theorem State.escalate_due {a : Alert} (h : s.alert n = some a) (due : s.escalationDue n = true) : s.escalate n =
    s.setAlert n (some { a with level := a.level + 1, changedAt := s.time }) .escalated false := by
  rw [State.escalate, if_pos due, h]

theorem State.escalate_undue (undue : s.escalationDue n = false) : s.escalate n = s := by
  rw [State.escalate, undue]
  rfl

/-- An escalation touches the alert table and the report queue, and its own entry alone. -/
theorem State.escalate_told (s : State) (n : AlertNo) : (∃ alerts reports, s.escalate n =
    { s with alerts := alerts, reports := reports }) ∧
    (∀ k, (s.escalate n).alert k = if n = k then s.escalated k else s.alert k) := by
  by_cases due : s.escalationDue n = true
  · obtain ⟨a, ha, -⟩ := State.escalationDue_iff.mp due
    rw [State.escalate_due ha due]
    refine ⟨⟨_, _, rfl⟩, fun k => ?_⟩
    rw [State.alert_setAlert]
    split
    case isTrue same =>
      subst same
      rw [State.escalated, if_pos due, ha]
      rfl
    case isFalse => rfl
  · rw [State.escalate_undue (Bool.eq_false_iff.mpr due)]
    refine ⟨⟨_, _, rfl⟩, fun k => ?_⟩
    split
    case isTrue same =>
      subst same
      rw [State.escalated, if_neg due]
    case isFalse => rfl

/-- Another entry's escalation leaves an entry as due as it was. -/
theorem State.escalated_escalate (h : n ≠ k) : (s.escalate n).escalated k = s.escalated k ∧
    (s.escalate n).escalationDue k = s.escalationDue k := by
  obtain ⟨⟨alerts, reports, frame⟩, alert⟩ := State.escalate_told s n
  have same : (s.escalate n).alert k = s.alert k := by rw [alert, if_neg h]
  have due : (s.escalate n).escalationDue k = s.escalationDue k := by
    simp only [State.escalationDue, same]
    rw [frame]
  refine ⟨?_, due⟩
  have time : (s.escalate n).time = s.time := by rw [frame]
  simp only [State.escalated, due, same, time]

/-- Whether a report of an alert entry is pending. -/
def State.AlertPending (s : State) (k : AlertNo) : Prop := ∃ act again, Report.alert k act again ∈ s.reports

/-- A report of an entry stays pending, with its action or a later one's (R170). -/
theorem State.AlertPending.mark (h : s.AlertPending k) (r : Report) : (s.mark r).AlertPending k := by
  obtain ⟨act, again, mem⟩ := h
  unfold State.AlertPending State.mark
  dsimp only
  split
  case isTrue =>
    by_cases same : r.sameSubject (.alert k act again) = true
    · cases r with
      | alert m act' again' =>
        obtain rfl : m = k := by simpa [Report.sameSubject] using same
        exact ⟨act', again', List.mem_map.mpr ⟨_, mem, if_pos same⟩⟩
      | _ => simp [Report.sameSubject] at same
    · exact ⟨act, again, List.mem_map.mpr ⟨_, mem, if_neg same⟩⟩
  case isFalse => exact ⟨act, again, List.mem_append_left _ mem⟩

theorem State.AlertPending.escalate (h : s.AlertPending k) (n : AlertNo) : (s.escalate n).AlertPending k := by
  by_cases due : s.escalationDue n = true
  · obtain ⟨a, ha, -⟩ := State.escalationDue_iff.mp due
    rw [State.escalate_due ha due]
    exact State.AlertPending.mark h _
  · rwa [State.escalate_undue (Bool.eq_false_iff.mpr due)]

/-- Escalations of entries, each once: each entry due rises one level, its report pending; no other is touched. -/
theorem State.escalate_fold (l : List AlertNo) : ∀ s : State, l.Nodup →
    (∃ alerts reports, l.foldl (fun s n => s.escalate n) s = { s with alerts := alerts, reports := reports }) ∧
    ∀ k, (l.foldl (fun s n => s.escalate n) s).alert k = (if k ∈ l then s.escalated k else s.alert k) ∧
      (s.AlertPending k ∨ (k ∈ l ∧ s.escalationDue k = true) → (l.foldl (fun s n => s.escalate n) s).AlertPending k) := by
  induction l with
  | nil => exact fun s _ => ⟨⟨_, _, rfl⟩, fun k => ⟨by simp, fun h => by simpa using h⟩⟩
  | cons n l ih =>
    intro s distinct
    obtain ⟨new, distinct⟩ := List.nodup_cons.mp distinct
    obtain ⟨⟨a, r, frame⟩, alert⟩ := State.escalate_told s n
    obtain ⟨⟨a', r', frame'⟩, told⟩ := ih (s.escalate n) distinct
    refine ⟨⟨a', r', ?_⟩, fun k => ?_⟩
    · rw [List.foldl_cons, frame', frame]
    · obtain ⟨alert', pending⟩ := told k
      rw [List.foldl_cons, alert']
      by_cases own : n = k
      · subst own
        refine ⟨by rw [if_neg new, alert, if_pos rfl, if_pos List.mem_cons_self], fun h => pending (.inl ?_)⟩
        rcases h with before | ⟨-, due⟩
        · exact before.escalate n
        · obtain ⟨b, hb, -⟩ := State.escalationDue_iff.mp due
          rw [State.escalate_due hb due]
          exact ⟨_, _, State.pending_mark_self _ _⟩
      · obtain ⟨same, due⟩ := State.escalated_escalate (s := s) own
        have mem : k ∈ n :: l ↔ k ∈ l := by simp [Ne.symm own]
        refine ⟨by simp only [same, alert, if_neg own, mem], fun h => pending ?_⟩
        rw [due]
        exact h.imp (fun before => before.escalate n) fun ⟨hk, due⟩ => ⟨mem.mp hk, due⟩

/-- No entry due, no escalation (R156). -/
theorem State.escalateAll_none (h : ∀ n, s.escalationDue n = false) : s.escalateAll = s :=
  foldl_same _ _ fun n => State.escalate_undue (h n)

end Escalations

/-! ## SCHEDULE SET (R63) -/

/-- A state with the schedule settings stored (R63, R175). -/
def State.setSchedule (x : Schedule) (s : State) : State := { s with ret := { s.ret with schedule := x } }

theorem Mode.ofCode_code (m : Mode) : Mode.ofCode (BitVec.ofNat 8 m.code).toNat = some m := by cases m <;> rfl

/-- SCHEDULE SET is taken: the settings stored, the escalations due made, and the supply held against the selection. -/
theorem exec_scheduleSet {s t : State} (free : HostFree s) (tag : Byte) {m : Mode} {f : ScheduleSpec}
    (mode : f.mode = BitVec.ofNat 8 m.code)
    (settled : ((s.setSchedule (scheduleOf m f)).escalateAll.evalSupply).settle = t) :
    exec (.scheduleSet tag f) s = .next (t.answered tag 0x29 (okWith (scheduleOf m f).bytes)) := by
  refine exec_free free rfl ?_
  rw [performRequest, reqScheduleSet, mode, Mode.ofCode_code, ← settled]
  rfl

/-- Settles O35. -/
theorem circuitAndScheduleStored : Obligations.CircuitAndScheduleStored := by
  refine ⟨fun s tag w ts c tw free => ?_, fun s tag m f free mode => ?_⟩
  · intro x stored takes ready
    have stored_eq : circuitStored w tw ts = x := by
      have window : clampWindow tw.toNat = x.tw := by
        simp only [clampWindow, clamp_eq (show 10 ≤ 300 by decide), x]
      have spacing : min ts.toNat 60 = x.ts := by
        simp only [x]
        split <;> omega
      rw [circuitStored, window, spacing, clamp_eq (by decide)]
    obtain ⟨nothing, grants⟩ := circuit_outcomes free c x (takes := takes) fun t granted kept => by
      have taken := exec_circuitSet free tag w ts tw (by rw [stored_eq, granted]) (by rw [stored_eq]; exact kept)
      rw [stored_eq] at taken
      exact taken
    have woken {p : PressNo} (h : ready p) : ReadyToWake s p := by
      obtain ⟨waits, queue, line⟩ := h
      exact ⟨waits, queue, line⟩
    refine ⟨nothing, fun work opens => ?_⟩
    obtain ⟨one, all⟩ := grants work opens
    exact ⟨fun p rest hq alone h => one p rest hq alone (woken h),
      fun tw ts len distinct h => all tw ts len distinct fun p hp => woken (h p hp)⟩
  · intro n sel x stored takes due
    have x_eq : scheduleOf m f = x := by
      simp only [scheduleOf, clampEscalation, clamp, x, n, sel, Nat.min_comm]
    have stored_eq : s.setSchedule (scheduleOf m f) = stored := by rw [x_eq, State.setSchedule]
    have bytes : (scheduleOf m f).bytes = le 1 m.code ++ le 1 x.ageStep ++ le 2 x.starve ++ le 2 x.escalation
        ++ le 1 x.buzzer ++ le 1 x.threshold := by
      rw [x_eq]
      rfl
    have takes_of {t : State} (settled : (stored.escalateAll.evalSupply).settle = t) : takes t := by
      have taken := exec_scheduleSet free tag mode (by rw [stored_eq, settled])
      rw [bytes] at taken
      exact taken
    have quiet : Quiet stored := free.quiet
    have due_iff (k : AlertNo) : stored.escalationDue k = true ↔ ∃ a, s.alert k = some a ∧ due a :=
      State.escalationDue_iff.trans (exists_congr fun a =>
        ⟨fun ⟨live, unacked, below, on, late⟩ => ⟨live, on, unacked, below, late⟩,
          fun ⟨live, on, unacked, below, late⟩ => ⟨live, unacked, below, on, late⟩⟩)
    have undue (h : ∀ k a, s.alert k = some a → ¬ due a) : stored.escalateAll = stored :=
      State.escalateAll_none fun k => Bool.eq_false_iff.mpr fun is_due =>
        have ⟨a, live, hdue⟩ := (due_iff k).mp is_due
        h k a live hdue
    refine ⟨fun rests => ⟨fun none_due => takes_of ?_, ?_⟩, fun none_due => ⟨fun normal falls => takes_of ?_,
      fun low rises nothing => takes_of ?_⟩⟩
    · rw [undue none_due, State.evalSupply_rest rests, State.settle_quiet quiet]
    · obtain ⟨⟨alerts, reports, frame⟩, told⟩ := State.escalate_fold allAlerts stored (List.nodup_finRange 32)
      have escalated : stored.escalateAll = { stored with alerts := alerts, reports := reports } := frame
      refine ⟨alerts, reports, takes_of ?_, fun k => ?_⟩
      · rw [escalated, State.evalSupply_rest rests]
        exact State.settle_quiet quiet
      · have mem : k ∈ allAlerts := List.mem_finRange k
        obtain ⟨alert, pending⟩ := told k
        rw [frame] at alert pending
        have entry : alerts[k] = stored.escalated k := by
          rw [if_pos mem] at alert
          exact alert
        rw [entry]
        refine ⟨fun free_entry => ?_, fun a live => ⟨fun not_due => ?_, fun is_due => ?_⟩⟩
        · have nobody : stored.alert k = none := free_entry
          simp [State.escalated, nobody]
        · have off : ¬ stored.escalationDue k = true := fun on =>
            have ⟨b, hb, hdue⟩ := (due_iff k).mp on
            not_due (Option.some.inj (live.symm.trans hb) ▸ hdue)
          rw [State.escalated, if_neg off]
          exact live
        · have on : stored.escalationDue k = true := (due_iff k).mpr ⟨a, live, is_due⟩
          refine ⟨?_, ?_⟩
          · have there : stored.alert k = some a := live
            rw [State.escalated, if_pos on, there]
            rfl
          · obtain ⟨act, again, there⟩ := pending (.inr ⟨mem, on⟩)
            exact ⟨_, there, by simp [Report.sameSubject]⟩
    · rw [undue none_due, State.evalSupply_falls (s := stored) normal falls, State.enterLow_settle quiet]
    · rw [undue none_due, State.evalSupply_rises (s := stored) low rises]
      exact State.enterNormal_nothing quiet nothing

end Sys2Proof.Machine
end

section
/-! SUPPORT. The examinations on the entry into NORMAL (R46, R114, R174): each touches its own press and the job bound to
it, so that what one press comes to does not depend on the others. -/

namespace Sys2Proof.Machine

section Own

variable {b v : State} {p q : PressNo} {e : Entry} {j : Job}

/-- A state that agrees with another in all that the examination of a press looks at: the press, the records, the supply,
the spool, the job bound to the press, and which job is bound where. -/
structure Agrees (b v : State) (p : PressNo) : Prop where
  press : v.press p = b.press p
  ret : v.ret = b.ret
  low : v.low = b.low
  spool : v.spool = b.spool
  states : ∀ e, (v.job e).map Job.state = (b.job e).map Job.state
  bound : ∀ e j, b.job e = some j → j.state.bound = some p → v.job e = some j

namespace Agrees

theorem refl (b : State) (p : PressNo) : Agrees b b p := ⟨rfl, rfl, rfl, rfl, fun _ => rfl, fun _ _ live _ => live⟩

variable (a : Agrees b v p)
include a

theorem pressRec (q : PressNo) : v.pressRec q = b.pressRec q := by simp only [State.pressRec, a.ret]

theorem noStart : NoStart v p ↔ NoStart b p := by
  simp only [NoStart, a.press, a.low, State.depth, a.pressRec]

theorem withAgenda (l : List Task) : Agrees b (v.withAgenda l) p := ⟨a.press, a.ret, a.low, a.spool, a.states, a.bound⟩

/-- The job at an entry has the state it has in the other state. -/
theorem live_state {i : Job} (live : v.job e = some i) : ∃ k, b.job e = some k ∧ k.state = i.state := by
  have same := a.states e
  rw [live] at same
  exact Option.map_eq_some_iff.mp same.symm

theorem boundAlone (h : BoundAlone b p e j) : BoundAlone v p e j := by
  refine ⟨a.bound e j h.live h.bound, h.bound, fun d i live bound => ?_⟩
  obtain ⟨k, hk, same⟩ := a.live_state live
  exact h.alone d k hk (same ▸ bound)

theorem unbound (h : b.boundJob p = none) : v.boundJob p = none := by
  refine State.boundJob_eq_none_iff.mpr fun d i live bound => ?_
  obtain ⟨k, hk, same⟩ := a.live_state live
  exact State.boundJob_eq_none_iff.mp h d k hk (same ▸ bound)

theorem loaded (m : Nat) : v.loaded p m = b.loaded p m := by simp only [State.loaded, a.pressRec]

theorem starveOf (e : Entry) (j : Job) : v.starveOf e j = b.starveOf e j :=
  State.starveOf_congr a.spool (by rw [a.ret]) e j

theorem waits (h : Waits b p e j) : Waits v p e j := by
  refine ⟨a.boundAlone h.alone, h.printing, ?_, fun x hx sh k hsh hk => ?_⟩
  · rw [a.press, h.busy]
    exact congrArg (fun f => PressState.busy (j.cursorSheet.bind f)) (funext fun x => by rw [a.loaded])
  · rw [State.pageIs_congr a.spool]
    exact h.whole x hx sh k hsh hk

theorem sheetReady : SheetReady v p e j ↔ SheetReady b p e j := by
  simp only [SheetReady, a.loaded, State.pageIs_congr a.spool]

theorem starts {i : Nat} {sh : Sheet} {data : List Byte} {last : Bool} (h : Starts b p e j i sh data last) :
    Starts v p e j i sh data last := by
  obtain ⟨line, nothing, free, cursor, ready, first⟩ := h
  refine ⟨by rw [a.press]; exact line, by rw [a.press]; exact nothing, mt a.noStart.mp free, cursor,
    a.sheetReady.mpr ready, ?_⟩
  rw [a.spool]
  exact first

end Agrees

/-! ## What the examination of a press comes to (R46, R50, R114) -/

/-- A press on which nothing can start whatever its trays and credits: it calibrates not, and prints no job. -/
def Rests (s : State) (p : PressNo) : Prop :=
  (∀ r t, (s.press p).state ≠ .calibrating r t) ∧ (s.boundJob p = none ∨ (∀ m, (s.press p).state ≠ .busy m) ∨
    ∃ e j target, BoundAlone s p e j ∧ j.state = .draining p target)

theorem Agrees.rests (a : Agrees b v p) (h : Rests b p) : Rests v p := by
  obtain ⟨not_cal, other⟩ := h
  refine ⟨by rw [a.press]; exact not_cal, ?_⟩
  rcases other with unbound | not_busy | ⟨e, j, target, alone, draining⟩
  · exact .inl (a.unbound unbound)
  · exact .inr (.inl (by rw [a.press]; exact not_busy))
  · exact .inr (.inr ⟨e, j, target, a.boundAlone alone, draining⟩)

/-- A press that rests is left as it is (R46, R114). -/
theorem Rests.examine (h : Rests v p) : v.examine p = v := by
  obtain ⟨not_cal, unbound | not_busy | ⟨e, j, target, alone, draining⟩⟩ := h
  · exact State.examine_unbound unbound not_cal
  · exact State.examine_other not_busy not_cal
  · have bound := alone.boundJob
    have live := alone.live
    unfold State.examine
    split
    · simp only [bound, live, draining]
    · rename_i cal
      exact absurd cal (not_cal _ _)
    · rfl

/-- A press that rests has no job that waits for a sheet. -/
theorem Rests.not_waits (h : Rests b p) (w : Waits b p e j) : False := by
  obtain ⟨-, unbound | not_busy | ⟨d, i, target, alone, draining⟩⟩ := h
  · simp [w.alone.boundJob] at unbound
  · exact not_busy _ w.busy
  · have same : d = e := w.alone.alone d i alone.live alone.bound
    subst same
    have job : i = j := Option.some.inj (alone.live.symm.trans w.alone.live)
    exact absurd (w.printing.symm.trans (job ▸ draining)) (by simp)

/-- A PRINTING job whose sheet is not ready has its starve timer run while a page is missing, its press in media wait as it
is (R46, R50, R51). -/
theorem State.examine_unready (w : Waits v p e j) (unready : ¬ SheetReady v p e j) :
    v.examine p = v.setJob e (some { j with starve := v.starveOf e j }) := by
  have bound := w.alone.boundJob
  have live := w.alone.live
  have busy := w.busy
  cases hc : j.cursorSheet with
  | none =>
    have busy' : (v.press p).state = .busy none := by simpa [hc] using busy
    rw [State.examine_end busy' bound live w.printing hc, State.mediaWaitEnded_none, State.starveOf_end hc]
  | some x =>
    obtain ⟨n, sh⟩ := x
    rw [hc] at busy
    have whole : Undamaged v e j n := w.whole (n, sh) hc
    by_cases loaded : v.loaded p sh.media = true
    · have busy' : (v.press p).state = .busy none := by simpa [loaded] using busy
      have missing : ∃ k ∈ sh.pages, v.pageIs e .complete k = false := by
        by_contra complete
        obtain ⟨c, hc', hn, hsh⟩ := Job.cursorSheet_iff.mp hc
        exact unready ⟨c, n, sh, hc', hn, hsh, loaded, by simpa using complete⟩
      rw [State.examine_missing busy' bound live w.printing hc whole loaded missing, State.mediaWaitEnded_none]
    · rw [Bool.not_eq_true] at loaded
      have busy' : (v.press p).state = .busy (some sh.media) := by simpa [loaded] using busy
      rw [State.examine_unloaded busy' bound live w.printing hc whole loaded, State.mediaWaitBegun, if_pos rfl]

/-- The sheet at the cursor of the job a press prints starts, the press not in media wait (R46, R47). -/
theorem State.examine_waits_starts (w : Waits v p e j) {i : Nat} {sh : Sheet} {data : List Byte} {last : Bool}
    (st : Starts v p e j i sh data last) : v.examine p = (v.setJob e (some { j with starve := v.starveOf e j })).modPress p
      (started (some (e, i)) sh.media sh.sides data last) := by
  obtain ⟨n, sh', hc, -, loaded, complete⟩ := st.ready.cursorSheet
  obtain ⟨rfl, rfl⟩ : n = i ∧ sh' = sh := by simpa using hc.symm.trans st.cursor
  have busy : (v.press p).state = .busy none := by simpa [hc, loaded] using w.busy
  have timer : v.starveOf e j = none := by rw [State.starveOf_sheet hc, State.sheetReady_iff.mpr complete]; rfl
  rw [State.examine_begins busy w.alone.boundJob w.alone.live w.printing st, State.mediaWaitEnded_none, timer]

/-- The next pattern sheet of a press's run can start on its free line (R114). -/
structure BeginsPattern (b : State) (p : PressNo) (run : CalRun) (tray : Tray) : Prop where
  line : (b.press p).line = none
  nothing : (b.press p).txq = []
  free : ¬ NoStart b p
  left : run.started < run.count
  loaded : ((b.pressRec p).caps.bind fun c => c.trays.find? fun t => t.loaded) = some tray

/-- A press with its next pattern sheet on the line (R61, R114). -/
def patternStarted (duplex : Bool) (run : CalRun) (timer : Nat) (tray : Tray) (x : Press) : Press :=
  started none tray.media (patternSides run.long duplex (run.started + 1)) (patternStart run.long (run.started + 1)) false
    { x with state := .calibrating { run with started := run.started + 1 } timer }

theorem Agrees.beginsPattern (a : Agrees b v p) {run : CalRun} {tray : Tray} (h : BeginsPattern b p run tray) :
    BeginsPattern v p run tray := by
  obtain ⟨line, nothing, free, left, loaded⟩ := h
  exact ⟨by rw [a.press]; exact line, by rw [a.press]; exact nothing, mt a.noStart.mp free, left, by
    rw [a.pressRec]; exact loaded⟩

theorem State.examine_pattern_starts {run : CalRun} {t : Nat} {tray : Tray} (cal : (v.press p).state = .calibrating run t)
    (h : BeginsPattern v p run tray) : v.examine p = v.modPress p
      (patternStarted ((v.pressRec p).caps.any fun c => c.duplex) run t tray) := by
  have credit : 0 < (v.press p).credits := Nat.pos_of_ne_zero fun none_left => h.free (.inl none_left)
  rw [State.examine_pattern cal h.loaded h.free h.left,
    State.startSheet_pattern (run := { run with started := run.started + 1 }) (t := t) (by simp) (by simpa using h.line)
      (by simpa using h.nothing) (by simpa using credit), State.modPress_twice]
  rfl

end Own

/-! ## The examinations of all presses -/

section All

variable {b v : State} {p q : PressNo} {e : Entry} {j : Job}

/-- What the examination of a press is to come to: the press rests, its job's sheet waits or starts, or its run's next
pattern sheet waits or starts, on a free line (R46, R114). -/
def Foreseen (b : State) (p : PressNo) : Prop :=
  Rests b p ∨
  (∃ e j, Waits b p e j ∧ (¬ SheetReady b p e j ∨ NoStart b p ∨ ∃ i sh data last, Starts b p e j i sh data last)) ∨
  ∃ run t, (b.press p).state = .calibrating run t ∧
    (NoStart b p ∨ run.count ≤ run.started ∨
      ((b.pressRec p).caps.bind fun c => c.trays.find? fun t => t.loaded) = none ∨ ∃ tray, BeginsPattern b p run tray)

/-- A state with a press written, and the job bound to it if that changes. -/
def State.examinedTo (v : State) (p : PressNo) (x : Press) (c : Option (Entry × Job)) : State :=
  (match c with
    | none => v
    | some (e, i) => v.setJob e (some i)).modPress p fun _ => x

/-- The examination of a press writes the press, and the starve timer of the job that waits on it, and does so in every
state that agrees about them (R46, R50, R114). -/
structure ExaminesAlone (b : State) (p : PressNo) (x : Press) (c : Option (Entry × Job)) : Prop where
  job : ∀ e i, c = some (e, i) ↔ ∃ j, Waits b p e j ∧ i = { j with starve := b.starveOf e j }
  examines : ∀ v, Agrees b v p → v.examine p = v.examinedTo p x c

theorem Waits.unique {d : Entry} {i : Job} (w : Waits b p e j) (w' : Waits b p d i) : d = e ∧ i = j := by
  have same : d = e := w.alone.alone d i w'.alone.live w'.alone.bound
  subst same
  exact ⟨rfl, Option.some.inj (w'.alone.live.symm.trans w.alone.live)⟩

theorem ExaminesAlone.of_waits {x : Press} (w : Waits b p e j)
    (h : ∀ v, Agrees b v p → v.examine p = (v.setJob e (some { j with starve := v.starveOf e j })).modPress p fun _ => x) :
    ExaminesAlone b p x (some (e, { j with starve := b.starveOf e j })) := by
  refine ⟨fun d _ => ⟨?_, ?_⟩, fun v a => ?_⟩
  · rintro ⟨⟩
    exact ⟨j, w, rfl⟩
  · rintro ⟨k, w', rfl⟩
    obtain ⟨rfl, rfl⟩ := w.unique w'
    rfl
  · rw [h v a, a.starveOf]
    rfl

theorem ExaminesAlone.of_none {x : Press} (no : ∀ e j, ¬ Waits b p e j)
    (h : ∀ v, Agrees b v p → v.examine p = v.modPress p fun _ => x) : ExaminesAlone b p x none :=
  ⟨fun e _ => ⟨nofun, fun ⟨j, w, _⟩ => absurd w (no e j)⟩, h⟩

theorem State.modPress_own (a : v.press p = b.press p) : v.modPress p (fun _ => b.press p) = v :=
  State.modPress_same a.symm

/-- Every foreseen press is examined so. -/
theorem Foreseen.alone (h : Foreseen b p) : ∃ x c, ExaminesAlone b p x c := by
  rcases h with rests | ⟨e, j, w, other⟩ | ⟨run, t, cal, other⟩
  · exact ⟨b.press p, none, .of_none (fun e j w => rests.not_waits w) fun v a => by
      rw [(a.rests rests).examine, State.modPress_own a.press]⟩
  · rcases other with unready | no_start | ⟨i, sh, data, last, st⟩
    · exact ⟨b.press p, _, .of_waits w fun v a => by
        rw [State.examine_unready (a.waits w) (mt a.sheetReady.mp unready)]
        exact (State.modPress_own (v := v.setJob _ _) a.press).symm⟩
    · exact ⟨b.press p, _, .of_waits w fun v a => by
        rw [State.examine_waits (a.waits w) (a.noStart.mpr no_start)]
        exact (State.modPress_own (v := v.setJob _ _) a.press).symm⟩
    · exact ⟨started (some (e, i)) sh.media sh.sides data last (b.press p), _, .of_waits w fun v a => by
        rw [State.examine_waits_starts (a.waits w) (a.starts st)]
        exact State.modPress_congr (by rw [← a.press]; rfl)⟩
  · have no : ∀ e j, ¬ Waits b p e j := fun e j w => by simpa [cal] using w.busy
    have cal' {v : State} (a : Agrees b v p) : (v.press p).state = .calibrating run t := by rw [a.press]; exact cal
    rcases other with no_start | all_started | unloaded | ⟨tray, begins⟩
    · exact ⟨b.press p, none, .of_none no fun v a => by
        rw [State.examine_calibrating (cal' a) (a.noStart.mpr no_start), State.modPress_own a.press]⟩
    · exact ⟨b.press p, none, .of_none no fun v a => by
        rw [State.examine_pattern_none (cal' a) (.inl all_started), State.modPress_own a.press]⟩
    · exact ⟨b.press p, none, .of_none no fun v a => by
        rw [State.examine_pattern_none (cal' a) (.inr (by rw [a.pressRec]; exact unloaded)), State.modPress_own a.press]⟩
    · exact ⟨patternStarted ((b.pressRec p).caps.any fun c => c.duplex) run t tray (b.press p), none,
        .of_none no fun v a => by
        rw [State.examine_pattern_starts (cal' a) (a.beginsPattern begins), a.pressRec]
        exact State.modPress_congr (by rw [a.press])⟩

/-- The press that an examination writes is what the examination itself makes of it. -/
theorem ExaminesAlone.press {x : Press} {c : Option (Entry × Job)} (h : ExaminesAlone b p x c) :
    x = (b.examine p).press p := by
  rw [h.examines b (.refl b p)]
  exact (State.press_modPress_self (p := p) (f := fun _ => x) ..).symm

/-- The examination of one press leaves what those of the others look at. -/
theorem Agrees.examinedTo {x : Press} {c : Option (Entry × Job)} (h : ExaminesAlone b p x c)
    (a : Agrees b v q) (other : p ≠ q) : Agrees b (v.examinedTo p x c) q := by
  have press : (v.examinedTo p x c).press q = b.press q := by
    rw [← a.press]
    simp [State.examinedTo, State.press_modPress, other]
    cases c <;> rfl
  cases hc : c with
  | none => exact ⟨hc ▸ press, a.ret, a.low, a.spool, a.states, a.bound⟩
  | some y =>
    obtain ⟨e, i⟩ := y
    obtain ⟨j, w, rfl⟩ := (h.job e i).mp hc
    refine ⟨hc ▸ press, a.ret, a.low, a.spool, fun d => ?_, fun d k live bound => ?_⟩
    · by_cases hd : e = d
      · subst hd
        simp [State.examinedTo, w.alone.live]
      · simpa [State.examinedTo, State.job_setJob, hd] using a.states d
    · have hd : e ≠ d := by
        rintro rfl
        obtain rfl : j = k := Option.some.inj (w.alone.live.symm.trans live)
        exact other (Option.some.inj (w.alone.bound.symm.trans bound))
      simpa [State.examinedTo, State.job_setJob, hd] using a.bound d k live bound

end All

section Fold

variable {b v : State} {p q : PressNo} {e : Entry} {i : Job} {x : PressNo → Press} {c : PressNo → Option (Entry × Job)}
  {l : List PressNo}

/-- Presses examined one after the other. -/
def State.examinedAll (v : State) (x : PressNo → Press) (c : PressNo → Option (Entry × Job)) (l : List PressNo) : State :=
  l.foldl (fun v p => v.examinedTo p (x p) (c p)) v

theorem State.examinedTo_rest (v : State) (p : PressNo) (x : Press) (c : Option (Entry × Job)) (presses : Vector Press 12)
    (jobs : Vector (Option Job) 64) : { v.examinedTo p x c with presses := presses, jobs := jobs } =
      { v with presses := presses, jobs := jobs } := by
  cases c <;> rfl

theorem State.examinedAll_frame (l : List PressNo) : v.examinedAll x c l =
    { v with presses := (v.examinedAll x c l).presses, jobs := (v.examinedAll x c l).jobs } := by
  induction l generalizing v with
  | nil => rfl
  | cons p l ih => exact (ih (v := v.examinedTo p (x p) (c p))).trans (State.examinedTo_rest ..)

theorem State.press_examinedTo {y : Press} {k : Option (Entry × Job)} :
    (v.examinedTo p y k).press q = if p = q then y else v.press q := by
  cases k <;> simp [State.examinedTo, State.press_modPress]

theorem State.job_examinedTo {y : Press} {k : Option (Entry × Job)} (h : ∀ i, k ≠ some (e, i)) :
    (v.examinedTo p y k).job e = v.job e := by
  cases k with
  | none => rfl
  | some z =>
    have other : z.1 ≠ e := fun same => h z.2 (by rw [← same])
    simp [State.examinedTo, State.job_setJob, other]

theorem State.press_examinedAll_of_notMem (h : q ∉ l) : (v.examinedAll x c l).press q = v.press q := by
  induction l generalizing v with
  | nil => rfl
  | cons p l ih =>
    obtain ⟨other, rest⟩ := List.ne_and_not_mem_of_not_mem_cons h
    exact (ih rest).trans (by rw [State.press_examinedTo, if_neg (Ne.symm other)])

theorem State.press_examinedAll (h : q ∈ l) : (v.examinedAll x c l).press q = x q := by
  induction l generalizing v with
  | nil => simp at h
  | cons p l ih =>
    by_cases rest : q ∈ l
    · exact ih rest
    · obtain rfl : q = p := by simpa [rest] using h
      exact (State.press_examinedAll_of_notMem rest).trans (by rw [State.press_examinedTo, if_pos rfl])

theorem State.job_examinedAll_of_none (h : ∀ p ∈ l, ∀ i, c p ≠ some (e, i)) : (v.examinedAll x c l).job e = v.job e := by
  induction l generalizing v with
  | nil => rfl
  | cons p l ih =>
    obtain ⟨first, rest⟩ := List.forall_mem_cons.mp h
    exact (ih rest).trans (State.job_examinedTo first)

/-- An entry that the examination of one press writes is left so by the others. -/
theorem State.job_examinedAll (h : p ∈ l) (own : c p = some (e, i)) (alone : ∀ q i', c q = some (e, i') → q = p) :
    (v.examinedAll x c l).job e = some i := by
  induction l generalizing v with
  | nil => simp at h
  | cons q l ih =>
    by_cases rest : p ∈ l
    · exact ih rest
    · obtain rfl : p = q := by simpa [rest] using h
      refine (State.job_examinedAll_of_none fun q hq i' hi => rest (alone q i' hi ▸ hq)).trans ?_
      simp [State.examinedTo, own]

/-- Examinations that each touch their own press and its job are made one after the other. -/
theorem ExaminedAll.of_alone (alone : ∀ p, ExaminesAlone b p (x p) (c p)) (calm : v.demand = false)
    (nodup : l.Nodup) (agrees : ∀ p ∈ l, Agrees b v p) : ExaminedAll l v (v.examinedAll x c l) := by
  induction l generalizing v with
  | nil => exact .nil v
  | cons p l ih =>
    obtain ⟨apart, nodup⟩ := List.nodup_cons.mp nodup
    obtain ⟨first, rest⟩ := List.forall_mem_cons.mp agrees
    have calm' : (v.examinedTo p (x p) (c p)).demand = false := by
      cases hc : c p <;> exact calm
    refine .cons (t := v.examinedTo p (x p) (c p)) (fun l => ?_) calm' (ih calm' nodup fun q hq =>
      (rest q hq).examinedTo (alone p) fun same => apart (same ▸ hq))
    rw [(alone p).examines _ (first.withAgenda l)]
    cases c p <;> rfl

end Fold

/-! ## What the examinations of all presses come to -/

section Outcome

variable {b : State} {p : PressNo} {e : Entry} {j : Job}

/-- What the examinations of all presses leave in a state in which each is foreseen (R46, R50, R114). -/
structure AllExamined (b : State) (presses : Vector Press 12) (jobs : Vector (Option Job) 64) : Prop where
  examined : ExaminedAll allPresses b { b with presses := presses, jobs := jobs }
  kept : ∀ e : Entry, (∀ p j, ¬ Waits b p e j) → jobs[e] = b.job e
  waiting : ∀ p (e : Entry) j, Waits b p e j → jobs[e] = some { j with starve := b.starveOf e j }
  press : ∀ p : PressNo, presses[p] = (b.examine p).press p

theorem AllExamined.exists (foreseen : ∀ p, Foreseen b p) (calm : b.demand = false) :
    ∃ presses jobs, AllExamined b presses jobs := by
  choose x c alone using fun p => (foreseen p).alone
  refine ⟨(b.examinedAll x c allPresses).presses, (b.examinedAll x c allPresses).jobs, ?_, fun e nobody => ?_,
    fun p e j w => ?_, fun p => ?_⟩
  · rw [← State.examinedAll_frame]
    exact .of_alone alone calm (List.nodup_finRange 12) fun p _ => .refl b p
  · refine State.job_examinedAll_of_none fun p _ i hi => ?_
    obtain ⟨j, w, -⟩ := ((alone p).job e i).mp hi
    exact nobody p j w
  · refine State.job_examinedAll (p := p) (List.mem_finRange p) (((alone p).job e _).mpr ⟨j, w, rfl⟩) fun q i' hi => ?_
    obtain ⟨k, w', -⟩ := ((alone q).job e i').mp hi
    obtain rfl : k = j := Option.some.inj (w'.alone.live.symm.trans w.alone.live)
    exact Option.some.inj (w'.alone.bound.symm.trans w.alone.bound)
  · exact (State.press_examinedAll (List.mem_finRange p)).trans (alone p).press

end Outcome

end Sys2Proof.Machine
end

section
/-! PROOF. The supply monitor's thresholds, what each supply and reset event leaves, and the starts of sheets on the entry
into NORMAL (R46, R50, R114, R174 to R176). -/

namespace Sys2Proof.Machine

section Supplied

variable {s : State} {p : PressNo} {e : Entry} {j : Job} {mv : Nat} {low : Bool}

/-- A state with another reading and another state of the supply (R174). -/
def State.supplied (mv : Nat) (low : Bool) (s : State) : State := { s with sense := mv, low := low }

@[simp] theorem waits_supplied : Waits (s.supplied mv low) p e j ↔ Waits s p e j :=
  ⟨fun w => w.of_same rfl rfl rfl rfl, fun w => w.of_same rfl rfl rfl rfl⟩

@[simp] theorem rests_supplied : Rests (s.supplied mv low) p ↔ Rests s p := by
  have bound (e : Entry) (j : Job) : BoundAlone (s.supplied mv low) p e j ↔ BoundAlone s p e j :=
    ⟨fun ⟨live, bound, alone⟩ => ⟨live, bound, alone⟩, fun ⟨live, bound, alone⟩ => ⟨live, bound, alone⟩⟩
  unfold Rests
  simp only [bound]
  rfl

/-- The state in which the presses are examined on the entry into NORMAL: the supply NORMAL and SUPPLY_LOW ended (R174). -/
def State.nowNormal (mv : Nat) (s : State) : State := (s.supplied mv false).endCondition .supplyLow .part

theorem agrees_nowNormal (p : PressNo) : Agrees (s.supplied mv false) (s.nowNormal mv) p :=
  ⟨State.press_endCondition .., State.endCondition_ret .., State.endCondition_low .., State.endCondition_spool ..,
    fun _ => congrArg _ (State.job_endCondition ..), fun _ _ live _ => (State.job_endCondition ..).trans live⟩

theorem nowNormal_agrees (p : PressNo) : Agrees (s.nowNormal mv) (s.supplied mv false) p :=
  ⟨(State.press_endCondition ..).symm, (State.endCondition_ret ..).symm, (State.endCondition_low ..).symm,
    (State.endCondition_spool ..).symm, fun _ => (congrArg _ (State.job_endCondition ..)).symm,
    fun _ _ live _ => (State.job_endCondition ..).symm.trans live⟩

@[simp] theorem State.press_nowNormal : (s.nowNormal mv).press p = s.press p := State.press_endCondition ..

@[simp] theorem State.job_nowNormal : (s.nowNormal mv).job e = s.job e := State.job_endCondition ..

@[simp] theorem State.pressRec_nowNormal : (s.nowNormal mv).pressRec p = s.pressRec p := State.pressRec_endCondition ..

theorem waits_nowNormal : Waits (s.nowNormal mv) p e j ↔ Waits s p e j :=
  ⟨fun w => waits_supplied.mp ((nowNormal_agrees p).waits w), fun w => (agrees_nowNormal p).waits (waits_supplied.mpr w)⟩

theorem rests_nowNormal : Rests (s.nowNormal mv) p ↔ Rests s p :=
  ⟨fun h => rests_supplied.mp ((nowNormal_agrees p).rests h), fun h => (agrees_nowNormal p).rests (rests_supplied.mpr h)⟩

theorem sheetReady_nowNormal : SheetReady (s.nowNormal mv) p e j ↔ SheetReady s p e j :=
  (agrees_nowNormal p).sheetReady

theorem starveOf_nowNormal : (s.nowNormal mv).starveOf e j = s.starveOf e j :=
  (agrees_nowNormal (0 : PressNo)).starveOf e j

theorem quiet_nowNormal (hq : Quiet s) : Quiet (s.nowNormal mv) := (quiet_endCondition _ _ _).mpr hq

end Supplied

/-! ## What the examination of one press leaves of it -/

section Press

variable {b : State} {p : PressNo} {e : Entry} {j : Job}

/-- A press that rests, lets no sheet start, or whose job's sheet is not ready stays as it was (R46, R52, R114). -/
theorem Foreseen.press_kept (h : Foreseen b p)
    (rest : Rests b p ∨ NoStart b p ∨ ∃ e j, Waits b p e j ∧ ¬ SheetReady b p e j) : (b.examine p).press p = b.press p := by
  rcases rest with rests | no_start | ⟨e, j, w, unready⟩
  · rw [rests.examine]
  · rcases h with rests | ⟨e, j, w, -⟩ | ⟨run, t, cal, -⟩
    · rw [rests.examine]
    · rw [State.examine_waits w no_start]
      rfl
    · rw [State.examine_calibrating cal no_start]
  · rw [State.examine_unready w unready]
    rfl

theorem Waits.press_starts (w : Waits b p e j) {i : Nat} {sh : Sheet} {data : List Byte} {last : Bool}
    (st : Starts b p e j i sh data last) : (b.examine p).press p =
      started (some (e, i)) sh.media sh.sides data last (b.press p) := by
  rw [State.examine_waits_starts w st, State.press_modPress_self, State.press_setJob]

end Press

/-- Only the second sheet of a LONG run has two sides, on a press that can print them (R114). -/
theorem patternSides_eq (long duplex : Bool) (n : Nat) :
    patternSides long duplex n = if long = true ∧ n = 2 ∧ duplex = true then 2 else 1 := by
  cases long <;> cases duplex <;> simp [patternSides]

/-! ## A monitor that compares -/

section Sense

variable {s : State} {mv : Nat}

theorem execSupplyFall_running (run : s.phase = .running) (below : mv < s.sense) :
    exec (.supplyFall mv) s = .next ({ s with sense := mv } : State).evalSupply.settle := by
  show execSupplyFall mv s = _
  simp [execSupplyFall, below, State.takeSense, run]

theorem execSupplyRise_running (run : s.phase = .running) (above : s.sense < mv) :
    exec (.supplyRise mv) s = .next ({ s with sense := mv } : State).evalSupply.settle := by
  show execSupplyRise mv s = _
  simp [execSupplyRise, above, State.takeSense, run]

/-- A sense past no threshold, or of a part that does not run, is taken and nothing else (R174). -/
theorem State.takeSense_rest (hq : Quiet s) (h : s.phase ≠ .running ∨
    s.low = true ∧ mv ≤ 2920 + 40 * s.ret.schedule.threshold + 70 ∨
    s.low = false ∧ 2920 + 40 * s.ret.schedule.threshold ≤ mv) : s.takeSense mv = { s with sense := mv } := by
  unfold State.takeSense
  dsimp only
  split
  next run =>
    have rest : ({ s with sense := mv } : State).evalSupply = { s with sense := mv } := by
      refine State.evalSupply_rest ?_
      rcases h with halted | ⟨low, below⟩ | ⟨normal, above⟩
      · exact absurd run halted
      · rw [if_pos low]
        show mv ≤ 2990 + 40 * s.ret.schedule.threshold
        omega
      · rw [if_neg (by simp [normal])]
        exact above
    rw [rest]
    exact State.settle_quiet hq
  next => rfl

end Sense

/-! ## The entry into NORMAL -/

section Rise

variable {s : State} {mv : Nat} {presses : Vector Press 12} {jobs : Vector (Option Job) 64}

/-- On the entry into NORMAL the examinations of all presses write the presses and the jobs alone (R174). -/
theorem execSupplyRise_examined (hq : Quiet s) (run : s.phase = .running) (above : s.sense < mv) (low : s.low = true)
    (rises : 2990 + 40 * s.ret.schedule.threshold < mv) (h : AllExamined (s.nowNormal mv) presses jobs) :
    exec (.supplyRise mv) s = .next
      (({ s.supplied mv false with presses := presses, jobs := jobs } : State).endCondition .supplyLow .part) := by
  have beside : Beside fun s : State => { s with presses := presses, jobs := jobs } :=
    ⟨fun _ => ⟨rfl, rfl, rfl⟩, fun _ => rfl, fun _ _ _ => rfl⟩
  have quiet : Quiet ({ s.nowNormal mv with presses := presses, jobs := jobs } : State) := quiet_nowNormal hq
  rw [execSupplyRise_running run above, State.evalSupply_rises (s := { s with sense := mv }) low rises,
    State.enterNormal_settle (s := { s with sense := mv }) hq h.examined, State.withAgenda_quiet quiet]
  exact congrArg Host.Outcome.next (beside.endCondition (s.supplied mv false) .supplyLow .part).symm

/-- A press's pattern sheets are foreseen by what the press and the supply come to (R114). -/
theorem beginsPattern_nowNormal {p : PressNo} {run : CalRun} {tray : Tray}
    (h : BeginsPattern (s.supplied mv false) p run tray) : BeginsPattern (s.nowNormal mv) p run tray :=
  (agrees_nowNormal p).beginsPattern h

end Rise

/-! ## The end of the working state (R175) -/

section Drop

variable {s : State} {ph : Phase}

@[simp] theorem State.job_dropWorking (e : Entry) : (s.dropWorking ph).job e = none := by
  simp [State.job, State.dropWorking, State.blank]

@[simp] theorem State.alert_dropWorking (n : AlertNo) : (s.dropWorking ph).alert n = none := by
  simp [State.alert, State.dropWorking, State.blank]

@[simp] theorem State.press_dropWorking (p : PressNo) : (s.dropWorking ph).press p = Press.down := by
  simp [State.press, State.dropWorking, State.blank]

end Drop

/-- Settles O54. -/
theorem supplyAndStarts : Obligations.SupplyAndStarts := by
  refine ⟨fun s mv hq => ⟨fun run below normal falls => ?_, fun below rest => ?_, fun run above low rises still => ?_,
    fun run above low rises => ?_, fun above rest => ?_⟩, fun s => ⟨?_, ?_, fun off => ?_, fun run => ?_,
    fun c starting => ?_, fun c held => ?_⟩⟩
  · rw [execSupplyFall_running run below, State.evalSupply_falls (s := { s with sense := mv }) normal falls,
      State.enterLow_settle (s := { s with sense := mv }) hq]
  · show execSupplyFall mv s = _
    rw [execSupplyFall, if_pos below, State.takeSense_rest hq rest]
  · have past : 2990 + 40 * s.ret.schedule.threshold < mv := by omega
    rw [execSupplyRise_running run above, State.evalSupply_rises (s := { s with sense := mv }) low past,
      State.enterNormal_nothing (s := { s with sense := mv }) hq still]
  · intro u rests tray begins foreseen
    have starts (p : PressNo) := agrees_nowNormal (s := s) (mv := mv) p
    have seen (p : PressNo) : Foreseen (s.nowNormal mv) p := by
      rcases foreseen p with rests | ⟨e, j, w, other⟩ | ⟨run, t, cal, other⟩
      · exact .inl (rests_nowNormal.mpr rests)
      · refine .inr (.inl ⟨e, j, waits_nowNormal.mpr w, ?_⟩)
        exact other.imp (mt sheetReady_nowNormal.mp) (Or.imp (starts p).noStart.mpr
          fun ⟨i, sh, data, last, st⟩ => ⟨i, sh, data, last, (starts p).starts st⟩)
      · refine .inr (.inr ⟨run, t, by rw [State.press_nowNormal]; exact cal, ?_⟩)
        rw [State.pressRec_nowNormal]
        exact Or.imp (starts p).noStart.mpr (Or.imp_right (Or.imp_right fun ⟨t', line, nothing, free, left, loaded⟩ =>
          ⟨t', beginsPattern_nowNormal ⟨line, nothing, free, left, loaded⟩⟩)) other
    obtain ⟨presses, jobs, h⟩ := AllExamined.exists seen (quiet_nowNormal hq).2
    refine ⟨presses, jobs, execSupplyRise_examined hq run above low (by omega) h, fun e nobody => ?_, fun p e j w => ?_,
      fun p => ⟨fun rest => ?_, fun e j i sh data last w st => ?_, fun run t cal => ⟨fun nothing => ?_,
        fun t' ⟨line, nothing, free, left, loaded⟩ => ?_⟩⟩⟩
    · rw [h.kept e fun p j w => nobody p j (waits_nowNormal.mp w), State.job_nowNormal]
    · rw [h.waiting p e j (waits_nowNormal.mpr w), starveOf_nowNormal]
    · rw [h.press, (seen p).press_kept, State.press_nowNormal]
      exact Or.imp rests_nowNormal.mpr (Or.imp (starts p).noStart.mpr fun ⟨e, j, w, unready⟩ =>
        ⟨e, j, waits_nowNormal.mpr w, mt sheetReady_nowNormal.mp unready⟩) rest
    · rw [h.press, (waits_nowNormal.mpr w).press_starts ((starts p).starts st), State.press_nowNormal]
    · rw [h.press, State.examine_pattern_none (run := run) (t := t), State.press_nowNormal]
      · rw [State.press_nowNormal]; exact cal
      · rw [State.pressRec_nowNormal]; exact nothing
    · rw [h.press, State.examine_pattern_starts (run := run) (t := t) (tray := t') (by rw [State.press_nowNormal]; exact cal)
        (beginsPattern_nowNormal ⟨line, nothing, free, left, loaded⟩), State.press_modPress_self, State.press_nowNormal,
        State.pressRec_nowNormal]
      rw [patternStarted, patternSides_eq]
      rfl
  · show execSupplyRise mv s = _
    rw [execSupplyRise, if_pos above, State.takeSense_rest hq rest]
  · refine ⟨_, rfl, rfl, rfl, rfl, ?_, fun e => ?_, rfl, fun n => ?_, rfl, rfl, rfl, fun p => ?_⟩
    · exact Bool.and_eq_true_iff
    · exact State.job_dropWorking e
    · exact State.alert_dropWorking n
    · exact State.press_dropWorking p
  · show execBackupCellLoss s = _
    by_cases off : s.phase = .off <;> simp [execBackupCellLoss, off]
  · show execSupplyStart s = _
    rw [execSupplyStart, if_pos off]
  · refine ⟨({ s with resetPin := true } : State).dropWorking (.held .resetInput), ?_, rfl, rfl, rfl, rfl, rfl,
      State.job_dropWorking, rfl, rfl⟩
    show execResetInputAssert s = _
    simp only [execResetInputAssert, run]
  · show execResetInputAssert s = _
    simp only [execResetInputAssert, starting]
  · show execResetInputRelease s = _
    simp only [execResetInputRelease, held]

end Sys2Proof.Machine
end

section
/-! SUPPORT. FLUSH by its parts: the alerts of the jobs, the path lists, the press state machines (R62, R81, R100, R158,
R178). -/

namespace Sys2Proof.Machine

/-! ## The alert table where each kind and source has one entry (R148, R152) -/

section Alerts

variable {s : State} {k : AlertKind} {src : Source}

/-- No two entries of the alert table have one kind and source (R148). -/
def KeysUnique (s : State) : Prop :=
  ∀ m n a b, s.alert m = some a → s.alert n = some b → a.kind = b.kind → a.source = b.source → m = n

/-- An entry after its condition has ended (R152). -/
def endedAlert (now : Time) (a : Alert) : Option Alert :=
  match a.state with
  | .activeUnacked => some { a with state := .clearedUnacked, changedAt := now }
  | .activeAcked => none
  | .clearedUnacked => some a

theorem endedAlert_key {now : Time} {a b : Alert} (h : endedAlert now a = some b) :
    b.kind = a.kind ∧ b.source = a.source := by
  unfold endedAlert at h
  split at h
  · obtain rfl := Option.some.inj h
    exact ⟨rfl, rfl⟩
  · exact absurd h (by simp)
  · obtain rfl := Option.some.inj h
    exact ⟨rfl, rfl⟩

/-- An entry whose ended condition stands is as it was when that condition ends again. -/
theorem endedAlert_again {now : Time} {a b : Alert} (h : endedAlert now a = some b) : endedAlert now b = some b := by
  unfold endedAlert at h
  split at h
  · obtain rfl := Option.some.inj h
    rfl
  · exact absurd h (by simp)
  · rename_i cleared
    obtain rfl := Option.some.inj h
    simp [endedAlert, cleared]

/-- The table after changes that keep the kind and source of each entry that is left has unique keys still. -/
theorem KeysUnique.of_bind {t : State} (h : KeysUnique s) {g : Alert → Option Alert}
    (key : ∀ a b, g a = some b → b.kind = a.kind ∧ b.source = a.source) (table : ∀ n, t.alert n = (s.alert n).bind g) :
    KeysUnique t := by
  intro m n a b ha hb kind source
  rw [table] at ha hb
  obtain ⟨a', ha', ga⟩ := Option.bind_eq_some_iff.mp ha
  obtain ⟨b', hb', gb⟩ := Option.bind_eq_some_iff.mp hb
  obtain ⟨ka, sa⟩ := key a' a ga
  obtain ⟨kb, sb⟩ := key b' b gb
  exact h m n a' b' ha' hb' (by rw [← ka, ← kb, kind]) (by rw [← sa, ← sb, source])

/-- The end of a condition changes the entry of its key alone (R152). -/
theorem State.alert_endCondition (h : KeysUnique s) (n : AlertNo) : (s.endCondition k src).alert n =
    (s.alert n).bind fun a => if a.kind = k ∧ a.source = src then endedAlert s.time a else some a := by
  cases found : s.findAlert k src with
  | none =>
    have none_keyed := List.find?_eq_none.mp found n (List.mem_finRange n)
    rw [State.endCondition, found]
    cases ha : s.alert n with
    | none => simp
    | some a =>
      have other : ¬ (a.kind = k ∧ a.source = src) := by simpa [ha] using none_keyed
      simp [other]
  | some m =>
    have keyed := List.find?_some found
    cases ha : s.alert m with
    | none => simp [ha] at keyed
    | some a =>
      obtain ⟨kind, source⟩ : a.kind = k ∧ a.source = src := by simpa [ha] using keyed
      have ends : (s.endCondition k src).alert n = if m = n then endedAlert s.time a else s.alert n := by
        rw [State.endCondition, found]
        simp only [ha]
        cases hst : a.state with
        | activeUnacked => simp [State.alert_setAlert, endedAlert, hst]
        | activeAcked => simp [State.alert_setAlert, endedAlert, hst]
        | clearedUnacked =>
          simp only [endedAlert, hst]
          split
          case isTrue same => rw [← same, ha]
          case isFalse => rfl
      rw [ends]
      by_cases same : m = n
      · rw [if_pos same, ← same, ha, Option.bind_some, if_pos ⟨kind, source⟩]
      · rw [if_neg same]
        cases hb : s.alert n with
        | none => rfl
        | some b =>
          have other : ¬ (b.kind = k ∧ b.source = src) := fun ⟨kb, sb⟩ =>
            same (h m n a b ha hb (kind.trans kb.symm) (source.trans sb.symm))
          rw [Option.bind_some, if_neg other]

/-! ## No JOB REPORT pending (R170) -/

/-- No JOB REPORT is pending (R170). -/
def NoJobReports (s : State) : Prop := ∀ e, Report.job e ∉ s.reports

theorem NoJobReports.mark (h : NoJobReports s) {r : Report} (hr : ∀ e, r ≠ .job e) : NoJobReports (s.mark r) := by
  intro e mem
  unfold State.mark at mem
  dsimp only at mem
  split at mem
  · obtain ⟨x, hx, same⟩ := List.mem_map.mp mem
    split at same
    · exact hr e same
    · exact h e (same ▸ hx)
  · rcases List.mem_append.mp mem with old | new
    · exact h e old
    · exact hr e (List.mem_singleton.mp new).symm

theorem NoJobReports.setAlert (h : NoJobReports s) (n : AlertNo) (a : Option Alert) (act : AlertAction) (b : Bool) :
    NoJobReports (s.setAlert n a act b) :=
  NoJobReports.mark (s := { s with alerts := s.alerts.set n a }) h (by simp)

theorem NoJobReports.endCondition (h : NoJobReports s) : NoJobReports (s.endCondition k src) := by
  unfold State.endCondition
  split
  · exact h
  · split
    · exact h
    · split
      · exact h.setAlert _ _ _ _
      · exact h.setAlert _ _ _ _
      · exact h

/-! ## The alerts of the jobs (R158) -/

/-- An entry as FLUSH leaves it that removes those of the jobs (R158). -/
def keptAlert (a : Alert) : Option Alert :=
  match a.source with
  | .job _ => none
  | _ => some a

theorem keptAlert_key {a b : Alert} (h : keptAlert a = some b) : b.kind = a.kind ∧ b.source = a.source := by
  unfold keptAlert at h
  split at h
  · exact absurd h (by simp)
  · obtain rfl := Option.some.inj h
    exact ⟨rfl, rfl⟩

theorem keptAlert_again (a : Alert) : (keptAlert a).bind keptAlert = keptAlert a := by
  obtain ⟨kind, source⟩ := a
  cases source <;> rfl

/-- The removal of a job's alert at one entry (R158). -/
def State.removeJobAlert (n : AlertNo) (s : State) : State :=
  match s.alert n with
  | some a =>
    match a.source with
    | .job _ => s.setAlert n none .removed false
    | _ => s
  | none => s

theorem State.alert_removeJobAlert (m n : AlertNo) :
    (s.removeJobAlert n).alert m = if n = m then (s.alert m).bind keptAlert else s.alert m := by
  unfold State.removeJobAlert
  by_cases same : n = m
  · subst same
    cases ha : s.alert n with
    | none => simp [ha]
    | some a => cases hsrc : a.source <;> simp [ha, hsrc, keptAlert]
  · split
    · split
      · simp [State.alert_setAlert, same]
      · simp [same]
    · simp [same]

/-- The removals write the alert table and the reports alone; they leave no entry of a job among those they look at
(R158). -/
theorem State.foldl_removeJobAlert (l : List AlertNo) : ∀ s : State,
    (∃ alerts reports, l.foldl (fun s n => s.removeJobAlert n) s = { s with alerts := alerts, reports := reports }) ∧
    (NoJobReports s → NoJobReports (l.foldl (fun s n => s.removeJobAlert n) s)) ∧
    ∀ m, (l.foldl (fun s n => s.removeJobAlert n) s).alert m = if m ∈ l then (s.alert m).bind keptAlert else s.alert m := by
  induction l with
  | nil => exact fun s => ⟨⟨_, _, rfl⟩, id, fun m => by simp⟩
  | cons n l ih =>
    intro s
    obtain ⟨⟨alerts, reports, frame⟩, quiet, table⟩ := ih (s.removeJobAlert n)
    refine ⟨⟨alerts, reports, ?_⟩, fun h => quiet ?_, fun m => ?_⟩
    · rw [List.foldl_cons, frame]
      unfold State.removeJobAlert
      repeat' split
      all_goals rfl
    · unfold State.removeJobAlert
      repeat' split
      · exact h.setAlert _ _ _ _
      · exact h
      · exact h
    · rw [List.foldl_cons, table, State.alert_removeJobAlert]
      by_cases same : n = m
      · subst same
        simp [Option.bind_assoc, keptAlert_again]
      · simp [same, Ne.symm same]

/-- FLUSH removes every alert of a job, and writes the alert table and the reports alone (R158). -/
theorem State.removeJobAlerts_eq (s : State) :
    (∃ alerts reports, s.removeJobAlerts = { s with alerts := alerts, reports := reports }) ∧
    (NoJobReports s → NoJobReports s.removeJobAlerts) ∧ ∀ m, s.removeJobAlerts.alert m = (s.alert m).bind keptAlert := by
  obtain ⟨frame, quiet, table⟩ := State.foldl_removeJobAlert allAlerts s
  exact ⟨frame, quiet, fun m => (table m).trans (if_pos (List.mem_finRange m))⟩

end Alerts

/-! ## The path lists (R62, R81) -/

section Paths

variable {s : State} {p q : PressNo}

/-- A press whose path list FLUSH empties: nothing of its sheets is to be sent (R62, R81). -/
def withoutSheets (x : Press) : Press := { x with txq := x.txq.filter fun f => !f.needsCredit, path := [], send := .idle }

/-- A press after FLUSH has emptied its path list, with FLUSH PATH given to one whose path held sheets: on a free line the
control frame that waits longest goes (R62, R81). -/
def flushedPath (send : Bool) (x : Press) : Press :=
  if x.path = [] then x
  else if send then
    let q := (x.txq.filter fun f => !f.needsCredit) ++ [.flushPath]
    if x.line = none then { withoutSheets x with line := q.head?, txq := q.tail } else { withoutSheets x with txq := q }
  else withoutSheets x

@[simp] theorem flushedPath_state (send : Bool) (x : Press) : (flushedPath send x).state = x.state := by
  unfold flushedPath withoutSheets
  repeat' split
  all_goals rfl

theorem State.flushPath_eq (p : PressNo) (send : Bool) (s : State) :
    s.flushPath p send = s.modPress p (flushedPath send) := by
  unfold State.flushPath
  by_cases path : (s.press p).path = []
  · rw [if_pos (by simp [path]), State.modPress_same (by simp [flushedPath, path])]
  · rw [if_neg (by simpa using path)]
    cases send with
    | false =>
      dsimp only
      rw [if_neg Bool.false_ne_true]
      exact State.modPress_congr (by simp [flushedPath, path, withoutSheets, Press.dropSheetFrames])
    | true =>
      dsimp only
      rw [if_pos rfl, State.give, State.modPress_twice]
      by_cases line : (s.press p).line = none
      · obtain ⟨f, rest, queue⟩ : ∃ f rest,
            ((s.press p).txq.filter fun f => !f.needsCredit) ++ [PFrame.flushPath] = f :: rest :=
          List.exists_cons_of_ne_nil (by simp)
        have control : f.needsCredit = false := by
          have mem : f ∈ ((s.press p).txq.filter fun f => !f.needsCredit) ++ [PFrame.flushPath] := by simp [queue]
          rcases List.mem_append.mp mem with old | new
          · simpa using (List.mem_filter.mp old).2
          · rw [List.mem_singleton.mp new]
            rfl
        rw [State.pump_control (f := f) (rest := rest) (by simpa using line)
          (by simpa [Press.dropSheetFrames] using queue) control, State.modPress_twice]
        exact State.modPress_congr (by simp [flushedPath, path, line, queue, withoutSheets])
      · rw [State.pump, if_pos (by simpa [Option.isSome_iff_ne_none] using line)]
        exact State.modPress_congr (by simp [flushedPath, path, line, withoutSheets, Press.dropSheetFrames])

/-- One update of each press of a list writes these presses alone. -/
theorem State.foldl_modPress (f : Press → Press) (l : List PressNo) : ∀ s : State, l.Nodup →
    ∃ presses, l.foldl (fun s p => s.modPress p f) s = { s with presses := presses } ∧
      ∀ q : PressNo, presses[q] = if q ∈ l then f (s.press q) else s.press q := by
  induction l with
  | nil => exact fun s _ => ⟨s.presses, rfl, fun q => by simp [State.press]⟩
  | cons p l ih =>
    intro s nodup
    obtain ⟨apart, nodup⟩ := List.nodup_cons.mp nodup
    obtain ⟨presses, frame, written⟩ := ih (s.modPress p f) nodup
    refine ⟨presses, frame, fun q => ?_⟩
    rw [written, State.press_modPress]
    by_cases same : p = q
    · subst same
      simp [apart]
    · simp [same, Ne.symm same]

theorem State.flushPaths_eq (send : Bool) (s : State) : ∃ presses,
    allPresses.foldl (fun s p => s.flushPath p send) s = { s with presses := presses } ∧
      ∀ q : PressNo, presses[q] = flushedPath send (s.press q) := by
  simp only [State.flushPath_eq]
  obtain ⟨presses, frame, written⟩ := State.foldl_modPress (flushedPath send) allPresses s (List.nodup_finRange 12)
  exact ⟨presses, frame, fun q => (written q).trans (if_pos (List.mem_finRange q))⟩

end Paths

/-! ## The press state machines (R100) -/

section Machines

variable {s : State} {p q : PressNo}

/-- The state FLUSH takes a press to (R91, R100). -/
def flushedState (x : Press) : PressState :=
  match x.state with
  | .busy _ | .jammed | .calibrating _ _ => if x.cover = some true then .halted .cover else .idle false 0
  | st => st

/-- A press after FLUSH has reached its state machine (R100). -/
def flushedPress (x : Press) : Press := { x with resumeMark := false, state := flushedState x }

/-- Whether FLUSH ends a condition on a press in a state: JAM of a JAMMED press, MEDIA_OUT of one in media wait (R51,
R100). -/
def flushEnds (st : PressState) (k : AlertKind) : Bool :=
  match k, st with
  | .jam, .jammed => true
  | .mediaOut, .busy (some _) => true
  | _, _ => false

/-- An entry after FLUSH has reached the state machine of a press in a state (R100, R152). -/
def flushedAlert (now : Time) (p : PressNo) (st : PressState) (a : Alert) : Option Alert :=
  if a.source = .press p ∧ flushEnds st a.kind = true then endedAlert now a else some a

theorem flushedAlert_key {now : Time} {st : PressState} {a b : Alert} (h : flushedAlert now p st a = some b) :
    b.kind = a.kind ∧ b.source = a.source := by
  unfold flushedAlert at h
  split at h
  · exact endedAlert_key h
  · obtain rfl := Option.some.inj h
    exact ⟨rfl, rfl⟩

/-- What FLUSH does to a press whose state has no condition left: it is IDLE, or HALTED behind an OPEN cover (R91, R100). -/
def State.comesToRest (p : PressNo) (s : State) : State :=
  if (s.press p).cover = some true then s.putState p (.halted .cover)
  else (s.putState p (.idle false 0)).push (.decidePress p)

/-- What one press's part of FLUSH leaves where no job is live (R100). -/
structure FlushedOne (p : PressNo) (s t : State) : Prop where
  press : t.press p = flushedPress (s.press p)
  others : ∀ q, q ≠ p → t.press q = s.press q
  jobs : t.jobs = s.jobs
  time : t.time = s.time
  reports : NoJobReports s → NoJobReports t
  agenda : t.agenda = s.agenda ∨ t.agenda = s.agenda ++ [.decidePress p]
  alerts : KeysUnique s → ∀ n, t.alert n = (s.alert n).bind (flushedAlert s.time p (s.press p).state)

/-- A press on its way to rest: what stands of FLUSH is its new state (R100). -/
structure AtRestBut (p : PressNo) (s t : State) : Prop where
  press : ∃ st, t.press p = { s.press p with resumeMark := false, state := st }
  others : ∀ q, q ≠ p → t.press q = s.press q
  jobs : t.jobs = s.jobs
  time : t.time = s.time
  reports : NoJobReports s → NoJobReports t
  agenda : t.agenda = s.agenda
  alerts : KeysUnique s → ∀ n, t.alert n = (s.alert n).bind (flushedAlert s.time p (s.press p).state)

/-- A press on its way to rest takes the state FLUSH gives it. -/
theorem AtRestBut.putState {t : State} (h : AtRestBut p s t) :
    FlushedOne p s (t.putState p (flushedState (s.press p))) := by
  obtain ⟨⟨st, press⟩, others, jobs, time, reports, agenda, alerts⟩ := h
  rw [State.putState_eq]
  refine ⟨?_, fun q hq => ?_, jobs, time, fun h => NoJobReports.mark (s := t.modPress p _) (reports h) (by simp),
    .inl agenda, alerts⟩
  · simp [press, flushedPress]
  · simp [State.press_modPress, Ne.symm hq, others q hq]

theorem FlushedOne.push {t : State} (h : FlushedOne p s t) (agenda : t.agenda = s.agenda) :
    FlushedOne p s (t.push (.decidePress p)) :=
  ⟨h.press, h.others, h.jobs, h.time, h.reports, .inr (congrArg (fun l => l ++ [Task.decidePress p]) agenda), h.alerts⟩

theorem AtRestBut.flushed {t : State} (h : AtRestBut p s t) (leaves : flushedState (s.press p) =
    if (s.press p).cover = some true then .halted .cover else .idle false 0) : FlushedOne p s (t.comesToRest p) := by
  have cover : (t.press p).cover = (s.press p).cover := by
    obtain ⟨st, press⟩ := h.press
    rw [press]
  have written := h.putState
  unfold State.comesToRest
  rw [cover]
  split
  case isTrue shut => rwa [leaves, if_pos shut] at written
  case isFalse shut =>
    rw [leaves, if_neg shut] at written
    exact written.push h.agenda

theorem State.enterIdle_leaves {t : State} (left : s.leave p = t) (cover : (t.press p).cover = (s.press p).cover) :
    s.enterIdle p = t.comesToRest p := by
  rw [State.enterIdle, State.comesToRest, cover, State.enter, State.enter, left]

/-- An entry that FLUSH does not end on a press. -/
theorem flushedAlert_stays {now : Time} {st : PressState} (h : ∀ k, flushEnds st k = false) :
    flushedAlert now p st = some := by
  funext a
  simp [flushedAlert, h]

/-- The resume mark of a press with no condition to end. -/
theorem AtRestBut.unmarked (h : ∀ k, flushEnds (s.press p).state k = false) :
    AtRestBut p s (s.modPress p fun x => { x with resumeMark := false }) where
  press := ⟨(s.press p).state, by simp⟩
  others q hq := by simp [State.press_modPress, Ne.symm hq]
  jobs := rfl
  time := rfl
  reports := id
  agenda := rfl
  alerts _ n := by simp [flushedAlert_stays h]

/-- The resume mark of a press, and the condition it ends, which is that of its state (R51, R100). -/
theorem AtRestBut.ended {k : AlertKind} (own : ∀ i, flushEnds (s.press p).state i = decide (i = k)) {t : State}
    (press : ∃ st, t.press p = { s.press p with resumeMark := false, state := st })
    (others : ∀ q, q ≠ p → t.press q = s.press q)
    (jobs : t.jobs = s.jobs) (time : t.time = s.time) (reports : NoJobReports s → NoJobReports t)
    (agenda : t.agenda = s.agenda) (table : t.alerts = s.alerts) : AtRestBut p s (t.endCondition k (.press p)) where
  press := by simpa using press
  others q hq := by simpa using others q hq
  jobs := by simpa using jobs
  time := by simpa using time
  reports h := (reports h).endCondition
  agenda := by simpa using agenda
  alerts h n := by
    have same (m : AlertNo) : t.alert m = s.alert m := by simp only [State.alert, table]
    have unique : KeysUnique t := fun m n a b ha hb => h m n a b (same m ▸ ha) (same n ▸ hb)
    rw [State.alert_endCondition unique, same, time]
    refine congrArg _ (funext fun a => ?_)
    simp [flushedAlert, own, and_comm]

/-- FLUSH reaches the state machine of each press (R100). -/
theorem State.flushPress_flushed (free : ∀ e, s.job e = none) (p : PressNo) : FlushedOne p s (s.flushPress p) := by
  have idle {t : State} (not_busy : ∀ m, (t.press p).state ≠ .busy m) : t.enterIdle p = t.comesToRest p :=
    State.enterIdle_leaves (State.leave_other not_busy) rfl
  unfold State.flushPress
  simp only [State.press_modPress_self]
  split
  case h_1 now busy =>
    have left : (s.modPress p fun x => { x with resumeMark := false }).leave p =
        (s.modPress p fun x => { x with resumeMark := false }).mediaWaitEnded p now :=
      State.leave_unbound (by simpa using busy) (State.boundJob_noJobs (s := s) free p)
    have shape : flushedState (s.press p) = if (s.press p).cover = some true then .halted .cover else .idle false 0 := by
      simp [flushedState, busy]
    rw [State.enterIdle_leaves left (by cases now <;> simp [State.mediaWaitEnded_none, State.mediaWaitEnded_some])]
    cases now with
    | none =>
      refine AtRestBut.flushed (.unmarked fun k => ?_) shape
      rw [busy]
      cases k <;> rfl
    | some m =>
      rw [State.mediaWaitEnded_some, State.modPress_twice]
      refine AtRestBut.flushed (.ended (fun i => ?_) ⟨.busy none, by simp⟩ (fun q hq => ?_) rfl rfl
        (fun h => NoJobReports.mark (s := s.modPress p _) h (by simp)) rfl rfl) shape
      · rw [busy]
        cases i <;> rfl
      · simp [State.press_modPress, Ne.symm hq]
  case h_2 jammed =>
    rw [idle (by simp [jammed])]
    refine AtRestBut.flushed (.ended (fun i => ?_) ⟨.jammed, by simp [jammed]⟩ (fun q hq => ?_) rfl rfl id rfl rfl)
      (by simp [flushedState, jammed])
    · rw [jammed]
      cases i <;> rfl
    · simp [State.press_modPress, Ne.symm hq]
  case h_3 run n cal =>
    rw [idle (by simp [cal])]
    refine AtRestBut.flushed (.unmarked fun k => ?_) (by simp [flushedState, cal])
    rw [cal]
    cases k <;> rfl
  case h_4 not_busy not_jammed not_cal =>
    have stays : ∀ k, flushEnds (s.press p).state k = false := fun k => by
      cases hst : (s.press p).state with
      | busy m => exact absurd hst (not_busy m)
      | jammed => exact absurd hst not_jammed
      | _ => cases k <;> rfl
    have kept : flushedState (s.press p) = (s.press p).state := by
      unfold flushedState
      split
      · exact absurd ‹_› (not_busy _)
      · exact absurd ‹_› not_jammed
      · exact absurd ‹_› (not_cal _ _)
      · rfl
    obtain ⟨-, others, jobs, time, reports, agenda, alerts⟩ := AtRestBut.unmarked stays
    exact ⟨by simp [flushedPress, kept], others, jobs, time, reports, .inl agenda, alerts⟩

end Machines

end Sys2Proof.Machine
end

section
/-! PROOF. FLUSH (R62, R81, R100, R158, R170, R178). -/

namespace Sys2Proof.Machine

section Through

variable {s t : State} {l : List PressNo}

/-- What FLUSH leaves when it has reached the state machines of some presses (R100). -/
structure FlushedThrough (l : List PressNo) (s t : State) : Prop where
  press : ∀ q, t.press q = if q ∈ l then flushedPress (s.press q) else s.press q
  jobs : t.jobs = s.jobs
  reports : NoJobReports s → NoJobReports t
  agenda : ∃ k : List PressNo, t.agenda = s.agenda ++ k.map .decidePress ∧ k.length ≤ l.length
  alerts : KeysUnique s → ∀ n, t.alert n =
    l.foldl (fun a p => a.bind (flushedAlert s.time p (s.press p).state)) (s.alert n)

theorem FlushedThrough.cons {p : PressNo} {u : State} (first : FlushedOne p s u) (rest : FlushedThrough l u t)
    (apart : p ∉ l) : FlushedThrough (p :: l) s t := by
  obtain ⟨press, jobs, reports, ⟨k, agenda, short⟩, alerts⟩ := rest
  have others (q : PressNo) (hq : q ∈ l) : u.press q = s.press q := first.others q fun same => apart (same ▸ hq)
  refine ⟨fun q => ?_, jobs.trans first.jobs, fun h => reports (first.reports h), ?_, fun h n => ?_⟩
  · rw [press]
    by_cases same : q = p
    · subst same
      simp [apart, first.press]
    · simp [same, first.others q same]
  · rcases first.agenda with same | pushed
    · exact ⟨k, by rw [agenda, same], Nat.le_succ_of_le short⟩
    · exact ⟨p :: k, by simp [agenda, pushed], Nat.succ_le_succ short⟩
  · rw [alerts (h.of_bind (fun a b => flushedAlert_key) (first.alerts h)), List.foldl_cons, ← first.alerts h, first.time]
    exact List.foldl_ext _ _ _ fun a q hq => by rw [others q hq]

theorem FlushedThrough.of_free (free : ∀ e, s.job e = none) (nodup : l.Nodup) :
    FlushedThrough l s (l.foldl (fun s p => s.flushPress p) s) := by
  induction l generalizing s with
  | nil => exact ⟨fun q => by simp, rfl, id, ⟨[], by simp, by simp⟩, fun _ _ => rfl⟩
  | cons p l ih =>
    obtain ⟨apart, nodup⟩ := List.nodup_cons.mp nodup
    have first := State.flushPress_flushed free p
    have free' : ∀ e, (s.flushPress p).job e = none := fun e => by
      rw [State.job, first.jobs]
      exact free e
    exact .cons first (ih free' nodup) apart

end Through

/-! ## The outcome of FLUSH -/

section Flush

variable {s : State}

/-- The state in which FLUSH has given back what the jobs held, before it reaches the alerts and the presses (R178). -/
def State.emptied (s : State) : State :=
  { s with
    jobs := Vector.replicate 64 none, spool := Spool.fresh, reports := s.reports.filter fun r => !r.isJob
    ret := s.ret.zeroHolds }

@[simp] theorem State.job_emptied (e : Entry) : s.emptied.job e = none := by simp [State.emptied, State.job]

theorem State.noJobReports_emptied : NoJobReports s.emptied := by
  intro e mem
  have other := (List.mem_filter.mp mem).2
  simp [Report.isJob] at other

/-- FLUSH when it has removed the alerts of the jobs and emptied the path lists (R62, R158). -/
def State.pathsFlushed (s : State) : State :=
  allPresses.foldl (fun t p => t.flushPath p (s.liveCount != 0)) s.emptied.removeJobAlerts

/-- FLUSH before the settling that ends it: it has reached every press's state machine (R100). -/
def State.flushed (s : State) : State := allPresses.foldl (fun s p => s.flushPress p) s.pathsFlushed

theorem State.flush_eq (s : State) : s.flush = s.flushed.wantDemand.settle := by
  unfold State.flush State.flushed State.pathsFlushed State.emptied
  rfl

/-- What FLUSH has done when it reaches the state machines (R62, R158, R170). -/
structure PathsFlushed (s t : State) : Prop where
  press : ∀ p, t.press p = flushedPath (s.liveCount != 0) (s.press p)
  free : ∀ e, t.job e = none
  time : t.time = s.time
  agenda : t.agenda = s.agenda
  reports : NoJobReports t
  alerts : ∀ n, t.alert n = (s.alert n).bind keptAlert

theorem State.pathsFlushed_flushed (s : State) : PathsFlushed s s.pathsFlushed := by
  obtain ⟨⟨alerts, reports, frame⟩, unreported, kept⟩ := s.emptied.removeJobAlerts_eq
  obtain ⟨presses, paths, path⟩ := State.flushPaths_eq (s.liveCount != 0) s.emptied.removeJobAlerts
  rw [State.pathsFlushed, paths]
  generalize s.emptied.removeJobAlerts = u at frame unreported kept path
  refine ⟨fun p => (path p).trans ?_, ?_, ?_, ?_, unreported State.noJobReports_emptied, kept⟩
  all_goals rw [frame]
  · rfl
  · exact s.job_emptied
  · rfl
  · rfl

/-- What FLUSH leaves where nobody waits for a wake on demand (R62, R81, R100, R158, R170). -/
structure FlushOutcome (s t : State) : Prop where
  press : ∀ p, t.press p = flushedPress (flushedPath (s.liveCount != 0) (s.press p))
  reports : NoJobReports t
  alerts : KeysUnique s → ∀ n, t.alert n =
    allPresses.foldl (fun a p => a.bind (flushedAlert s.time p (s.press p).state)) ((s.alert n).bind keptAlert)

/-- A press that FLUSH has reached waits for a wake on demand only if it did before. -/
theorem flushedState_waits {x : Press} (h : x.state ≠ .wakeWait .demand) : flushedState x ≠ .wakeWait .demand := by
  have rest : (if x.cover = some true then .halted .cover else .idle false 0 : PressState) ≠ .wakeWait .demand := by
    split <;> simp
  unfold flushedState
  split
  · exact rest
  · exact rest
  · exact rest
  · exact h

theorem State.flush_outcome (quiet : Quiet s) (nobody : ∀ p, (s.press p).state ≠ .wakeWait .demand) :
    FlushOutcome s s.flush := by
  have begun := s.pathsFlushed_flushed
  have through : FlushedThrough allPresses s.pathsFlushed s.flushed := .of_free begun.free (List.nodup_finRange 12)
  rw [State.flush_eq]
  generalize s.flushed = u at through
  obtain ⟨press, jobs, reports, ⟨k, agenda, short⟩, alerts⟩ := through
  have reached (p : PressNo) : u.press p = flushedPress (flushedPath (s.liveCount != 0) (s.press p)) := by
    rw [press, if_pos (show p ∈ allPresses from List.mem_finRange p), begun.press]
  have free (e : Entry) : u.job e = none := by
    rw [State.job, jobs]
    exact begun.free e
  have work : NoWork u := ⟨free, fun p => by
    rw [reached]
    exact flushedState_waits (by simpa using nobody p)⟩
  have pushed : u.agenda = k.map .decidePress := by rw [agenda, begun.agenda, quiet.1, List.nil_append]
  have calm : u.wantDemand.settle = { u.wantDemand with agenda := [], demand := false } := by
    refine State.settle_noWork (s := u.wantDemand) ⟨work.free, work.nobody⟩ ?_ fun p hp => ?_
    · show u.agenda.length < 2046
      rw [pushed, List.length_map]
      exact lt_of_le_of_lt short (by decide)
    · have examined : Task.examine p ∈ u.agenda := hp
      simp [pushed] at examined
  rw [calm]
  refine ⟨reached, reports begun.reports, fun unique n => ?_⟩
  have unique' : KeysUnique s.pathsFlushed := unique.of_bind (fun a b => keptAlert_key) begun.alerts
  show u.alert n = _
  rw [alerts unique', begun.alerts, begun.time]
  simp only [begun.press, flushedPath_state]

/-- Whatever every small change inside the part keeps, and the end of a job's alert, FLUSH keeps once it has given back what
the jobs held (R178). -/
theorem Local.flush {P : State → Prop} (h : Local P) (start : P s.emptied)
    (removed : ∀ s n, P s → P (s.removeJobAlert n)) : P s.flush := by
  rw [State.flush_eq]
  refine h.settle (h.wantDemand (Local.fold (P := P) _ (fun t p ht => ?_) _
    (Local.fold (P := P) _ (fun t p ht => ?_) _ (Local.fold (P := P) _ removed _ start))))
  · have unmarked : P (t.modPress p fun x => { x with resumeMark := false }) := h.press _ _ _ ht
    unfold State.flushPress
    dsimp only
    split
    · exact h.enterIdle unmarked
    · exact h.enterIdle (h.ended _ _ _ unmarked)
    · exact h.enterIdle unmarked
    · exact unmarked
  · rw [State.flushPath_eq]
    exact h.press _ _ _ ht

/-- What FLUSH leaves of the part's own values in every state (R178). -/
structure FlushFrame (s t : State) : Prop where
  free : ∀ e, t.job e = none
  accounts : t.ret.accounts = s.ret.zeroHolds.accounts
  spool : t.spool = Spool.fresh
  outer : t.outer = s.outer

theorem State.removeJobAlert_frame (n : AlertNo) (s : State) : ∃ alerts reports,
    s.removeJobAlert n = { s with alerts := alerts, reports := reports } := by
  unfold State.removeJobAlert
  split
  · split
    · exact ⟨_, _, rfl⟩
    · exact ⟨_, _, rfl⟩
  · exact ⟨_, _, rfl⟩

theorem State.flush_frame (s : State) : FlushFrame s s.flush := by
  obtain ⟨free, accounts⟩ := (noJobs_local s.ret.zeroHolds.accounts).flush (s := s) ⟨s.job_emptied, rfl⟩ fun t n h => by
    obtain ⟨alerts, reports, frame⟩ := t.removeJobAlert_frame n
    rw [frame]
    exact h
  refine ⟨free, accounts, fresh_local.flush rfl fun t n h => ?_, (outer_local s.outer).flush rfl fun t n h => ?_⟩
  all_goals
    obtain ⟨alerts, reports, frame⟩ := t.removeJobAlert_frame n
    rw [frame]
    exact h

end Flush

/-! ## FLUSH and the alerts of one press -/

section Entries

variable {now : Time} {a : Alert} {st : PressNo → PressState}

/-- An entry whose source is not a press stands through the state machines. -/
theorem foldl_flushedAlert_other (h : ∀ p, a.source ≠ .press p) (l : List PressNo) :
    l.foldl (fun a p => a.bind (flushedAlert now p (st p))) (some a) = some a :=
  foldl_same _ _ fun p => by simp [flushedAlert, h p]

theorem flushEnds_jam (x : PressState) : flushEnds x .jam = (x == .jammed) := by
  cases x <;> rfl

/-- What a press's state machine has made of an entry stands. -/
theorem flushedAlert_again {p : PressNo} {x : PressState} {b : Alert} (h : flushedAlert now p x a = some b) :
    flushedAlert now p x b = some b := by
  obtain ⟨kind, source⟩ := flushedAlert_key h
  unfold flushedAlert at h ⊢
  rw [kind, source]
  split at h
  case isTrue ends => rw [if_pos ends, endedAlert_again h]
  case isFalse stands => rw [if_neg stands]

/-- An entry of a press is what the state machine of that press makes of it. -/
theorem foldl_flushedAlert_press {p : PressNo} (h : a.source = .press p) :
    allPresses.foldl (fun a p => a.bind (flushedAlert now p (st p))) (some a) = flushedAlert now p (st p) a := by
  have others (q : PressNo) (b : Alert) (source : b.source = .press p) (hq : q ≠ p) :
      flushedAlert now q (st q) b = some b := by
    simp [flushedAlert, source, Ne.symm hq]
  refine foldl_once (a := p) _ rfl (fun q hq => others q a h hq) (fun q => ?_) _ (List.mem_finRange p)
  rw [Option.bind_some]
  cases hb : flushedAlert now p (st p) a with
  | none => rfl
  | some b =>
    by_cases same : q = p
    · subst same
      exact flushedAlert_again hb
    · exact others q b ((flushedAlert_key hb).2.trans h) same

end Entries

/-! ## FLUSH and one press -/

/-- A press after FLUSH: FLUSH PATH goes at once on a free line, where no control frame waits, and else behind the control
frames, if a job was live (R62, R81, R100; log entry 15). -/
theorem flushedPress_flushedPath {x : Press} (n : Nat)
    (waits : x.line = none → ∀ f ∈ x.txq, f.needsCredit = true) : flushedPress (flushedPath (n != 0) x) =
      { x with
        path := [], resumeMark := false, send := if x.path = [] then x.send else .idle
        txq := if x.path = [] then x.txq
          else if (x.path ≠ [] ∧ n ≠ 0) ∧ x.line ≠ none then x.txq.filter (fun f => !f.needsCredit) ++ [.flushPath]
          else x.txq.filter fun f => !f.needsCredit
        line := if (x.path ≠ [] ∧ n ≠ 0) ∧ x.line = none then some .flushPath else x.line
        state := flushedState x } := by
  by_cases path : x.path = []
  · simp [flushedPath, flushedPress, path]
  · by_cases live : n = 0
    · simp [flushedPath, flushedPress, withoutSheets, flushedState, path, live]
    · by_cases line : x.line = none
      · have none_kept : x.txq.filter (fun f => !f.needsCredit) = [] :=
          List.filter_eq_nil_iff.mpr fun f hf => by simp [waits line f hf]
        simp [flushedPath, flushedPress, withoutSheets, flushedState, path, live, line, none_kept]
      · simp [flushedPath, flushedPress, withoutSheets, flushedState, path, live, line]

/-- Settles O39. -/
theorem flushed : Obligations.Flushed := by
  intro s tag free live
  have taken : exec (.flush tag) s = .next (s.flush.answered tag 0x41 (okWith (le 1 live))) := exec_free free rfl rfl
  have frame := s.flush_frame
  have outcome := State.flush_outcome free.quiet
  rw [taken]
  generalize s.flush = t at frame outcome
  obtain ⟨none_live, accounts, spool, outer⟩ := frame
  refine ⟨_, rfl, none_live, spool, fun a => ?_, ?_, fun nobody => ?_⟩
  · show t.ret.accounts[a] = _
    rw [accounts]
    simp [Retained.zeroHolds, State.account]
  · show ({ t.outer with slot := some (replyTo tag 0x41 (okWith (le 1 live))) } : Outer) = _
    rw [outer]
  · obtain ⟨press, reports, alerts⟩ := outcome nobody
    refine ⟨reports, fun p waits => (press p).trans ?_, fun keyed n => (alerts keyed.unique n).trans ?_⟩
    · exact flushedPress_flushedPath live waits
    · cases ha : s.alert n with
      | none => exact foldl_same _ _ fun p => rfl
      | some a =>
        obtain ⟨kind, source, detail, level, state, occurrences, raised, changed⟩ := a
        cases source with
        | job serial => exact foldl_same _ _ fun p => rfl
        | part =>
          refine (foldl_flushedAlert_other (by simp) allPresses).trans ?_
          cases kind <;> cases state <;> rfl
        | press p =>
          refine (foldl_flushedAlert_press (p := p) rfl).trans ?_
          cases kind with
          | jam => cases state <;> simp [flushedAlert, flushEnds_jam, endedAlert]
          | mediaOut =>
            cases hst : (s.press p).state with
            | busy m => cases m <;> cases state <;> simp [flushedAlert, flushEnds, endedAlert, hst]
            | _ => cases state <;> simp [flushedAlert, flushEnds, hst]
          | _ => cases state <;> simp [flushedAlert, flushEnds]

end Sys2Proof.Machine
end

section
/-! SUPPORT. PRESS SET by its parts (log entry 39): the settings stored, the queue move, the idle timer and the sleep point,
the change of pool (R64, R79, R105, R109 to R112). -/

namespace Sys2Proof.Machine

/-! ## The operands and the settings (R64, R109 to R112) -/

theorem poolOf_poolByte (pool : Option PoolNo) : poolOf (BitVec.ofNat 8 (poolByte pool)) = some pool := by
  cases pool with
  | none => rfl
  | some q =>
    revert q
    decide

theorem clampShort_eq (n : Nat) :
    clampShort n = if n = 0 then 0 else if n < 250 then 250 else if 50000 < n then 50000 else n := by
  rw [clampShort, clamp_eq (by decide)]

section Set

variable {s t : State} {p : PressNo} {pool : Option PoolNo} {c : CircuitNo} {f : PressSpec}

/-- PRESS SET on a press whose state allows the change answers the settings as stored (R64, R79, R101). -/
theorem exec_pressSet (free : HostFree s) (steady : s.restarting p = false) (named : poolOf f.pool = some pool)
    (circuit : circuitOf f.circuit = some c)
    (allowed : (s.press p).state.inUse = true → (s.pressRec p).pool = pool ∧ (s.pressRec p).circuit = c)
    (settled : (s.setPress p pool c f).settle = t) (tag : Byte) :
    exec (.pressSet tag (BitVec.ofNat 8 p.val) f) s =
      .next (t.answered tag 0x20 (okWith (le 1 p.val ++ (t.pressRec p).settingBytes))) := by
  have taken : (((s.pressRec p).pool != pool || (s.pressRec p).circuit != c) && (s.press p).state.inUse) = false := by
    cases use : (s.press p).state.inUse with
    | false => exact Bool.and_false _
    | true =>
      obtain ⟨same_pool, same_circuit⟩ := allowed use
      simp [same_pool, same_circuit]
  refine exec_free free rfl ?_
  rw [performRequest, reqPressSet, withPress_ofNat]
  simp only [named, circuit, steady, taken, Bool.false_eq_true, if_false, settled]

/-- A change of the pool or the circuit of a press in use is refused (R79). -/
theorem exec_pressSet_inUse (free : HostFree s) (steady : s.restarting p = false) (named : poolOf f.pool = some pool)
    (circuit : circuitOf f.circuit = some c) (use : (s.press p).state.inUse = true)
    (change : (s.pressRec p).pool ≠ pool ∨ (s.pressRec p).circuit ≠ c) (tag : Byte) :
    exec (.pressSet tag (BitVec.ofNat 8 p.val) f) s = .next (s.answered tag 0x20 { code := .state, figures := [] }) := by
  have refused : (((s.pressRec p).pool != pool || (s.pressRec p).circuit != c) && (s.press p).state.inUse) = true := by
    simpa [use] using change
  refine exec_free free rfl ?_
  rw [performRequest, reqPressSet, withPress_ofNat]
  simp only [named, circuit, steady, refused, Bool.false_eq_true, if_false, if_true]
  rfl

/-- A state with the six settings of a press stored (R64). -/
def State.settingsStored (p : PressNo) (pool : Option PoolNo) (c : CircuitNo) (f : PressSpec) (s : State) : State :=
  s.modRec p (PressRec.set pool c f)

/-- What PRESS SET does before it acts on the change of pool (log entry 39). -/
def State.settingsApplied (p : PressNo) (pool : Option PoolNo) (c : CircuitNo) (f : PressSpec) (s : State) : State :=
  (((s.settingsStored p pool c f).moveQueue p (s.pressRec p).circuit c).expireIdle p).trySleep p

theorem State.setPress_samePool (same : (s.pressRec p).pool = pool) :
    s.setPress p pool c f = s.settingsApplied p pool c f := by
  simp only [State.setPress, if_pos same, State.settingsApplied, State.settingsStored]

/-- A new pool is acted on last; a bound job keeps the present one in force (R79; log entry 48). -/
theorem State.setPress_newPool (change : (s.pressRec p).pool ≠ pool) :
    s.setPress p pool c f = ((s.holdPool p).settingsApplied p pool c f).poolChanged p := by
  have same : (s.holdPool p).pressRec p = s.pressRec p := by
    unfold State.holdPool
    split <;> rfl
  unfold State.setPress State.settingsApplied State.settingsStored
  dsimp only
  rw [if_neg change, if_neg change, same]

theorem State.holdPool_unbound (unbound : s.boundJob p = none) : s.holdPool p = s := by
  simp [State.holdPool, unbound]

/-- A state in which the present pool of a press stays in force while a job is bound to it (R79). -/
def State.poolHeld (p : PressNo) (s : State) : State :=
  s.modPress p fun x => { x with heldPool := some (s.poolInForce p) }

theorem State.holdPool_bound {e : Entry} (bound : s.boundJob p = some e) : s.holdPool p = s.poolHeld p := by
  simp [State.holdPool, bound, State.poolHeld]

theorem State.poolChanged_idle (idle : (s.press p).state.isIdle = true) :
    s.poolChanged p = s.wantDemand.push (.decidePress p) := by
  simp [State.poolChanged, idle]

theorem State.poolChanged_other (busy : (s.press p).state.isIdle = false) : s.poolChanged p = s.wantDemand := by
  simp [State.poolChanged, busy]

/-- A change of pool is forgotten where there is no work. -/
theorem Settles.poolChanged_noWork (hq : Quiet s) (work : NoWork s) (p : PressNo) : Settles 3 (s.poolChanged p) s := by
  cases idle : (s.press p).state.isIdle with
  | true =>
    rw [State.poolChanged_idle idle]
    exact Settles.decidePress_noWork hq work p
  | false =>
    rw [State.poolChanged_other idle]
    exact (Settles.demand_noWork hq work).mono (by decide)

/-- Where there is no work, PRESS SET settles to what it does before it acts on the change of pool. -/
theorem State.setPress_noWork (work : NoWork s) (hq : Quiet t) (work' : NoWork t)
    (applied : s.settingsApplied p pool c f = t ∨ s.settingsApplied p pool c f = t.wantDemand) :
    (s.setPress p pool c f).settle = t := by
  by_cases same : (s.pressRec p).pool = pool
  · rw [State.setPress_samePool same]
    rcases applied with plain | demand
    · rw [plain, State.settle_quiet hq]
    · rw [demand, (Settles.demand_noWork hq work').settle (by decide)]
  · have changed : (s.settingsApplied p pool c f).poolChanged p = t.poolChanged p := by
      rcases applied with plain | demand
      · rw [plain]
      · rw [demand]
        rfl
    rw [State.setPress_newPool same, State.holdPool_unbound (State.boundJob_noJobs work.free p), changed]
    exact (Settles.poolChanged_noWork hq work' p).settle (by decide)

end Set

/-! ## The idle timer and the sleep point (R109, R110) -/

section Sleep

variable {s : State} {p : PressNo} {n : Nat} {since : Time}

theorem State.sleepPointPassed_iff (awake : (s.press p).awakeSince = some since) :
    s.sleepPointPassed p = true ↔ (s.pressRec p).minAwake * 60 ≤ (s.time - since).toNat := by
  simp only [State.sleepPointPassed, awake, decide_eq_true_eq]
  exact Iff.rfl

theorem State.trySleep_other (h : ∀ n, (s.press p).state ≠ .idle true n) : s.trySleep p = s := by
  unfold State.trySleep
  split
  case h_1 n pending => exact absurd pending (h n)
  case h_2 => rfl

theorem State.trySleep_early (early : s.sleepPointPassed p = false) : s.trySleep p = s := by
  unfold State.trySleep
  split <;> simp [early]

/-- What SLEEP sent to a press whose line is free leaves (R93). -/
def State.sentToSleep (p : PressNo) (s : State) : State :=
  (s.modPress p fun x => { x with state := .sleeping, line := some .sleep }).mark (.press p)

/-- From its sleep point on a press with SLEEP_PENDING goes to SLEEPING, SLEEP sent at once on a free line (R93, R110). -/
theorem State.trySleep_reached (pending : (s.press p).state = .idle true n) (reached : s.sleepPointPassed p = true)
    (queue : (s.press p).txq = []) (line : (s.press p).line = none) : s.trySleep p = (s.sentToSleep p).wantDemand := by
  simp only [State.trySleep, pending, reached, if_true]
  rw [State.sendSleep, State.enter_other (by simp [pending]), State.putState_eq, State.give]
  simp only [State.modPress_wantDemand, State.modPress_mark, State.modPress_twice]
  rw [State.pump_control (f := .sleep) (rest := []) (by simp [line]) (by simp [queue]) rfl]
  simp only [State.modPress_wantDemand, State.modPress_mark, State.modPress_twice, State.sentToSleep]
  exact congrArg (fun t => (State.mark (.press p) t).wantDemand) (State.modPress_congr (by simp [queue]))

theorem State.expireIdle_undue (h : s.idleExpired p = false) : s.expireIdle p = s := by
  simp [State.expireIdle, h]

/-- What the end of the idle timer leaves of a press (R109). -/
def State.sleepPending (p : PressNo) (s : State) : State :=
  (s.modPress p fun x => { x with state := .idle true 0 }).mark (.press p)

theorem State.sleepPointPassed_sleepPending : (s.sleepPending p).sleepPointPassed p = s.sleepPointPassed p := by
  have awake : ((s.sleepPending p).press p).awakeSince = (s.press p).awakeSince := by simp [State.sleepPending]
  unfold State.sleepPointPassed
  rw [awake]
  rfl

theorem State.expireIdle_due (idle : (s.press p).state = .idle false n) (due : s.idleExpired p = true) :
    s.expireIdle p = (s.sleepPending p).trySleep p := by
  simp only [State.expireIdle, due, if_true, State.setSleepPending, idle, State.sleepPending]

/-- Neither timer acts on a press that is not IDLE. -/
theorem State.expireIdle_trySleep_other (busy : (s.press p).state.isIdle = false) : (s.expireIdle p).trySleep p = s := by
  have not_idle : ∀ b n, (s.press p).state ≠ .idle b n := fun b n idle => by simp [idle, PressState.isIdle] at busy
  have undue : s.idleExpired p = false := by
    rw [Bool.eq_false_iff, Ne, State.idleExpired_iff]
    exact fun ⟨n, idle, _⟩ => not_idle _ n idle
  rw [State.expireIdle_undue undue, State.trySleep_other (not_idle true)]

/-- The idle timer of a press that is due, its sleep point ahead (R109, R110). -/
theorem State.expireIdle_trySleep_early (idle : (s.press p).state = .idle false n) (due : s.idleExpired p = true)
    (early : s.sleepPointPassed p = false) : (s.expireIdle p).trySleep p = s.sleepPending p := by
  have still_early := State.sleepPointPassed_sleepPending.trans early
  rw [State.expireIdle_due idle due, State.trySleep_early still_early, State.trySleep_early still_early]

/-- A press that is due or has SLEEP_PENDING goes to SLEEPING from its sleep point on (R109, R110). -/
theorem State.expireIdle_trySleep_reached
    (sleepy : (s.press p).state = .idle true n ∨ (s.press p).state = .idle false n ∧ s.idleExpired p = true)
    (reached : s.sleepPointPassed p = true) (queue : (s.press p).txq = []) (line : (s.press p).line = none) :
    (s.expireIdle p).trySleep p = (s.sentToSleep p).wantDemand := by
  rcases sleepy with pending | ⟨idle, due⟩
  · have undue : s.idleExpired p = false := by simp [State.idleExpired, pending]
    rw [State.expireIdle_undue undue, State.trySleep_reached pending reached queue line]
  · have still_reached := State.sleepPointPassed_sleepPending.trans reached
    have sent : (s.sleepPending p).trySleep p = (s.sentToSleep p).wantDemand := by
      rw [State.trySleep_reached (n := 0) (by simp [State.sleepPending]) still_reached
        (by simpa [State.sleepPending] using queue) (by simpa [State.sleepPending] using line)]
      simp [State.sleepPending, State.sentToSleep]
    rw [State.expireIdle_due idle due, sent, State.trySleep_other (by simp [State.sentToSleep])]

end Sleep

/-! ## The wake queues (R105, R106) -/

section Queues

variable {s : State} {p : PressNo} {c old new : CircuitNo}

/-- A state with a press taken out of a circuit's queue. -/
def State.unqueued (c : CircuitNo) (p : PressNo) (s : State) : State :=
  s.modCircuit c fun x => { x with queue := x.queue.filter fun q => q != p }

/-- A state with a press at the tail of a circuit's queue. -/
def State.queuedLast (c : CircuitNo) (p : PressNo) (s : State) : State :=
  s.modCircuit c fun x => { x with queue := x.queue ++ [p] }

/-- A press that leaves a circuit's queue leaves no wake to grant behind it: it is not at the head, the limits allow none,
or nobody else waits there (R106). -/
def NoGrantBehind (s : State) (c : CircuitNo) (p : PressNo) : Prop :=
  (s.circuit c).queue.head? ≠ some p ∨ ¬ GrantOpen (s.settings c) (s.circuit c).ring s.time ∨
    ((s.circuit c).queue.filter fun q => q != p) = []

@[simp] theorem State.queue_unqueued : ((s.unqueued c p).circuit c).queue = (s.circuit c).queue.filter fun q => q != p := by
  simp [State.unqueued]

theorem State.circuit_unqueued_other (other : old ≠ new) : (s.unqueued old p).circuit new = s.circuit new := by
  rw [State.unqueued, State.circuit_modCircuit, if_neg other]

theorem State.modCircuit_same {f : Circuit → Circuit} (h : f (s.circuit c) = s.circuit c) : s.modCircuit c f = s := by
  unfold State.modCircuit
  rw [h]
  simp [State.circuit]

theorem State.leaveQueue_noGrant (h : NoGrantBehind s c p) : s.leaveQueue c p = s.unqueued c p := by
  have left : s.leaveQueue c p =
      if (s.circuit c).queue.head? = some p then (s.unqueued c p).grantCheck c else s.unqueued c p := rfl
  rw [left]
  split
  case isFalse => rfl
  case isTrue head =>
    rcases h with behind | closed | nobody
    · exact absurd head behind
    · exact State.grantLoop_closed (by simpa [State.unqueued, State.settings] using closed) 12
    · exact State.grantLoop_empty (by simpa using nobody) 12

/-- A press joins behind others, or where the limits allow no wake (R105, R106). -/
theorem State.joinQueue_waits
    (h : (s.circuit c).queue ≠ [] ∨ ¬ GrantOpen (s.settings c) (s.circuit c).ring s.time) :
    s.joinQueue c p = s.queuedLast c p := by
  have joins : s.joinQueue c p =
      if (s.circuit c).queue.isEmpty then (s.queuedLast c p).grantCheck c else s.queuedLast c p := rfl
  rw [joins]
  split
  case isFalse => rfl
  case isTrue empty =>
    have closed := h.resolve_left (not_not_intro (List.isEmpty_iff.mp empty))
    exact State.grantLoop_closed (by simpa [State.queuedLast, State.settings] using closed) 12

/-- A ready press that joins an empty queue whose limits allow it is granted its wake (R105, R106). -/
theorem State.joinQueue_granted (empty : (s.circuit c).queue = [])
    (opens : GrantOpen (s.settings c) (s.circuit c).ring s.time) (ready : ReadyToWake s p) :
    s.joinQueue c p = ((s.queuedLast c p).wakeGranted c p).wantDemand := by
  have joins : s.joinQueue c p =
      if (s.circuit c).queue.isEmpty then (s.queuedLast c p).grantCheck c else s.queuedLast c p := rfl
  rw [joins, if_pos (List.isEmpty_iff.mpr empty)]
  exact State.grantCheck_one (rest := []) (by simp [State.queuedLast, empty]) ⟨ready.waits, ready.queue, ready.line⟩
    (by simpa [State.queuedLast, State.settings] using opens) (.inr rfl)

theorem State.moveQueue_stays (h : old = new ∨ ∀ o, (s.press p).state ≠ .wakeWait o) : s.moveQueue p old new = s := by
  unfold State.moveQueue
  split
  case isTrue => rfl
  case isFalse other =>
    split
    case h_1 o waits => exact absurd waits (h.resolve_left other o)
    case h_2 => rfl

theorem State.moveQueue_waiting {o : WakeOrigin} (other : old ≠ new) (waits : (s.press p).state = .wakeWait o) :
    s.moveQueue p old new = (s.leaveQueue old p).joinQueue new p := by
  simp only [State.moveQueue, if_neg other, waits]

/-- A press that stands in one circuit's queue at most leaves that one (R105). -/
theorem State.leaveQueues_one (h : NoGrantBehind s c p) (others : ∀ k, k ≠ c → (s.circuit k).queue.contains p = false) :
    s.leaveQueues p = s.unqueued c p := by
  refine foldl_once _ ?_ (fun k hk => by simp only [others k hk, Bool.false_eq_true, if_false]) (fun k => ?_) _
    (List.mem_finRange c)
  · split
    case isTrue => exact State.leaveQueue_noGrant h
    case isFalse absent =>
      have unchanged : ((s.circuit c).queue.filter fun q => q != p) = (s.circuit c).queue := by
        refine List.filter_eq_self.mpr fun q hq => ?_
        have other : q ≠ p := fun same => absent (by simpa [← same] using hq)
        simpa using other
      exact (State.modCircuit_same (by rw [unchanged])).symm
  · have gone : ((s.unqueued c p).circuit k).queue.contains p = false := by
      by_cases hk : k = c
      · subst hk
        simp
      · rw [State.circuit_unqueued_other (Ne.symm hk)]
        exact others k hk
    simp only [gone, Bool.false_eq_true, if_false]

end Queues

/-! ## A withdrawal by wake demand with no job live (R78) -/

section Withdrawal

variable {s : State} {p : PressNo} {c : CircuitNo}

/-- What a withdrawal leaves of a press that stands in one circuit's queue at most (R78, R92). -/
def State.withdrawnFrom (c : CircuitNo) (p : PressNo) (s : State) : State :=
  ((s.modPress p fun x => { x with state := .asleep }).mark (.press p)).unqueued c p

theorem State.withdraw_eq (waits : (s.press p).state = .wakeWait .demand) (h : NoGrantBehind s c p)
    (others : ∀ k, k ≠ c → (s.circuit k).queue.contains p = false) :
    s.withdraw p = (s.withdrawnFrom c p).wantDemand := by
  rw [State.withdraw, State.enter_other (by simp [waits])]
  exact State.leaveQueues_one (s := s.putState p .asleep) h others

theorem State.trimPress_noJobs (free : ∀ e, s.job e = none) (waits : (s.press p).state = .wakeWait .demand) :
    s.trimPress p = s.withdraw p := by
  have unfitting : ∀ q, s.poolFitting q p = false := fun q => by simp [State.poolFitting, State.poolJobs_noJobs free]
  have withdrawable : s.withdrawable p = true := by simp [State.withdrawable, waits, State.pressDemand_noJobs free]
  unfold State.trimPress
  cases s.poolInForce p <;> simp [withdrawable, unfitting]

theorem State.trimPool_noJobs (free : ∀ e, s.job e = none) (q : PoolNo) :
    s.trimPool q (s.poolAwake q - s.poolWanted q) = s := by
  have none_fits : s.poolPresses q = [] := by
    simp [State.poolPresses, State.poolFitting, State.poolJobs_noJobs free]
  have none_awake : s.poolAwake q = 0 := by simp [State.poolAwake, none_fits]
  rw [none_awake, Nat.zero_sub]
  rfl

/-- With no job live, wake demand withdraws the one press that waits on demand (R78): of pool NONE in its first step, of a
pool in its third. -/
theorem State.evalDemand_withdraws (free : ∀ e, s.job e = none)
    (only : ∀ q, (s.press q).state = .wakeWait .demand ↔ q = p) (done : NoWork (s.withdraw p)) :
    s.evalDemand = s.withdraw p := by
  have one : s.trimPress p = s.withdraw p := State.trimPress_noJobs free ((only p).mpr rfl)
  have others : ∀ q, q ≠ p → s.trimPress q = s := fun q hq => State.trimPress_nobody (mt (only q).mp hq)
  have after : ∀ q, (s.withdraw p).trimPress q = s.withdraw p := fun q => State.trimPress_nobody (done.nobody q)
  have keep : allPresses.foldl (fun s q => State.keepWanted q s) (s.withdraw p) = s.withdraw p :=
    foldl_same _ _ (State.keepWanted_noJobs done.free)
  unfold State.evalDemand
  dsimp only
  rw [foldl_same (fun s q => State.wakeForPress q s) _ (State.wakeForPress_noJobs free),
    foldl_same (fun s q => State.wakeForPool q 12 s) _ fun q => State.wakeForPool_noJobs free q 12]
  cases pool : s.poolInForce p with
  | none =>
    rw [foldl_once (fun (s : State) q => if (s.poolInForce q).isNone then State.trimPress q s else s) (b := s) (a := p)
        (c := s.withdraw p) (by simp [pool, one]) (fun q hq => by rw [others q hq, ite_self])
        (fun q => by rw [after q, ite_self]) allPresses (List.mem_finRange p),
      foldl_same (fun (s : State) q => State.trimPool q (s.poolAwake q - s.poolWanted q) s) _
        (State.trimPool_noJobs done.free),
      foldl_same (fun s q => State.trimPress q s) _ after, keep]
  | some k =>
    have first : ∀ q, (if (s.poolInForce q).isNone then State.trimPress q s else s) = s := fun q => by
      by_cases hq : q = p
      · simp [hq, pool]
      · rw [others q hq, ite_self]
    rw [foldl_same (fun (s : State) q => if (s.poolInForce q).isNone then State.trimPress q s else s) _ first,
      foldl_same (fun (s : State) q => State.trimPool q (s.poolAwake q - s.poolWanted q) s) _ (State.trimPool_noJobs free),
      foldl_once (fun s q => State.trimPress q s) one others after allPresses (List.mem_finRange p), keep]

/-- The wake demand raised by a change of pool withdraws the one press that waits on demand, and then has nothing left. -/
theorem Settles.withdrawn (hq : Quiet s) (free : ∀ e, s.job e = none)
    (only : ∀ q, (s.press q).state = .wakeWait .demand ↔ q = p) (h : NoGrantBehind s c p)
    (others : ∀ k, k ≠ c → (s.circuit k).queue.contains p = false) :
    Settles 3 s.wantDemand (s.withdrawnFrom c p) := by
  have left := State.withdraw_eq ((only p).mpr rfl) h others
  have work : NoWork (s.withdrawnFrom c p) := by
    refine ⟨fun e => free e, fun q => ?_⟩
    by_cases hq : q = p
    · simp [hq, State.withdrawnFrom, State.unqueued]
    · have same : (s.withdrawnFrom c p).press q = s.press q := by
        simp [State.withdrawnFrom, State.unqueued, State.press_modPress, Ne.symm hq]
      rw [same]
      exact mt (only q).mp hq
  have quiet : Quiet (s.withdrawnFrom c p) := hq
  refine Settles.demand hq ?_
  rw [State.evalDemand_withdraws free only (by rw [left]; exact (noWork_wantDemand _).mpr work), left]
  exact Settles.demand_noWork quiet work

end Withdrawal

end Sys2Proof.Machine
end

section
/-! PROOF. What PRESS SET settles to, by the state of its press (R64, R66, R78, R79, R105, R106, R109 to R112). -/

namespace Sys2Proof.Machine

theorem PressRec.set_eq (pool : Option PoolNo) (c : CircuitNo) (f : PressSpec) (r : PressRec) : PressRec.set pool c f r =
    let n := f.shortInterval.toNat
    let short := if n = 0 then 0 else if n < 250 then 250 else if 50000 < n then 50000 else n
    { r with
      pool := pool, circuit := c, idleTimeout := min f.idleTimeout.toNat 240, minAwake := min f.minAwake.toNat 60
      shortInterval := short, longThreshold := min f.longThreshold.toNat 24
      shortDue := r.shortDue || (short != 0 && decide (short ≤ r.sheetCount)) } := by
  rw [PressRec.set, PressRec.testShort_eq, clampShort_eq]

@[simp] theorem PressRec.set_caps (pool : Option PoolNo) (c : CircuitNo) (f : PressSpec) (r : PressRec) :
    (PressRec.set pool c f r).caps = r.caps := by
  rw [PressRec.set_eq]

section Outcomes

variable {s : State} {p : PressNo} {pool : Option PoolNo} {c : CircuitNo} {f : PressSpec}

@[simp] theorem State.press_settingsStored (q : PressNo) : (s.settingsStored p pool c f).press q = s.press q := rfl

@[simp] theorem State.pressRec_settingsStored :
    (s.settingsStored p pool c f).pressRec p = PressRec.set pool c f (s.pressRec p) := State.pressRec_modRec_self ..

theorem NoWork.settingsStored (work : NoWork s) : NoWork (s.settingsStored p pool c f) := (noWork_modRec ..).mpr work

/-- A press that stays in its queue and is not IDLE has its settings stored. -/
theorem State.settingsApplied_other (busy : (s.press p).state.isIdle = false)
    (stays : (s.pressRec p).circuit = c ∨ ∀ o, (s.press p).state ≠ .wakeWait o) :
    s.settingsApplied p pool c f = s.settingsStored p pool c f := by
  rw [State.settingsApplied, State.moveQueue_stays (by simpa using stays),
    State.expireIdle_trySleep_other (by simpa using busy)]

/-- An IDLE press stands in no queue: its timers alone are looked at. -/
theorem State.settingsApplied_idle (idle : (s.press p).state.isIdle = true) :
    s.settingsApplied p pool c f = ((s.settingsStored p pool c f).expireIdle p).trySleep p := by
  rw [State.settingsApplied, State.moveQueue_stays (.inr fun o waits => ?_)]
  rw [State.press_settingsStored] at waits
  simp [waits, PressState.isIdle] at idle

/-- An IDLE press whose timers have nothing to do has its settings stored. -/
theorem State.settingsApplied_idle_undue (idle : (s.press p).state.isIdle = true)
    (undue : (s.settingsStored p pool c f).idleExpired p = false)
    (early : (∀ n, (s.press p).state ≠ .idle true n) ∨ (s.settingsStored p pool c f).sleepPointPassed p = false) :
    s.settingsApplied p pool c f = s.settingsStored p pool c f := by
  rw [State.settingsApplied_idle idle, State.expireIdle_undue undue]
  rcases early with awake | early
  · exact State.trySleep_other (by simpa using awake)
  · exact State.trySleep_early early

/-- On a press that neither idles nor waits, of an unchanged pool or with no work, the settings alone change. -/
theorem State.setPress_other (hq : Quiet s) (busy : (s.press p).state.isIdle = false)
    (stays : ∀ o, (s.press p).state ≠ .wakeWait o) (calm : (s.pressRec p).pool = pool ∨ NoWork s) :
    (s.setPress p pool c f).settle = s.settingsStored p pool c f := by
  have applied : s.settingsApplied p pool c f = s.settingsStored p pool c f :=
    State.settingsApplied_other busy (.inr stays)
  rcases calm with same | work
  · rw [State.setPress_samePool same, applied]
    exact State.settle_quiet (s := s.settingsStored p pool c f) hq
  · exact State.setPress_noWork work hq work.settingsStored (.inl applied)

/-! ### The pool in force (R79) -/

theorem State.poolInForce_held {e : Entry} {q : Option PoolNo} (held : (s.press p).heldPool = some q)
    (bound : s.boundJob p = some e) : s.poolInForce p = q := by
  simp [State.poolInForce, held, bound]

theorem State.poolInForce_unbound (unbound : s.boundJob p = none) : s.poolInForce p = (s.pressRec p).pool := by
  unfold State.poolInForce
  split <;> simp [unbound]

/-- While a job is bound to a HALTED press its present pool stays in force (R79; log entry 48). -/
theorem State.setPress_held {e : Entry} {cause : HaltCause} (hq : Quiet s) (still : Still s)
    (halted : (s.press p).state = .halted cause) (bound : s.boundJob p = some e) (change : (s.pressRec p).pool ≠ pool) :
    (s.setPress p pool c f).settle = (s.settingsStored p pool c f).modPress p fun x =>
      { x with heldPool := some (s.poolInForce p) } := by
  have state : ((s.poolHeld p).press p).state = .halted cause := by simp [State.poolHeld, halted]
  have applied : (s.poolHeld p).settingsApplied p pool c f = (s.poolHeld p).settingsStored p pool c f :=
    State.settingsApplied_other (by simp [state, PressState.isIdle]) (.inr (by simp [state]))
  have changed : ((s.poolHeld p).settingsStored p pool c f).poolChanged p =
      ((s.poolHeld p).settingsStored p pool c f).wantDemand := State.poolChanged_other (by simp [state, PressState.isIdle])
  rw [State.setPress_newPool change, State.holdPool_bound bound, applied, changed]
  have still' : Still (s.poolHeld p) := still.modPress p (by simp [halted, PressState.isIdle])
  exact (Settles.demand_still (s := (s.poolHeld p).settingsStored p pool c f) hq still').settle (by decide)

/-- An IDLE press takes its best candidate of its new pool at once, where wake demand has nobody to ask (R66, R71, R79). -/
theorem State.setPress_binds {e : Entry} {j : Job} {n : Nat} (hq : Quiet s) (aw : Awake s)
    (idle : (s.press p).state = .idle false n) (change : (s.pressRec p).pool ≠ pool)
    (undue : (s.settingsStored p pool c f).idleExpired p = false)
    (uncalibrated : (PressRec.set pool c f (s.pressRec p)).due = false)
    (cover : (s.press p).cover ≠ some true) (credits : (s.press p).credits = 0)
    (best : (s.settingsStored p pool c f).bestCandidate p = some e) (live : s.job e = some j) (sheet : SheetReady s p e j)
    (unbound : ∀ d i, s.job d = some i → i.state.bound ≠ some p) :
    (s.setPress p pool c f).settle = (s.settingsStored p pool c f).boundTo p e j := by
  have is_idle : ((s.settingsStored p pool c f).press p).state.isIdle = true := by simp [idle, PressState.isIdle]
  have ready : SheetReady (s.settingsStored p pool c f) p e j := by
    obtain ⟨k, i, sh, commit, cursor, at_cursor, loaded, complete⟩ := sheet
    refine ⟨k, i, sh, commit, cursor, at_cursor, ?_, complete⟩
    rw [← loaded]
    simp [State.loaded]
  have binds : (s.settingsStored p pool c f).decidePress p = (s.settingsStored p pool c f).bind p e := by
    simp only [State.decidePress, is_idle, if_true, best, State.pressRec_settingsStored, uncalibrated, Bool.false_eq_true,
      if_false]
  have bound := Settles.bound (s := s.settingsStored p pool c f) hq aw live is_idle cover credits unbound ready
  rw [State.setPress_newPool change, State.holdPool_unbound (State.boundJob_eq_none_iff.mpr unbound),
    State.settingsApplied_idle_undue (s := s) is_idle undue (.inl (by simp [idle])), State.poolChanged_idle is_idle]
  refine (Settles.decision_awake (k := 3) (s := s.settingsStored p pool c f) hq aw rfl ?_).settle (by decide)
  show Settles 3 ((s.settingsStored p pool c f).decidePress p) _
  rw [binds]
  exact bound

/-! ### The timers of an IDLE press (R109, R110) -/

section Idle

variable {n : Nat} (hq : Quiet s) (work : NoWork s)
include hq work

theorem State.setPress_idle_undue (idle : (s.press p).state.isIdle = true)
    (undue : (s.settingsStored p pool c f).idleExpired p = false)
    (early : (∀ n, (s.press p).state ≠ .idle true n) ∨ (s.settingsStored p pool c f).sleepPointPassed p = false) :
    (s.setPress p pool c f).settle = s.settingsStored p pool c f :=
  State.setPress_noWork work hq work.settingsStored (.inl (State.settingsApplied_idle_undue idle undue early))

theorem State.setPress_sleepPending (idle : (s.press p).state = .idle false n)
    (due : (s.settingsStored p pool c f).idleExpired p = true)
    (early : (s.settingsStored p pool c f).sleepPointPassed p = false) :
    (s.setPress p pool c f).settle = (s.settingsStored p pool c f).sleepPending p := by
  refine State.setPress_noWork work hq ?_ (.inl ?_)
  · exact (noWork_mark ..).mpr (work.settingsStored.modPress p (by simp))
  · rw [State.settingsApplied_idle (by simp [idle, PressState.isIdle])]
    exact State.expireIdle_trySleep_early idle due early

theorem State.setPress_sentToSleep
    (sleepy : (s.press p).state = .idle true n ∨
      (s.press p).state = .idle false n ∧ (s.settingsStored p pool c f).idleExpired p = true)
    (reached : (s.settingsStored p pool c f).sleepPointPassed p = true) (queue : (s.press p).txq = [])
    (line : (s.press p).line = none) :
    (s.setPress p pool c f).settle = (s.settingsStored p pool c f).sentToSleep p := by
  refine State.setPress_noWork work hq ?_ (.inr ?_)
  · exact (noWork_mark ..).mpr (work.settingsStored.modPress p (by simp))
  · rw [State.settingsApplied_idle (by rcases sleepy with idle | ⟨idle, -⟩ <;> simp [idle, PressState.isIdle])]
    exact State.expireIdle_trySleep_reached sleepy reached queue line

end Idle

/-! ### A press that waits for a wake (R78, R79, R105, R106) -/

/-- The queue move of a press that waits by request of the host (R105, R106). -/
theorem State.settingsApplied_moved {t : State} {o : WakeOrigin} (waits : (s.press p).state = .wakeWait o)
    (other : (s.pressRec p).circuit ≠ c) (behind : NoGrantBehind s (s.pressRec p).circuit p)
    (moved : ((s.settingsStored p pool c f).unqueued (s.pressRec p).circuit p).joinQueue c p = t)
    (busy : (t.press p).state.isIdle = false) : s.settingsApplied p pool c f = t := by
  rw [State.settingsApplied, State.moveQueue_waiting (s := s.settingsStored p pool c f) other waits,
    State.leaveQueue_noGrant (s := s.settingsStored p pool c f) behind, moved, State.expireIdle_trySleep_other busy]

section Waits

variable (hq : Quiet s) (work : NoWork s) (waits : (s.press p).state = .wakeWait .host)
include hq work waits

theorem State.setPress_sameCircuit (stays : (s.pressRec p).circuit = c) :
    (s.setPress p pool c f).settle = s.settingsStored p pool c f :=
  State.setPress_noWork work hq work.settingsStored
    (.inl (State.settingsApplied_other (by simp [waits, PressState.isIdle]) (.inl stays)))

variable (other : (s.pressRec p).circuit ≠ c) (behind : NoGrantBehind s (s.pressRec p).circuit p)
include other behind

/-- A press moved to a circuit's queue in which others wait, or whose limits allow no wake, waits there (R105, R106). -/
theorem State.setPress_joins
    (closed : (s.circuit c).queue ≠ [] ∨ ¬ GrantOpen (s.settings c) (s.circuit c).ring s.time) :
    (s.setPress p pool c f).settle =
      ((s.settingsStored p pool c f).unqueued (s.pressRec p).circuit p).queuedLast c p := by
  refine State.setPress_noWork work hq ⟨work.free, work.nobody⟩ (.inl ?_)
  refine State.settingsApplied_moved waits other behind (State.joinQueue_waits ?_) ?_
  · rw [State.circuit_unqueued_other other]
    exact closed
  · show (s.press p).state.isIdle = false
    simp [waits, PressState.isIdle]

/-- A press moved to an empty queue whose limits allow a wake is granted it (R105, R106). -/
theorem State.setPress_granted (empty : (s.circuit c).queue = [])
    (opens : GrantOpen (s.settings c) (s.circuit c).ring s.time) (queue : (s.press p).txq = [])
    (line : (s.press p).line = none) :
    (s.setPress p pool c f).settle =
      (((s.settingsStored p pool c f).unqueued (s.pressRec p).circuit p).queuedLast c p).wakeGranted c p := by
  have joined : NoWork (((s.settingsStored p pool c f).unqueued (s.pressRec p).circuit p).queuedLast c p) :=
    ⟨work.free, work.nobody⟩
  refine State.setPress_noWork work hq joined.wakeGranted (.inr ?_)
  refine State.settingsApplied_moved waits other behind (State.joinQueue_granted ?_ ?_ ⟨waits, queue, line⟩) ?_
  · rw [State.circuit_unqueued_other other]
    exact empty
  · rw [State.circuit_unqueued_other other]
    exact opens
  · simp [State.wakeGranted, PressState.isIdle]

end Waits

/-- One press alone waits on demand and no job is live: a change of its pool withdraws it (R78, R79). -/
theorem State.setPress_withdraws (hq : Quiet s) (free : ∀ e, s.job e = none)
    (only : ∀ q, (s.press q).state = .wakeWait .demand ↔ q = p) (stays : (s.pressRec p).circuit = c)
    (change : (s.pressRec p).pool ≠ pool) (behind : NoGrantBehind s c p)
    (others : ∀ k, k ≠ c → (s.circuit k).queue.contains p = false) :
    (s.setPress p pool c f).settle = (s.settingsStored p pool c f).withdrawnFrom c p := by
  have busy : (s.press p).state.isIdle = false := by simp [(only p).mpr rfl, PressState.isIdle]
  rw [State.setPress_newPool change, State.holdPool_unbound (State.boundJob_noJobs free p),
    State.settingsApplied_other busy (.inl stays), State.poolChanged_other (by simpa using busy)]
  exact (Settles.withdrawn (s := s.settingsStored p pool c f) hq free only behind others).settle (by decide)

end Outcomes

/-- Settles O31: what is answered once, for whatever state the request settles to; then that state, by the press's. -/
theorem pressSettingsStored : Obligations.PressSettingsStored := by
  intro s tag p pool c f free steady pool_byte circuit_byte
  have named : poolOf f.pool = some pool := pool_byte ▸ poolOf_poolByte pool
  have circuit : circuitOf f.circuit = some c := by
    rw [← circuitOf_val c]
    exact congrArg circuitOf (BitVec.eq_of_toNat_eq (by simp [circuit_byte]; omega))
  refine ⟨fun use change => ?_, ?_⟩
  · have in_use : (s.press p).state.inUse = true := by
      rcases use with jammed | ⟨m, busy⟩ | ⟨r, t, calibrating⟩ <;> simp [PressState.inUse, *]
    exact exec_pressSet_inUse free steady named circuit in_use change tag
  intro n short r takes stored
  have hq := free.quiet
  have set : PressRec.set pool c f (s.pressRec p) = r := PressRec.set_eq pool c f (s.pressRec p)
  have store : s.settingsStored p pool c f = stored := State.modRec_congr set
  have record : stored.pressRec p = r := State.pressRec_modRec_self ..
  have taken (left : State → State) (settled : (s.setPress p pool c f).settle = left (s.settingsStored p pool c f))
      (kept : (left stored).pressRec p = r)
      (allowed : (s.press p).state.inUse = true → (s.pressRec p).pool = pool ∧ (s.pressRec p).circuit = c) :
      takes (left stored) := by
    have answer := exec_pressSet free steady named circuit allowed settled tag
    rwa [store, kept] at answer
  refine ⟨fun busy stays calm allowed => taken id (State.setPress_other hq busy stays calm) record allowed,
    fun cause e j still halted bound change => ?_,
    fun unbound => State.poolInForce_unbound (State.boundJob_eq_none_iff.mpr unbound),
    fun pending n since idle awake => ?_, ?_⟩
  · intro t
    have bound' : t.boundJob p = some e := bound.boundJob
    exact ⟨taken _ (State.setPress_held hq still halted bound.boundJob change) record (by simp [halted, PressState.inUse]),
      State.poolInForce_held (by simp [t]) bound'⟩
  · intro due reached
    have is_idle : (s.press p).state.isIdle = true := by simp [idle, PressState.isIdle]
    have unused : (s.press p).state.inUse = true → (s.pressRec p).pool = pool ∧ (s.pressRec p).circuit = c := by
      simp [idle, PressState.inUse]
    have expired : (s.settingsStored p pool c f).idleExpired p = true ↔ due := by
      simp [store, State.idleExpired_iff, record, stored, idle, due, and_assoc]
    have passed : (s.settingsStored p pool c f).sleepPointPassed p = true ↔ reached := by
      rw [store, State.sleepPointPassed_iff (s := stored) awake, record]
      exact Iff.rfl
    have undue (h : ¬ due) : (s.settingsStored p pool c f).idleExpired p = false := by simpa [← expired] using h
    have early (h : ¬ reached) : (s.settingsStored p pool c f).sleepPointPassed p = false := by simpa [← passed] using h
    refine ⟨fun work => ⟨fun awaits h => ?_, fun sleepy h => ?_, fun h ahead => ?_, fun sleepy h queue line => ?_⟩,
      fun e j change aw h short_due long_due cover credits best live sheet unbound => ?_⟩
    · exact taken id (State.setPress_idle_undue hq work is_idle (undue h) (.inl (by simp [idle, awaits]))) record unused
    · exact taken id (State.setPress_idle_undue hq work is_idle (undue (by simp [due, sleepy])) (.inr (early h))) record
        unused
    · exact taken (State.sleepPending p) (State.setPress_sleepPending hq work (h.1 ▸ idle) (expired.mpr h) (early ahead))
        record unused
    · have due_or_pending : (s.press p).state = .idle true n ∨
          (s.press p).state = .idle false n ∧ (s.settingsStored p pool c f).idleExpired p = true :=
        Or.imp (fun is_pending : pending = true => is_pending ▸ idle) (fun h : due => ⟨h.1 ▸ idle, expired.mpr h⟩) sleepy
      exact taken (State.sentToSleep p) (State.setPress_sentToSleep hq work due_or_pending (passed.mpr h) queue line) record
        unused
    · have unsleepy : pending = false := by
        cases pending with
        | false => rfl
        | true => exact absurd idle ((aw p).2.2 n)
      have uncalibrated : (PressRec.set pool c f (s.pressRec p)).due = false := by
        rw [set, PressRec.due, short_due, long_due]
        rfl
      exact taken (State.boundTo p e j) (State.setPress_binds hq aw (unsleepy ▸ idle) change (undue h) uncalibrated cover
        credits (store ▸ best) live sheet.sheet unbound) record unused
  · intro was gone opens quiet
    have unused {o : WakeOrigin} (waits : (s.press p).state = .wakeWait o) :
        (s.press p).state.inUse = true → (s.pressRec p).pool = pool ∧ (s.pressRec p).circuit = c := by
      simp [waits, PressState.inUse]
    refine ⟨fun work waits => ⟨fun stays => ?_, fun other behind => ⟨fun closed => ?_, fun empty opens queue line => ?_⟩⟩,
      fun nobody only stays change behind others => ?_⟩
    · exact taken id (State.setPress_sameCircuit hq work waits stays) record (unused waits)
    · exact taken (fun t => (t.unqueued was p).queuedLast c p) (State.setPress_joins hq work waits other behind closed) record
        (unused waits)
    · exact taken (fun t => ((t.unqueued was p).queuedLast c p).wakeGranted c p)
        (State.setPress_granted hq work waits other behind empty opens queue line) record (unused waits)
    · exact taken (State.withdrawnFrom c p) (State.setPress_withdraws hq nobody only stays change behind others) record
        (unused ((only p).mpr rfl))

end Sys2Proof.Machine
end

section
/-! SUPPORT. The bytes of press frames read back (spec/12.1, 12.6): fields and codes, the trays of HELLO, and the frame that
the kind and body of a frame spell. -/

namespace Sys2Proof.Machine

/-! ## Bytes and codes -/

/-- Bytes are spelt again by the number they spell. -/
theorem le_ofLe (b : List Byte) : le b.length (ofLe b) = b := by
  induction b with
  | nil => rfl
  | cons x b ih =>
    have low : BitVec.ofNat 8 (x.toNat + 256 * ofLe b) = x := BitVec.eq_of_toNat_eq (by have := x.isLt; simp; omega)
    have high : (x.toNat + 256 * ofLe b) / 256 = ofLe b := by have := x.isLt; omega
    rw [ofLe, List.length_cons, le, low, high, ih]

/-- A word of 16 bits is a number that two bytes can spell. -/
theorem word_mod (w : BitVec 16) : w.toNat % 256 ^ 2 = w.toNat := Nat.mod_eq_of_lt w.isLt

/-- A sequence number is read back from its two bytes. -/
theorem seqAt_le (q : Seq) : BitVec.ofNat 16 (fieldAt (le 2 q.toNat) 0 2) = q := by
  rw [fieldAt_alone, word_mod, BitVec.ofNat_toNat, BitVec.setWidth_eq]

/-- The byte at an offset behind a stretch of a body. -/
theorem byteAt_append (a b : List Byte) (i : Nat) : byteAt (a ++ b) (a.length + i) = byteAt b i := by
  simp [byteAt, List.getElem?_append_right]

/-- A yes or no field is read back from its code (R181). -/
theorem coded_yesNo (b : Bool) (f : Bool → PressIn) : coded (BitVec.ofNat 8 b.toNat) f = f b := by cases b <;> rfl

/-! ## The trays of HELLO -/

theorem trayBytes_eq (t : Tray) : trayBytes t = [BitVec.ofNat 8 t.media, BitVec.ofNat 8 t.loaded.toNat] := rfl

theorem length_trays (trays : List Tray) : (trays.map trayBytes).flatten.length = 2 * trays.length := by
  induction trays with
  | nil => rfl
  | cons t trays ih =>
    simp only [List.map_cons, List.flatten_cons, List.length_append, ih, trayBytes_eq, List.length_cons, List.length_nil]
    omega

/-- The trays of a HELLO body are read back from behind what comes before them. -/
theorem traysAt_trayBytes (trays : List Tray) : ∀ front back : List Byte, (∀ t ∈ trays, t.media < 256) →
    traysAt (front ++ ((trays.map trayBytes).flatten ++ back)) front.length trays.length = some trays := by
  induction trays with
  | nil => exact fun _ _ _ => rfl
  | cons t trays ih =>
    intro front back media
    obtain ⟨fits, rest⟩ := List.forall_mem_cons.mp media
    have cls : byteAt (front ++ (((t :: trays).map trayBytes).flatten ++ back)) front.length = BitVec.ofNat 8 t.media := by
      exact byteAt_append front _ 0
    have state : byteAt (front ++ (((t :: trays).map trayBytes).flatten ++ back)) (front.length + 1) =
        BitVec.ofNat 8 t.loaded.toNat := byteAt_append front _ 1
    have behind : traysAt (front ++ (((t :: trays).map trayBytes).flatten ++ back)) (front.length + 2) trays.length =
        some trays := by
      simpa [trayBytes_eq] using ih (front ++ trayBytes t) back rest
    have number : (BitVec.ofNat 8 t.media).toNat = t.media := by simp; omega
    rw [List.length_cons, traysAt, cls, state, behind, number]
    obtain ⟨m, l⟩ := t
    cases l <;> rfl

/-! ## The frame that a kind and body spell (spec/12.6) -/

/-- A frame whose fields its layout can carry. -/
def pressFits : PressIn → Bool
  | .hello _ _ depth trays _ => helloFits depth trays
  | _ => true

theorem helloFits_iff {depth : Nat} {trays : List Tray} : helloFits depth trays = true ↔
    depth < 256 ∧ 5 + 2 * trays.length ≤ 300 ∧ ∀ t ∈ trays, t.media < 256 := by
  simp [helloFits, and_assoc]

/-- The frame of a well-formed command is one that its layout can carry. -/
theorem pressRow_fits {c : Instr} {p : PressNo} {f : PressIn} (wf : c.wf = true) (row : pressRow c = some (p, f)) :
    pressFits f = true := by
  cases c <;> cases row <;> exact wf

/-- The body of HELLO: four bytes, the trays, and a last byte. -/
theorem helloBody_eq (d c : Bool) (depth : Nat) (trays : List Tray) (a : Bool) :
    (pressMsg (.hello d c depth trays a)).2 =
      [BitVec.ofNat 8 d.toNat, BitVec.ofNat 8 c.toNat, BitVec.ofNat 8 depth, BitVec.ofNat 8 trays.length] ++
        ((trays.map trayBytes).flatten ++ [BitVec.ofNat 8 a.toNat]) := by
  simp [pressMsg, yesNo, counted, le_one]

/-- HELLO is read back from its body. -/
theorem helloOf_body {depth : Nat} {trays : List Tray} (fits : helloFits depth trays = true) (d c a : Bool) :
    helloOf (pressMsg (.hello d c depth trays a)).2 = .hello d c depth trays a := by
  obtain ⟨small, short, media⟩ := helloFits_iff.mp fits
  rw [helloBody_eq]
  generalize hhead : [BitVec.ofNat 8 d.toNat, BitVec.ofNat 8 c.toNat, BitVec.ofNat 8 depth, BitVec.ofNat 8 trays.length] = front
  have four : front.length = 4 := by rw [← hhead]; rfl
  generalize hbody : front ++ ((trays.map trayBytes).flatten ++ [BitVec.ofNat 8 a.toNat]) = b
  have length : b.length = 5 + 2 * trays.length := by
    rw [← hbody, List.length_append, List.length_append, length_trays, four, List.length_singleton]
    omega
  have count : (byteAt b 3).toNat = trays.length := by
    rw [← hbody, ← hhead]
    simp [byteAt]
    omega
  have path : (byteAt b 2).toNat = depth := by
    rw [← hbody, ← hhead]
    simp [byteAt]
    omega
  have last : byteAt b (4 + 2 * trays.length) = BitVec.ofNat 8 a.toNat := by
    rw [← hbody, ← four, ← length_trays, byteAt_append]
    exact byteAt_append _ _ 0
  have read : traysAt b 4 trays.length = some trays := by
    rw [← hbody, ← four]
    exact traysAt_trayBytes trays front _ media
  have first : byteAt b 0 = BitVec.ofNat 8 d.toNat := by rw [← hbody, ← hhead]; rfl
  have second : byteAt b 1 = BitVec.ofNat 8 c.toNat := by rw [← hbody, ← hhead]; rfl
  simp only [helloOf, count, length, read, path, last, first, second, coded_yesNo]
  simp; omega

/-- Every frame is read back from its kind and body (spec/12.2, 12.6). -/
theorem pressIn_pressMsg {f : PressIn} (fits : pressFits f = true) : pressIn (pressMsg f).1 (pressMsg f).2 = f := by
  cases f with
  | hello d c depth trays a => exact helloOf_body fits d c a
  | picked q => exact congrArg PressIn.picked (seqAt_le q)
  | delivered q => exact congrArg PressIn.delivered (seqAt_le q)
  | beat o => cases o <;> rfl
  | tray i m l => cases l <;> rfl
  | cover o => cases o <;> rfl
  | caldone pass => cases pass <;> rfl
  | credit | jam | clear | ready | asleep | junk => rfl

/-- No frame is longer than a receiver takes (R80). -/
theorem length_pressMsg {f : PressIn} (fits : pressFits f = true) : (pressMsg f).2.length ≤ 300 := by
  cases f with
  | hello d c depth trays a =>
    obtain ⟨-, short, -⟩ := helloFits_iff.mp fits
    rw [helloBody_eq]
    simp only [List.length_append, length_trays, List.length_cons, List.length_nil]
    omega
  | _ => simp [pressMsg, yesNo]

end Sys2Proof.Machine
end

section
/-! SUPPORT. What comes to a running part through a press's receiver (R80, R82): whole frames, frames discarded and frames
begun. -/

namespace Sys2Proof.Machine

variable {s : State} {p : PressNo}

/-- What a part that runs does is a matter of the state it comes to. -/
theorem whenRunning_congr {f g : State → State} (h : f s = g s) : whenRunning f s = whenRunning g s := by
  unfold whenRunning
  rw [h]

/-- Bytes on a press's link are fed to its receiver (R80). -/
theorem exec_pressBytes (bytes : List Byte) :
    exec (.pressFrameDiscarded p bytes false) s = whenRunning (State.feedPressBytes p bytes) s := rfl

/-- A framing error discards what the bytes before it have begun (R80). -/
theorem exec_pressBytes_error (bytes : List Byte) : exec (.pressFrameDiscarded p bytes true) s =
    whenRunning (fun s => (s.feedPressBytes p bytes).dropPressFrame p) s := rfl

/-- The bytes of a whole frame are the frame received (R80). -/
theorem State.feedPressBytes_pressFrame (hunting : (s.press p).rx = none) {kind : Byte} {body : List Byte}
    (short : body.length ≤ 300) : s.feedPressBytes p (pressFrame kind body) = s.takeFrame p (pressIn kind body) := by
  have frame := State.feedPressBytes_frame hunting kind body
    (le 2 (crc16 (le 2 body.length ++ [kind] ++ body)).toNat) short (length_le 2 _)
  rwa [ofLe_le, word_mod, if_pos rfl] at frame

/-- A byte that begins no frame is passed over (R80). -/
theorem State.feedPressBytes_notStart (hunting : (s.press p).rx = none) {b : Byte} (other : b ≠ 0x5A) :
    s.feedPressBytes p [b] = s := by
  rw [State.feedPressBytes_cons, State.feedPress_hunting hunting, if_neg other, State.feedPressBytes_nil]

/-- A frame whose check does not match is discarded (R80). -/
theorem State.feedPressBytes_badCheck (hunting : (s.press p).rx = none) {kind : Byte} {body check : List Byte}
    (short : body.length ≤ 300) (two : check.length = 2)
    (bad : check ≠ le 2 (crc16 (le 2 body.length ++ [kind] ++ body)).toNat) :
    s.feedPressBytes p (0x5A :: (le 2 body.length ++ [kind] ++ body) ++ check) = s := by
  have mismatch : ofLe check ≠ (crc16 (le 2 body.length ++ [kind] ++ body)).toNat := fun same => bad (by
    rw [← same, ← two, le_ofLe])
  rw [State.feedPressBytes_frame hunting kind body check short two, if_neg mismatch]

/-- A frame begun is kept byte for byte behind its start byte (R80). -/
theorem State.feedPressBytes_begun (hunting : (s.press p).rx = none) {kind : Byte} {body : List Byte}
    (short : body.length ≤ 300) {n : Nat} (some_byte : 0 < n) (cut : n < (pressFrame kind body).length) :
    s.feedPressBytes p ((pressFrame kind body).take n) =
      s.modPress p fun x => { x with rx := some (((pressFrame kind body).take n).drop 1) } := by
  obtain ⟨m, rfl⟩ : ∃ m, n = m + 1 := ⟨n - 1, by omega⟩
  obtain ⟨tail, frame, length⟩ : ∃ tail, pressFrame kind body = 0x5A :: (le 2 body.length ++ tail) ∧
      tail.length = body.length + 3 :=
    ⟨[kind] ++ body ++ le 2 (crc16 (le 2 body.length ++ [kind] ++ body)).toNat, by simp [pressFrame], by simp⟩
  rw [frame] at cut ⊢
  rw [List.take_succ_cons, List.drop_succ_cons, List.drop_zero]
  match m with
  | 0 => rw [List.take_zero, State.feedPressBytes_cons, State.feedPress_hunting hunting, if_pos rfl, State.feedPressBytes_nil]
  | 1 =>
    rw [le_two, List.cons_append, List.take_succ_cons, List.take_zero, State.feedPressBytes_cons,
      State.feedPress_hunting hunting, if_pos rfl, State.feedPressBytes_cons,
      State.feedPress_within (g := []) (by simp), if_neg (by simp), if_neg (by simp; omega), State.modPress_twice,
      State.feedPressBytes_nil]
    rfl
  | m + 2 =>
    have known : fieldAt (le 2 body.length) 0 2 = body.length := by rw [fieldAt_alone]; omega
    have shown : (le 2 body.length ++ tail).take (m + 2) = le 2 body.length ++ tail.take m := by
      simp [List.take_append]
    rw [shown, ← List.cons_append, State.feedPressBytes_append, State.feedPressBytes_begin hunting short,
      State.feedPressBytes_within _ _ (by simp) ?_]
    simp only [List.length_cons, List.length_append, length_le] at cut
    simp only [known, List.length_append, length_le, List.length_take]
    omega

end Sys2Proof.Machine
end

section
/-! PROOF. The bytes of press frames, both ways (O10). -/

namespace Sys2Proof.Machine

/-- The kind and body of each frame from the part (spec/12.2, 12.6). -/
theorem PFrame.bytes_eq (f : PFrame) : f.bytes =
    [0x5A] ++ (le 2 f.msg.2.length ++ [f.msg.1] ++ f.msg.2) ++ le 2 (crc16 (le 2 f.msg.2.length ++ [f.msg.1] ++ f.msg.2)).toNat :=
  rfl

/-- Settles O10: a frame is read back from its kind and body, so its bytes, received whole, are the frame. -/
theorem frameSpellsPressRow : Obligations.FrameSpellsPressRow := by
  refine ⟨fun c p f s wf row => ?_, fun f kind body h => ?_⟩
  · have fits := pressRow_fits wf row
    have read := pressIn_pressMsg fits
    rw [exec_pressRow row, exec_pressBytes]
    refine ⟨fun hunting => whenRunning_congr ?_, whenRunning_congr (congrArg (State.takeFrame p · s) read)⟩
    exact (State.feedPressBytes_pressFrame hunting (length_pressMsg fits)).trans (congrArg (State.takeFrame p · s) read)
  · have msg : (kind, body) = f.msg := by
      rw [h]
      cases f with
      | calibrate long count => cases long <;> rfl
      | _ => rfl
    obtain ⟨rfl, rfl⟩ := Prod.mk.inj msg
    refine ⟨f.bytes_eq, ?_⟩
    rintro q side bytes rfl full
    simp only [List.length_append, length_le]
    omega

end Sys2Proof.Machine
end

section
/-! PROOF. The press frames and the timers leave the outer part of the state alone (O41). -/

namespace Sys2Proof.Machine

/-! ## The timers, inside the part -/

namespace Local

variable {P : State → Prop} (h : Local P) {s : State} {p : PressNo} {e : Entry}
include h

theorem endSignal (hs : P s) : P (s.endSignal p) := Local.choose (h.press _ _ _ hs) hs

theorem endWindow (hs : P s) : P (s.endWindow p) := by
  have ended : P (((s.modPress p fun x => { x with restart := none }).mark (.press p)).wantDemand) :=
    h.wantDemand (h.report _ _ (h.press _ _ _ hs))
  exact Local.choose (h.settle (Local.choose ended (h.raise _ _ _ _ (by decide) ended))) hs

theorem failWake (hs : P s) : P (s.failWake p) :=
  Local.choose (h.settle (h.raise _ _ _ _ (by decide) (h.enter _ hs))) hs

theorem failCalibration (hs : P s) : P (s.failCalibration p) := Local.choose (h.settle (h.failRun hs)) hs

theorem starveOut (hs : P s) : P (s.starveOut e) := by
  unfold State.starveOut
  split
  · exact h.settle (h.startDrain _ hs)
  · exact hs

end Local

@[simp] theorem State.outer_escalate (s : State) (n : AlertNo) : (s.escalate n).outer = s.outer := by
  unfold State.escalate
  split
  · split <;> rfl
  · rfl

/-! ## The commands of the timers whose work is settled after them -/

section Timers

variable (s : State) (p : PressNo) (c : CircuitNo)

theorem exec_idleTimerExpiry : exec (.idleTimerExpiry p) s = whenRunning (fun s => (s.expireIdle p).settle) s := rfl

theorem exec_sleepPointReached : exec (.sleepPointReached p) s = whenRunning (fun s => (s.trySleep p).settle) s := rfl

theorem exec_nextGrantTime : exec (.nextGrantTime c) s = whenRunning (fun s => (s.grantCheck c).settle) s := rfl

end Timers

/-- A command of a running part that leaves the outer part alone completes and leaves it alone. -/
theorem whenRunning_outer {f : State → State} {s : State} (h : (f s).outer = s.outer) :
    ∃ t, whenRunning f s = .next t ∧ t.outer = s.outer :=
  ⟨_, rfl, Local.choose (P := fun t => t.outer = s.outer) h rfl⟩

/-- Settles O41: each frame and each timer is made of small changes inside the part. -/
theorem pressSideFrame : Obligations.PressSideFrame := by
  intro s c _ command
  have inside := outer_local s.outer
  rcases command with ⟨p, f, row⟩ | ⟨p, bytes, err, rfl⟩ | ⟨p, kind, body, rfl⟩ | ⟨p, rfl⟩ |
    ⟨p, rfl | rfl | rfl | rfl | rfl | rfl | rfl⟩ | ⟨e, rfl⟩ | ⟨k, rfl⟩ | ⟨n, rfl⟩
  · rw [exec_pressRow row]
    exact whenRunning_outer (s.outer_takeFrame p f)
  · have fed : (s.feedPressBytes p bytes).outer = s.outer := inside.feedPressBytes bytes rfl
    cases err
    · rw [exec_pressBytes]
      exact whenRunning_outer fed
    · rw [exec_pressBytes_error]
      exact whenRunning_outer fed
  · exact whenRunning_outer (s.outer_takeFrame p _)
  · exact whenRunning_outer (s.outer_frameDone p)
  · exact whenRunning_outer (Local.choose (P := fun t => t.outer = s.outer) (inside.settle (inside.linkDown _ rfl)) rfl)
  · exact whenRunning_outer (inside.endSignal rfl)
  · exact whenRunning_outer (inside.endWindow rfl)
  · exact whenRunning_outer (inside.failWake rfl)
  · exact whenRunning_outer (inside.failCalibration rfl)
  · rw [exec_idleTimerExpiry]
    exact whenRunning_outer (inside.settle (inside.expireIdle rfl))
  · rw [exec_sleepPointReached]
    exact whenRunning_outer (inside.settle (inside.trySleep rfl))
  · exact whenRunning_outer (inside.starveOut rfl)
  · rw [exec_nextGrantTime]
    exact whenRunning_outer (inside.settle (inside.grantCheck k rfl))
  · exact whenRunning_outer (s.outer_escalate n)

end Sys2Proof.Machine
end

section
/-! SUPPORT. Press frames without an action (R82), and timers that are not due (log entry 3): nothing of the state changes. -/

namespace Sys2Proof.Machine

/-! ## What gives a frame no action (R82) -/

section Unacted

variable {s : State} {p : PressNo}

theorem State.onCover_same {o : Bool} (same : (s.press p).cover = some o) : s.onCover p o = s := by
  rw [State.onCover, if_pos same]

theorem State.onJam_other (not_busy : ∀ m, (s.press p).state ≠ .busy m) (not_jammed : (s.press p).state ≠ .jammed)
    (not_cal : ∀ r t, (s.press p).state ≠ .calibrating r t) (l : Nat) : s.onJam p l = s := by
  unfold State.onJam
  dsimp only
  split
  · exact absurd ‹_› (not_busy _)
  · exact absurd ‹_› (not_cal _ _)
  · exact absurd ‹_› not_jammed
  · rfl

theorem State.onClear_other (not_jammed : (s.press p).state ≠ .jammed) : s.onClear p = s := by
  unfold State.onClear
  split
  · exact absurd ‹_› not_jammed
  · rfl

/-- A tray that the capabilities held do not list, or of no media class, is not taken (R85). -/
theorem State.onTray_other {i : Nat} {t : Tray}
    (h : ((s.pressRec p).caps.all fun c => decide (c.trays.length ≤ i)) = true ∨ 15 < t.media) : s.onTray p i t = s := by
  unfold State.onTray
  split
  · rfl
  · rename_i c learned
    have refused : ¬ (decide (i < c.trays.length) && decide (t.media ≤ 15)) = true := by
      simp only [learned, Option.all_some, decide_eq_true_eq] at h
      simp only [Bool.and_eq_true, decide_eq_true_eq]
      omega
    rw [if_neg refused]

theorem State.onReady_other (not_waking : ∀ t, (s.press p).state ≠ .waking t) : s.onReady p = s := by
  unfold State.onReady
  split
  · exact absurd ‹_› (not_waking _)
  · rfl

theorem State.onAsleep_other (not_sleeping : (s.press p).state ≠ .sleeping) (not_idle : (s.press p).state.isIdle = false) :
    s.onAsleep p = s := by
  unfold State.onAsleep
  split
  · exact absurd ‹_› not_sleeping
  · rename_i idle
    simp [idle, PressState.isIdle] at not_idle
  · rfl

theorem State.onCaldone_other (not_cal : ∀ r t, (s.press p).state ≠ .calibrating r t) (b : Bool) : s.onCaldone p b = s := by
  unfold State.onCaldone
  split
  · exact absurd ‹_› (not_cal _ _)
  · rfl

theorem helloInRange_iff {depth : Nat} {trays : List Tray} : helloInRange depth trays = true ↔
    1 ≤ depth ∧ depth ≤ 8 ∧ 1 ≤ trays.length ∧ trays.length ≤ 6 ∧ ∀ t ∈ trays, t.media ≤ 15 := by
  simp [helloInRange, and_assoc]

/-- HELLO with a field out of its range has no action (R82). -/
theorem State.onHello_other {c : Caps} {a : Bool} (h : c.depth < 1 ∨ 8 < c.depth ∨ c.trays = [] ∨ 6 < c.trays.length ∨
    ∃ t ∈ c.trays, 15 < t.media) : s.onHello p c a = s := by
  have outside : ¬ helloInRange c.depth c.trays = true := by
    rw [helloInRange_iff]
    rintro ⟨low, high, first, last, media⟩
    rcases h with h | h | h | h | ⟨t, ht, h⟩
    · omega
    · omega
    · simp [h] at first
    · omega
    · exact absurd (media t ht) (by omega)
  rw [State.onHello, if_neg outside]

/-- A frame without an action on a linked press is heard, and no more (R82, R88). -/
theorem State.takeFrame_unacted {f : PressIn} (linked : Linked s p) (act : (s.heard p).frameAct p f = s.heard p) :
    s.takeFrame p f = s.heard p := by
  unfold State.takeFrame
  rw [linked.noSignal, if_neg (by simp), if_neg linked.up, act, State.settle_quiet (quiet_heard.mpr linked.quiet)]

theorem exec_unacted {c : Instr} {f : PressIn} (linked : Linked s p) (row : pressRow c = some (p, f))
    (act : (s.heard p).frameAct p f = s.heard p) : exec c s = .next (s.heard p) := by
  rw [exec_pressRow row, whenRunning, if_pos linked.running, State.takeFrame_unacted linked act]

/-- A press whose line the restart signal holds takes no frame (R90). -/
theorem State.takeFrame_held (held : (s.press p).held = true) (f : PressIn) : s.takeFrame p f = s := by
  unfold State.takeFrame
  rw [if_pos held]

/-- A DOWN press takes no frame but HELLO (R82). -/
theorem State.takeFrame_down (down : (s.press p).state = .down) {f : PressIn}
    (other : ∀ d c depth trays a, f ≠ .hello d c depth trays a) : s.takeFrame p f = s := by
  unfold State.takeFrame
  rw [if_pos down]
  split
  · rfl
  · split
    · exact absurd rfl (other _ _ _ _ _)
    · rfl

end Unacted

/-! ## Timers that are not due -/

section Undue

variable {s : State} {p : PressNo} {e : Entry} {c : CircuitNo}

theorem State.endSignal_undue (h : s.signalDue p = false) : s.endSignal p = s := by simp [State.endSignal, h]

theorem State.endWindow_undue (h : s.windowDue p = false) : s.endWindow p = s := by simp [State.endWindow, h]

theorem State.failWake_undue (h : s.wakeDue p = false) : s.failWake p = s := by simp [State.failWake, h]

theorem State.failCalibration_undue (h : s.calibrationDue p = false) : s.failCalibration p = s := by
  simp [State.failCalibration, h]

theorem State.starveOut_undue (h : s.starveDue e = none) : s.starveOut e = s := by simp [State.starveOut, h]

theorem State.trySleep_undue (h : s.sleepDue p = false) : s.trySleep p = s := by
  by_cases pending : ∃ n, (s.press p).state = .idle true n
  · obtain ⟨n, pending⟩ := pending
    exact State.trySleep_early (by simpa [State.sleepDue, pending] using h)
  · exact State.trySleep_other (not_exists.mp pending)

theorem State.grantCheck_undue (h : s.grantDue c = false) : s.grantCheck c = s := by
  by_cases queue : (s.circuit c).queue = []
  · exact State.grantLoop_empty queue 12
  · refine State.grantLoop_closed (fun tests => ?_) 12
    rw [State.grantDue_iff.mpr ⟨queue, tests⟩] at h
    cases h

end Undue

/-- A command that leaves a running part as it is does nothing. -/
theorem whenRunning_same {f : State → State} {s : State} (h : f s = s) : whenRunning f s = .next s := by
  rw [whenRunning, h, ite_self]

/-- Bytes that leave a hunting receiver hunting and do nothing else do nothing, with a framing error behind them or
without (R80). -/
theorem exec_pressBytes_same {s : State} {p : PressNo} {bytes : List Byte} (hunting : (s.press p).rx = none)
    (same : s.feedPressBytes p bytes = s) (err : Bool) : exec (.pressFrameDiscarded p bytes err) s = .next s := by
  cases err with
  | false =>
    rw [exec_pressBytes]
    exact whenRunning_same same
  | true =>
    rw [exec_pressBytes_error]
    exact whenRunning_same ((congrArg (State.dropPressFrame p) same).trans (State.dropPressFrame_hunting hunting))

end Sys2Proof.Machine
end

section
/-! PROOF. Frames and timers that do nothing (O43). -/

namespace Sys2Proof.Machine

/-- Settles O43: no action for the frame, nothing complete at the receiver, no timer due. -/
theorem unactedFramesAndTimers : Obligations.UnactedFramesAndTimers := by
  refine ⟨fun s p => ⟨?_, fun c f _ row => ?_, fun running hunting => ?_⟩, fun s _ hq => ?_⟩
  · intro linked heard st
    have state : ((s.heard p).press p).state = st := by rw [State.press_heard]
    have cover : ((s.heard p).press p).cover = (s.press p).cover := by rw [State.press_heard]
    refine ⟨fun o same => ⟨?_, ?_⟩, fun l unmoved => ?_, fun not_jammed => ?_, fun i m b outside => ?_, fun not_waking => ?_,
      fun not_sleeping not_idle => ?_, fun b not_cal => ?_, fun d c depth trays a outside => ?_, fun kind body junk => ?_⟩
    · exact exec_unacted linked (f := .beat o) rfl (State.onCover_same (cover.trans same))
    · exact exec_unacted linked (f := .cover o) rfl (State.onCover_same (cover.trans same))
    · refine exec_unacted linked (f := .jam l) rfl ?_
      rw [State.frameAct]
      rcases unmoved with far | ⟨not_busy, not_jammed, not_cal⟩
      · rw [if_neg (by omega)]
      · rw [State.onJam_other (by rwa [state]) (by rwa [state]) (by rwa [state]), ite_self]
    · exact exec_unacted linked (f := .clear) rfl (State.onClear_other (by rwa [state]))
    · exact exec_unacted linked (f := .tray i m b) rfl (State.onTray_other outside)
    · exact exec_unacted linked (f := .ready) rfl (State.onReady_other (by rwa [state]))
    · exact exec_unacted linked (f := .asleep) rfl (State.onAsleep_other (by rwa [state]) (by rwa [state]))
    · exact exec_unacted linked (f := .caldone b) rfl (State.onCaldone_other (by rwa [state]) b)
    · exact exec_unacted linked (f := .hello d c depth trays a) rfl (State.onHello_other outside)
    · show whenRunning (State.takeFrame p (pressIn kind body)) s = _
      rw [junk, whenRunning, if_pos linked.running, State.takeFrame_unacted linked rfl]
      rfl
  · rw [exec_pressRow row]
    exact ⟨fun held => whenRunning_same (State.takeFrame_held held f),
      fun down other => whenRunning_same (State.takeFrame_down down other)⟩
  · refine ⟨fun b err other => ?_, fun kind body check err short two bad => ?_, fun n err long word => ?_,
      fun kind body n short cut => ⟨?_, fun some_byte => ?_⟩⟩
    · exact exec_pressBytes_same hunting (State.feedPressBytes_notStart hunting other) err
    · exact exec_pressBytes_same hunting (State.feedPressBytes_badCheck hunting short two bad) err
    · exact exec_pressBytes_same hunting (State.feedPressBytes_long hunting long word) err
    · rw [exec_pressBytes_error]
      exact whenRunning_same (State.feedPressBytes_cut hunting kind body short cut)
    · rw [exec_pressBytes, whenRunning, if_pos running, State.feedPressBytes_begun hunting short some_byte cut]
  · have settled : s.settle = s := State.settle_quiet hq
    refine ⟨fun p undue => ?_, fun p undue => ?_, fun p undue => ?_, fun p undue => ?_, fun p undue => ?_, fun e undue => ?_,
      fun p undue => ?_, fun p undue => ?_, fun c undue => ?_, fun n undue => ?_⟩
    · exact whenRunning_same (if_neg (by simp [undue]))
    · exact whenRunning_same (State.endSignal_undue undue)
    · exact whenRunning_same (State.endWindow_undue undue)
    · exact whenRunning_same (State.failWake_undue undue)
    · exact whenRunning_same (State.failCalibration_undue undue)
    · exact whenRunning_same (State.starveOut_undue undue)
    · rw [exec_idleTimerExpiry]
      exact whenRunning_same (by rw [State.expireIdle_undue undue, settled])
    · rw [exec_sleepPointReached]
      exact whenRunning_same (by rw [State.trySleep_undue undue, settled])
    · rw [exec_nextGrantTime]
      exact whenRunning_same (by rw [State.grantCheck_undue undue, settled])
    · exact whenRunning_same (State.escalate_undue undue)

end Sys2Proof.Machine
end

section
/-! PROOF. HELLO brings the link up (O42). -/

namespace Sys2Proof.Machine

/-- A press at a link up whose line is free (R83): nothing received or sent yet, the cover CLOSED, no restart, LINKED on the
line. -/
def greeted (x : Press) : Press :=
  { x with credits := 0, seq := 0, cover := some false, heartbeat := 0, restart := none, line := some .linked }

/-- What HELLO leaves of a press whose line is free (R83): greeted, and IDLE, awake since now, or ASLEEP from now. -/
def pressLinkedUp (now : Time) (asleep : Bool) (x : Press) : Press :=
  { greeted x with
    state := if asleep then .asleep else .idle false 0
    awakeSince := if asleep then x.awakeSince else some now
    sleepStart := if asleep then some now else x.sleepStart }

/-- The capabilities of HELLO in a press's record (R83, R85). -/
def State.learn (p : PressNo) (c : Caps) (s : State) : State := s.modRec p fun r => { r with caps := some c }

/-- What a link up leaves but for what it asks to be decided (R83): the capabilities, the press with its report pending, and
LINK_DOWN ended. -/
def State.linkedUp (p : PressNo) (c : Caps) (asleep : Bool) (s : State) : State :=
  (((s.learn p c).modPress p (pressLinkedUp s.time asleep)).mark (.press p)).endCondition .linkDown (.press p)

section Up

variable {s : State} {p : PressNo} {c : Caps} {asleep : Bool}

@[simp] theorem State.learn_time : (s.learn p c).time = s.time := rfl
@[simp] theorem State.press_learn (q : PressNo) : (s.learn p c).press q = s.press q := rfl
@[simp] theorem State.learn_modPress (f : Press → Press) : (s.modPress p f).learn p c = (s.learn p c).modPress p f := rfl
@[simp] theorem State.learn_mark (r : Report) : (s.mark r).learn p c = (s.learn p c).mark r := rfl
@[simp] theorem State.learn_linkAlerts (b : Bool) : (s.linkAlerts p b).learn p c = (s.learn p c).linkAlerts p b := by
  cases b <;> simp [State.linkAlerts, State.learn]

@[simp] theorem State.linkAlerts_time (b : Bool) : (s.linkAlerts p b).time = s.time := by
  cases b <;> simp [State.linkAlerts]

@[simp] theorem State.press_linkAlerts (b : Bool) (q : PressNo) : (s.linkAlerts p b).press q = s.press q := by
  cases b <;> simp [State.linkAlerts]

theorem quiet_linkedUp : Quiet (s.linkedUp p c asleep) ↔ Quiet s := by simp [State.linkedUp, State.learn]

theorem NoWork.linkedUp (work : NoWork s) : NoWork (s.linkedUp p c asleep) := by
  refine (noWork_endCondition ..).mpr ((noWork_mark ..).mpr (NoWork.modPress ((noWork_modRec ..).mpr work) p ?_))
  cases asleep <;> simp [pressLinkedUp]

/-- A control frame is sent at once on a free line with nothing waiting (R81). -/
theorem State.give_free {f : PFrame} (line : (s.press p).line = none) (queue : (s.press p).txq = [])
    (control : f.needsCredit = false) : s.give p f = s.modPress p fun x => { x with line := some f } := by
  rw [State.give, State.pump_control (f := f) (rest := []) (by simpa using line) (by simp [queue]) control,
    State.modPress_twice]
  exact State.modPress_congr (by simp [queue])

/-- A link up by its parts: the press greeted, then IDLE or ASLEEP, then LINK_DOWN ended (R83). -/
theorem State.linkUp_greeted (line : (s.press p).line = none) (queue : (s.press p).txq = []) : s.linkUp p c asleep =
    (if asleep then ((s.learn p c).modPress p greeted).enterAsleep p
      else ((s.learn p c).modPress p fun x => { greeted x with awakeSince := some s.time }).enterIdle p).endCondition
        .linkDown (.press p) := by
  unfold State.linkUp
  dsimp only
  rw [State.give_free (by simpa using line) (by simpa using queue) rfl]
  simp only [State.modPress_twice]
  rfl

/-- A press that links up ASLEEP leaves wake demand to be evaluated (R83). -/
theorem State.linkUp_asleep (down : (s.press p).state = .down) (line : (s.press p).line = none)
    (queue : (s.press p).txq = []) : s.linkUp p c true = (s.linkedUp p c true).wantDemand := by
  rw [State.linkUp_greeted line queue, if_pos rfl, State.enterAsleep, State.enter_other (by simp [greeted, down]),
    State.putState_eq]
  simp only [State.modPress_wantDemand, State.modPress_mark, State.modPress_twice, State.endCondition_wantDemand]
  rfl

/-- A press that links up awake comes to its decision, wake demand to be evaluated first (R66, R83). -/
theorem State.linkUp_awake (down : (s.press p).state = .down) (line : (s.press p).line = none)
    (queue : (s.press p).txq = []) :
    s.linkUp p c false = ((s.linkedUp p c false).wantDemand).push (.decidePress p) := by
  rw [State.linkUp_greeted line queue, if_neg (by simp), State.enterIdle_closed (by simp [greeted]),
    State.enter_other (by simp [greeted, down]), State.putState_eq]
  simp only [State.modPress_twice, State.endCondition_push, State.endCondition_wantDemand]
  rfl

/-- Without work a link up leaves nothing to decide (R66, R76). -/
theorem State.linkUp_settled (down : (s.press p).state = .down) (line : (s.press p).line = none)
    (queue : (s.press p).txq = []) (hq : Quiet s) (work : NoWork s) :
    (s.linkUp p c asleep).settle = s.linkedUp p c asleep := by
  cases asleep with
  | true =>
    rw [State.linkUp_asleep down line queue]
    exact (Settles.demand_noWork (quiet_linkedUp.mpr hq) work.linkedUp).settle (by decide)
  | false =>
    rw [State.linkUp_awake down line queue]
    exact (Settles.decidePress_noWork (quiet_linkedUp.mpr hq) work.linkedUp p).settle (by decide)

/-- HELLO on a press that is not DOWN takes its link down and up again (R84, R89): the press's report, pending from the link
down, stays where it is, ahead of the alerts (log entry 42). -/
theorem State.linkedUp_linkDown (t : State) : ((t.mark (.press p)).linkAlerts p true).linkedUp p c asleep =
    ((((t.learn p c).modPress p (pressLinkedUp t.time asleep)).mark (.press p)).linkAlerts p true).endCondition
      .linkDown (.press p) := by
  rw [State.linkedUp, State.learn_linkAlerts, State.modPress_linkAlerts, State.learn_mark, State.modPress_mark,
    State.mark_of_pending (by simp) (State.pending_linkAlerts (by simp) (State.pending_mark_self _ _))]
  simp

end Up

/-- Settles O42: the link up settled by itself, or after the link down of a linked press. -/
theorem helloLinksUp : Obligations.HelloLinksUp := by
  intro s p c asleep running hq work free line low high first last media up learned
  have inRange : helloInRange c.depth c.trays = true := helloInRange_iff.mpr ⟨low, high, first, last, media⟩
  refine ⟨fun down queue => ?_, fun linked not_busy path unqueued => ?_⟩
  · show whenRunning (State.takeFrame p (.hello c.duplex c.colour c.depth c.trays asleep)) s = _
    have taken : s.takeFrame p (.hello c.duplex c.colour c.depth c.trays asleep) = (s.linkUp p c asleep).settle := by
      simp [State.takeFrame, free, down, State.frameAct, State.onHello, inRange]
    rw [whenRunning, if_pos running, taken, State.linkUp_settled down line queue hq work]
    rfl
  · have lost := State.linkDown_noWork (s := s.heard p) (b := true) (quiet_heard.mpr hq) work.heard (by simpa using not_busy)
      (by simpa using path) unqueued
    have act : (s.heard p).frameAct p (.hello c.duplex c.colour c.depth c.trays asleep) =
        ((((s.heard p).modPress p linkLost).mark (.press p)).linkAlerts p true).linkUp p c asleep := by
      simp [State.frameAct, State.onHello, inRange, linked, lost]
    rw [exec_linked ⟨running, hq, linked, free⟩ (f := .hello c.duplex c.colour c.depth c.trays asleep) rfl, act,
      State.linkUp_settled (by simp [linkLost]) (by simpa [linkLost] using line) (by simp [linkLost])
        (by simpa using hq) ?_, State.linkedUp_linkDown]
    · have changed : ((((s.heard p).modPress p linkLost).learn p c).modPress p (pressLinkedUp s.time asleep)) =
          learned.modPress p fun x => { up x with txq := [], send := .idle, resumeMark := false, rx := none } := by
        rw [State.heard, State.modPress_twice, State.learn_modPress, State.modPress_twice]
        exact State.modPress_congr (by simp [pressLinkedUp, greeted, linkLost, up, path])
      exact congrArg (fun t : State => Host.Outcome.next
        (((t.mark (.press p)).linkAlerts p true).endCondition .linkDown (.press p))) changed
    · simpa using work.heard.modPress p (f := linkLost) (by simp [linkLost])

end Sys2Proof.Machine
end

section
/-! SUPPORT. PRESS WAKE and PRESS SLEEP by the state of their press (R92, R105, R108, R110), and what a press sent to sleep,
queued for its wake or withdrawn settles to where there is no work. -/

namespace Sys2Proof.Machine

section WakeAndSleep

variable {s t : State} {p : PressNo} {c : CircuitNo} {o : WakeOrigin} {pending : Bool} {n : Nat} {since : Time}

/-- Where there is no work, the wake demand that a step leaves behind finds nothing (R75). -/
theorem State.settle_demand_noWork (work : NoWork s) (hq : Quiet s) : s.wantDemand.settle = s :=
  (Settles.demand_noWork hq work).settle (by decide)

/-! ## The requests -/

/-- PRESS WAKE that is taken answers its code alone (R108; log entry 25). -/
theorem exec_pressWake (free : HostFree s) (steady : s.restarting p = false) (woken : s.wakePress p = some t) (tag : Byte) :
    exec (.pressWake tag (BitVec.ofNat 8 p.val)) s = .next (t.answered tag 0x22 (okWith [])) := by
  refine exec_free free rfl ?_
  rw [performRequest, reqPressWake, withPress_ofNat]
  simp only [steady, woken, Bool.false_eq_true, if_false]

/-- PRESS SLEEP that is taken answers its code alone (R108; log entry 25). -/
theorem exec_pressSleep (free : HostFree s) (steady : s.restarting p = false) (slept : s.sleepPress p = some t)
    (tag : Byte) : exec (.pressSleep tag (BitVec.ofNat 8 p.val)) s = .next (t.answered tag 0x23 (okWith [])) := by
  refine exec_free free rfl ?_
  rw [performRequest, reqPressSleep, withPress_ofNat]
  simp only [steady, slept, Bool.false_eq_true, if_false]

theorem State.wakePress_asleep (asleep : (s.press p).state = .asleep) :
    s.wakePress p = some (s.requestWake p .host).settle := by
  simp only [State.wakePress, asleep]

theorem State.wakePress_waiting (waits : (s.press p).state = .wakeWait o) :
    s.wakePress p = some (s.modPress p fun x => { x with state := .wakeWait .host }) := by
  simp only [State.wakePress, waits]

theorem State.wakePress_idle (idle : (s.press p).state = .idle pending n) : s.wakePress p = some (s.keepAwake p) := by
  simp only [State.wakePress, idle]

theorem State.sleepPress_resting (resting : (s.press p).state = .asleep ∨ (s.press p).state = .sleeping) :
    s.sleepPress p = some s := by
  rcases resting with rests | rests <;> simp only [State.sleepPress, rests]

theorem State.sleepPress_idle (idle : (s.press p).state = .idle pending n) :
    s.sleepPress p = some (s.setSleepPending p).settle := by
  simp only [State.sleepPress, idle]

theorem State.sleepPress_waiting (waits : (s.press p).state = .wakeWait .host) :
    s.sleepPress p = some (s.withdraw p).settle := by
  simp only [State.sleepPress, waits]

/-! ## An IDLE press (R108, R109, R110) -/

theorem State.keepAwake_idle (idle : (s.press p).state = .idle pending n) : s.keepAwake p =
    let t := s.modPress p fun x => { x with state := .idle false 0 }
    if pending then t.mark (.press p) else t := by
  simp only [State.keepAwake, idle]

theorem State.setSleepPending_idle (idle : (s.press p).state = .idle false n) :
    s.setSleepPending p = (s.sleepPending p).trySleep p := by
  simp only [State.setSleepPending, idle, State.sleepPending]

/-- A press with SLEEP_PENDING keeps it: its sleep alone is decided (R110). -/
theorem State.setSleepPending_pending (pending : (s.press p).state = .idle true n) : s.setSleepPending p = s.trySleep p := by
  simp only [State.setSleepPending, pending]

theorem State.sleepPointPassed_early (awake : (s.press p).awakeSince = some since)
    (early : (s.time - since).toNat < (s.pressRec p).minAwake * 60) : s.sleepPointPassed p = false := by
  rw [Bool.eq_false_iff, Ne, State.sleepPointPassed_iff awake]
  exact Nat.not_le.mpr early

/-- Before its sleep point a press only gains SLEEP_PENDING (R110). -/
theorem State.setSleepPending_early (idle : (s.press p).state = .idle false n) (early : s.sleepPointPassed p = false) :
    s.setSleepPending p = s.sleepPending p := by
  rw [State.setSleepPending_idle idle, State.trySleep_early (State.sleepPointPassed_sleepPending.trans early)]

/-- From its sleep point on a press goes to SLEEPING, whether it had SLEEP_PENDING or gains it (R93, R110). -/
theorem State.setSleepPending_reached (idle : (s.press p).state = .idle pending n) (reached : s.sleepPointPassed p = true)
    (queue : (s.press p).txq = []) (line : (s.press p).line = none) :
    s.setSleepPending p = (s.sentToSleep p).wantDemand := by
  cases pending with
  | true => rw [State.setSleepPending_pending idle, State.trySleep_reached idle reached queue line]
  | false =>
    rw [State.setSleepPending_idle idle, State.trySleep_reached (n := 0) (by simp [State.sleepPending])
      (State.sleepPointPassed_sleepPending.trans reached) (by simpa [State.sleepPending] using queue)
      (by simpa [State.sleepPending] using line)]
    simp [State.sleepPending, State.sentToSleep]

theorem NoWork.sentToSleep (work : NoWork s) : NoWork (s.sentToSleep p) :=
  (noWork_mark _ _).mpr (work.modPress p (by simp))

/-! ## A press in a wake queue (R92, R105, R108) -/

/-- A state with an ASLEEP press put to wait for its wake by request of the host (R92, R108). -/
def State.hostWakeWait (p : PressNo) (s : State) : State :=
  (s.modPress p fun x => { x with state := .wakeWait .host }).mark (.press p)

/-- A press whose wake the host asks for joins behind those that wait for its circuit (R92, R105). -/
theorem State.requestWake_host_queued (asleep : (s.press p).state = .asleep)
    (others : (s.circuit (s.pressRec p).circuit).queue ≠ []) :
    s.requestWake p .host = ((s.hostWakeWait p).queuedLast (s.pressRec p).circuit p).wantDemand := by
  rw [State.requestWake, State.enter_other (by simp [asleep])]
  exact State.joinQueue_waits (s := s.putState p (.wakeWait .host)) (.inl others)

theorem NoWork.hostQueued (work : NoWork s) : NoWork ((s.hostWakeWait p).queuedLast c p) := by
  have waits : NoWork (s.modPress p fun x => { x with state := .wakeWait .host }) := work.modPress p (by simp)
  exact ⟨waits.free, waits.nobody⟩

/-- A waiting press is withdrawn from its circuit's queue, whoever asked for its wake (R92, R108). -/
theorem State.withdraw_waiting (waits : (s.press p).state = .wakeWait o) (behind : NoGrantBehind s c p)
    (others : ∀ k, k ≠ c → (s.circuit k).queue.contains p = false) :
    s.withdraw p = (s.withdrawnFrom c p).wantDemand := by
  rw [State.withdraw, State.enter_other (by simp [waits])]
  exact State.leaveQueues_one (s := s.putState p .asleep) behind others

theorem NoWork.withdrawnFrom (work : NoWork s) : NoWork (s.withdrawnFrom c p) := by
  have asleep : NoWork (s.modPress p fun x => { x with state := .asleep }) := work.modPress p (by simp)
  exact ⟨asleep.free, asleep.nobody⟩

/-- Where no press waits on demand, a waiting press was asked for by the host (R92). -/
theorem NoWork.wakeWait_host (work : NoWork s) (waits : (s.press p).state = .wakeWait o) :
    (s.press p).state = .wakeWait .host := by
  cases o with
  | host => exact waits
  | demand => exact absurd waits (work.nobody p)

end WakeAndSleep

end Sys2Proof.Machine
end

section
/-! PROOF. PRESS WAKE and PRESS SLEEP (O32), and the timers of sleep and wake (O52). -/

namespace Sys2Proof.Machine

/-- Settles O32: each request by the state of its press, then what that settles to. -/
theorem pressWokenAndSentToSleep : Obligations.PressWokenAndSentToSleep := by
  refine ⟨fun s tag p free steady => ?_, fun s tag p free steady => ?_⟩
  · have woken {t : State} (h : s.wakePress p = some t) := exec_pressWake free steady h tag
    refine ⟨fun o waits => woken (State.wakePress_waiting waits), fun b n idle => woken ?_,
      fun work asleep others => woken ?_⟩
    · rw [State.wakePress_idle idle, State.keepAwake_idle idle]
    · rw [State.wakePress_asleep asleep, State.requestWake_host_queued asleep others]
      exact congrArg some (State.settle_demand_noWork work.hostQueued free.quiet)
  · have slept {t : State} (h : s.sleepPress p = some t) := exec_pressSleep free steady h tag
    refine ⟨fun resting => slept (State.sleepPress_resting resting), fun n since idle awake early => slept ?_,
      fun b n since work idle awake reached queue line => slept ?_,
      fun first rest work waits other only queue _ => slept ?_⟩
    · rw [State.sleepPress_idle idle, State.setSleepPending_early idle (State.sleepPointPassed_early awake early)]
      exact congrArg some (State.settle_quiet (s := s.sleepPending p) free.quiet)
    · rw [State.sleepPress_idle idle,
        State.setSleepPending_reached idle ((State.sleepPointPassed_iff awake).mpr reached) queue line]
      exact congrArg some (State.settle_demand_noWork work.sentToSleep free.quiet)
    · have behind : NoGrantBehind s (s.pressRec p).circuit p := .inl (by simpa [queue] using other)
      have others : ∀ k, k ≠ (s.pressRec p).circuit → (s.circuit k).queue.contains p = false := fun k hk =>
        Bool.eq_false_iff.mpr (mt (only k) hk)
      rw [State.sleepPress_waiting waits, State.withdraw_waiting waits behind others]
      exact congrArg some (State.settle_demand_noWork work.withdrawnFrom free.quiet)

/-- Settles O52: the idle timer, the sleep point and the grant, each with what it settles to. -/
theorem sleepAndGrant : Obligations.SleepAndGrant := by
  intro s running quiet
  refine ⟨fun p n since idle enabled timeout awake early => ?_, fun p n since work pending awake reached queue line => ?_,
    fun c p rest o work queued waits queue line spacing window spaced => ?_⟩
  · have due : s.idleExpired p = true := State.idleExpired_iff.mpr ⟨n, idle, enabled, timeout⟩
    have ahead := State.sleepPointPassed_early awake early
    rw [exec_idleTimerExpiry, whenRunning, if_pos running, State.expireIdle_due idle due,
      State.trySleep_early (State.sleepPointPassed_sleepPending.trans ahead)]
    exact congrArg Host.Outcome.next (State.settle_quiet (s := s.sleepPending p) quiet)
  · rw [exec_sleepPointReached, whenRunning, if_pos running,
      State.trySleep_reached pending ((State.sleepPointPassed_iff awake).mpr reached) queue line]
    exact congrArg Host.Outcome.next (State.settle_demand_noWork work.sentToSleep quiet)
  · have opens : GrantOpen (s.settings c) (s.circuit c).ring s.time := ⟨window, fun t ht => .inr (spaced t ht)⟩
    have granted : (s.grantCheck c).settle = s.wakeGranted c p := by
      rw [State.grantCheck_one queued ⟨work.wakeWait_host waits, queue, line⟩ opens (.inl spacing)]
      exact State.settle_demand_noWork work.wakeGranted quiet
    rw [exec_nextGrantTime, whenRunning, if_pos running, granted, State.wakeGranted]
    simp [State.modCircuit, queued]

end Sys2Proof.Machine
end

section
/-! SUPPORT. What a step can do to the prices' generations, the house account, the alert table, the report queue and the
intake, said once: a few kinds of change. A property that each of them keeps is kept by every step. -/

namespace Sys2Proof.Machine

/-! ## What the invariants watch -/

/-- What of a state the invariants on prices, accounts, alerts, reports and requests speak of (R118, R133, R148, R165, R170). -/
structure Watched where
  current : BitVec 8
  other : BitVec 8
  house : AccountState
  alerts : Vector (Option Alert) 32
  reports : List Report
  intake : List Queued

/-- The watched part of a state. -/
def State.watched (s : State) : Watched :=
  { current := s.ret.current.gen, other := s.ret.other.gen, house := (s.account house).state, alerts := s.alerts
    reports := s.reports, intake := s.intake }

/-- A change of an account that leaves every account's state leaves the watched part. -/
theorem State.watched_modAccount {s : State} (a : AccountNo) {f : Account → Account} (hf : (f (s.account a)).state =
    (s.account a).state) : (s.modAccount a f).watched = s.watched := by
  have : ((s.modAccount a f).account house).state = (s.account house).state := by
    rw [State.account_modAccount]
    split
    · subst_vars
      exact hf
    · rfl
  simp only [State.watched, this]
  rfl

theorem Retained.house_zeroHolds (r : Retained) : (r.zeroHolds.accounts[house]).state = (r.accounts[house]).state := by
  simp [Retained.zeroHolds]

/-- A property that every change of the watched part that a step can make keeps. -/
structure Stepwise (P : State → Prop) : Prop where
  same : ∀ {s t : State}, P s → t.watched = s.watched → P t
  report : ∀ r s, P s → P (s.mark r)
  raise : ∀ k src d s, k ≠ .overflow → P s → P (s.raise k src d)
  ended : ∀ k src s, P s → P (s.endCondition k src)
  alert : ∀ n a b act r s, s.alert n = some a → (∀ x ∈ b, x.kind = a.kind ∧ x.source = a.source) → P s →
    P (s.setAlert n b act r)
  reported : ∀ l s, l.Sublist s.reports → P s → P { s with reports := l }
  intake : ∀ l s, l.length ≤ max 8 s.intake.length → P s → P { s with intake := l }
  account : ∀ a f s, (a = house → (f (s.account a)).state = .active) → P s → P (s.modAccount a f)
  exchange : ∀ s, P s → P { s with ret := { s.ret with
    current := PriceTable.enterService s.ret.current s.ret.other, other := s.ret.current } }
  cleared : ∀ s, P s → P { s with ret := s.ret.cleared }
  blank : ∀ s, P s → P (State.blank s.ret)
  reset : P State.reset

/-! ## How a request names its subject -/

theorem withJob_keeps {P : State → Prop} {s : State} {hd : Handle} {f : Entry → Job → Reply × State} (hs : P s)
    (hf : ∀ e j, s.job e = some j → P (f e j).2) : P (withJob hd s f).2 := by
  unfold withJob
  split
  · exact hf _ _ (State.job_of_named ‹_›)
  · exact hs

theorem withPress_keeps {P : State → Prop} {s : State} {b : Byte} {f : PressNo → Reply × State} (hs : P s)
    (hf : ∀ p, P (f p).2) : P (withPress b s f).2 := by
  unfold withPress
  split
  · exact hf _
  · exact hs

theorem withAccount_keeps {P : State → Prop} {s : State} {n : Nat} {f : AccountNo → Reply × State} (hs : P s)
    (hf : ∀ a, P (f a).2) : P (withAccount n s f).2 := by
  unfold withAccount
  split
  · exact hf _
  · exact hs

/-- ACCOUNT SET leaves the house account ACTIVE or is refused (R142). -/
theorem State.accountSet_house {s : State} {a : AccountNo} {st : AccountState} {lim : Nat}
    (h : s.accountSetRefusal a st lim = none) (ha : a = house) : st = .active := by
  unfold State.accountSetRefusal at h
  split at h
  · cases h
  · rename_i allowed
    simpa [ha] using allowed

theorem Account.set_active (lim : Nat) (x : Account) : (x.set .active lim).state = .active := by
  unfold Account.set
  dsimp only
  split <;> rfl

/-- A write of a group leaves the table its generation (R121). -/
theorem PriceTable.gen_write (g f : Nat) (v : List Nat) (cur t : PriceTable) : (PriceTable.write g f v cur t).gen = t.gen := by
  unfold PriceTable.write
  repeat' split
  all_goals rfl

namespace Stepwise

variable {P : State → Prop} (h : Stepwise P) {s : State}
include h

/-- Everything inside the part is made of such changes. -/
theorem inside : Local P where
  press _ _ _ hs := h.same hs rfl
  record _ _ _ _ hs := h.same hs rfl
  circuit _ _ _ hs := h.same hs rfl
  meter _ _ _ _ hs := h.same hs rfl
  account a _ _ hf _ hs := h.same hs (State.watched_modAccount a (hf _))
  job _ _ _ _ hs := h.same hs rfl
  write _ _ _ _ _ _ _ hs := h.same hs rfl
  report := h.report
  raise := h.raise
  ended := h.ended
  spool _ _ _ hs := h.same hs rfl
  sticky _ _ hs := h.same hs rfl
  agenda _ _ hs := h.same hs rfl
  demand _ _ hs := h.same hs rfl

theorem settle (hs : P s) : P s.settle := h.inside.settle hs

/-! ## Alerts and the supply -/

theorem ackAlert (n : AlertNo) (hs : P s) : P (s.ackAlert n) := by
  unfold State.ackAlert
  split
  · exact hs
  · rename_i a ha
    have removed : P (s.setAlert n none .removed false) := h.alert n a none _ _ s ha nofun hs
    split
    · exact Local.choose (h.alert n a _ _ _ s ha (by simp) hs) removed
    · exact removed
    · exact hs

theorem escalate (n : AlertNo) (hs : P s) : P (s.escalate n) := by
  unfold State.escalate
  split
  · split
    · exact h.alert n _ _ _ _ s ‹_› (by simp) hs
    · exact hs
  · exact hs

theorem escalateAll (hs : P s) : P s.escalateAll := Local.fold _ (fun _ n hs => h.escalate n hs) _ hs

theorem removeJobAlerts (hs : P s) : P s.removeJobAlerts := by
  refine Local.fold _ (fun s n hs => ?_) _ hs
  split
  · split
    · exact h.alert n _ none _ _ s ‹_› nofun hs
    · exact hs
  · exact hs

theorem evalSupply (hs : P s) : P s.evalSupply := by
  have low : P s.enterLow := h.raise .supplyLow .part none { s with low := true } (by decide) (h.same hs rfl)
  have normal : P s.enterNormal := Local.fold _ (fun _ p hs => h.inside.push _ hs) _
    (h.ended .supplyLow .part { s with low := false } (h.same hs rfl))
  exact Local.choose (Local.choose normal hs) (Local.choose low hs)

theorem takeSense (mv : Nat) (hs : P s) : P (s.takeSense mv) :=
  have sensed : P { s with sense := mv } := h.same hs rfl
  Local.choose (h.settle (h.evalSupply sensed)) sensed

/-! ## The requests of the jobs -/

theorem reqJobOpen (a t c n : Byte) (hs : P s) : P (reqJobOpen a t c n s).2 := by
  unfold Machine.reqJobOpen
  split
  · exact hs
  · split
    · exact hs
    · split
      · exact hs
      · exact h.same hs rfl

theorem reqJobRuns (hd : Handle) (d : BitVec 16) (rs : List RunSpec) (hs : P s) : P (reqJobRuns hd d rs s).2 := by
  unfold Machine.reqJobRuns
  split
  · exact hs
  · refine withJob_keeps hs fun e j _ => ?_
    split
    · exact hs
    · split
      · exact hs
      · exact h.same hs rfl

theorem pageCompleted (e : Entry) (was : Bool) (hs : P s) : P (s.pageCompleted e was) := by
  have offered : P (if s.eligible e && !was then (s.push (.decideJob e)).wantDemand else s) :=
    Local.choose (h.same hs rfl) hs
  unfold State.pageCompleted
  dsimp only
  split
  · exact h.inside.push _ (h.inside.leaveStarved offered)
  · exact h.inside.leaveStarved offered

theorem takeSegment (e : Entry) (d : Nat) (pg : Page) (data : List Byte) (ends : Bool) (hs : P s) :
    P (s.takeSegment e d pg data ends) := by
  have received : P (({ s with spool := s.spool.storeSegment d pg data ends } : State).modJob e fun j =>
    { j with received := j.received + 1 }) := h.same hs rfl
  exact Local.choose (h.settle (h.pageCompleted e _ received)) (h.same hs rfl)

theorem reqJobData (hd : Handle) (k : BitVec 16) (f : Byte) (b : List Byte) (hs : P s) : P (reqJobData hd k f b s).2 := by
  unfold Machine.reqJobData
  split
  · exact hs
  · refine withJob_keeps hs fun e j _ => ?_
    split
    · exact hs
    · split
      · exact hs
      · split
        · exact hs
        · split
          · exact hs
          · split
            · exact hs
            · exact h.takeSegment _ _ _ _ _ hs

theorem quoteJob (e : Entry) (j : Job) (hs : P s) : P (s.quoteJob e j) := by
  unfold State.quoteJob
  dsimp only
  refine Local.choose (h.raise _ _ _ _ (by decide) ?_) ?_ <;>
    exact Local.choose (h.report _ _ (h.same hs rfl)) (h.same hs rfl)

theorem offerCredit (e : Entry) (hs : P s) : P (s.offerCredit e) := by
  unfold State.offerCredit
  split
  · exact hs
  · exact Local.choose (h.inside.enterAdmitted (h.inside.reserve _ ‹_› hs))
      (h.raise _ _ _ _ (by decide) (h.report _ _ (h.same hs rfl)))

theorem reqJobCommit (hd : Handle) (hs : P s) : P (reqJobCommit hd s).2 := by
  unfold Machine.reqJobCommit
  refine withJob_keeps hs fun e j _ => ?_
  split
  · exact hs
  · dsimp only
    split <;> exact h.settle (h.offerCredit e (h.quoteJob e j hs))

theorem reqJobHold (hd : Handle) (hs : P s) : P (reqJobHold hd s).2 := by
  unfold Machine.reqJobHold
  refine withJob_keeps hs fun e j _ => ?_
  have held : P (s.setHostHold e true) := h.same hs rfl
  cases j.state with
  | queued t => exact h.settle (h.inside.moveJob _ held)
  | starved => exact h.settle (h.ended _ _ _ (h.inside.moveJob _ held))
  | printing p => exact h.settle (h.inside.startDrain _ held)
  | creditWait => exact held
  | _ => exact hs

theorem reqJobRelease (hd : Handle) (hs : P s) : P (reqJobRelease hd s).2 := by
  unfold Machine.reqJobRelease
  refine withJob_keeps hs fun e j _ => ?_
  have unheld : P (s.modJob e Job.unheld) := h.same hs rfl
  split
  · exact h.settle (h.inside.enterQueued unheld)
  · exact unheld
  · exact hs

theorem cancelJob {e : Entry} {j : Job} {t : State} (ht : s.cancelJob e j = some t) (hs : P s) : P t := by
  unfold State.cancelJob at ht
  split at ht <;> cases ht
  case h_7 => exact h.settle (h.inside.startDrain _ hs)
  case h_8 => exact h.inside.setTarget _ hs
  all_goals exact h.settle (h.inside.finishJob _ hs)

theorem reqJobCancel (hd : Handle) (hs : P s) : P (reqJobCancel hd s).2 := by
  unfold Machine.reqJobCancel
  refine withJob_keeps hs fun e j _ => ?_
  split
  · exact hs
  · exact h.cancelJob ‹_› hs

/-! ## The requests of the accounts and the prices -/

/-- The re-check of an account, if one is made, and the settling after it (R136, R142, R143). -/
theorem rechecked (a : AccountNo) (c : Bool) (hs : P s) :
    P ((if c then s.recheckCount a else (0, s)).2).settle := by
  refine h.settle ?_
  split
  · exact h.inside.recheck a hs
  · exact hs

theorem reqAccountSet (n : Nat) (st : Byte) (l : BitVec 32) (hs : P s) : P (reqAccountSet n st l s).2 := by
  unfold Machine.reqAccountSet
  refine withAccount_keeps hs fun a => ?_
  split
  · exact hs
  · dsimp only
    split
    · exact hs
    · rename_i taken
      refine h.rechecked a _ (h.account a _ s (fun ha => ?_) hs)
      rw [State.accountSet_house taken ha]
      exact Account.set_active _ _

theorem reqAccountAdjust (n : Nat) (x : BitVec 32) (hs : P s) : P (reqAccountAdjust n x s).2 := by
  unfold Machine.reqAccountAdjust
  refine withAccount_keeps hs fun a => ?_
  dsimp only
  split
  · exact hs
  · split
    · exact hs
    · split
      · exact hs
      · have adjusted : P (s.modAccount a fun _ => { s.account a with balance := (s.account a).balance + x.toInt }) :=
          h.same hs (State.watched_modAccount a rfl)
        refine h.settle ?_
        split
        · exact h.inside.recheck a adjusted
        · exact adjusted

theorem reqMeterRead (p c : Byte) (hs : P s) : P (reqMeterRead p c s).2 := by
  refine withPress_keeps hs fun p => ?_
  split
  · exact hs
  · split
    · exact hs
    · exact Local.choose (h.same hs rfl) hs

theorem reqPriceWrite (g f : Byte) (v : List Nat) (hs : P s) : P (reqPriceWrite g f v s).2 := by
  unfold Machine.reqPriceWrite
  split
  · exact hs
  · refine h.same hs ?_
    simp only [State.watched, PriceTable.gen_write]
    rfl

theorem reqPriceCommit (hs : P s) : P (reqPriceCommit s).2 := by
  unfold Machine.reqPriceCommit
  split
  · exact hs
  · exact h.exchange s hs

omit h in
theorem reqPriceRead (r : Byte) (hs : P s) : P (reqPriceRead r s).2 := by
  unfold Machine.reqPriceRead
  dsimp only
  repeat' split
  all_goals exact hs

/-! ## The requests of the presses -/

theorem moveQueue (p : PressNo) (old new : CircuitNo) (hs : P s) : P (s.moveQueue p old new) := by
  unfold State.moveQueue
  split
  · exact hs
  · split
    · exact h.inside.joinQueue _ (h.inside.leaveQueue _ hs)
    · exact hs

theorem poolChanged (p : PressNo) (hs : P s) : P (s.poolChanged p) :=
  Local.choose (h.same hs rfl) (h.same hs rfl)

theorem holdPool (p : PressNo) (hs : P s) : P (s.holdPool p) := Local.choose (h.same hs rfl) hs

/-- What new settings of a press do at once: the idle timer, a deferred sleep, a change of pool (R79, R102, R109). -/
theorem resettled (p : PressNo) (c : Prop) [Decidable c] (hs : P s) :
    P (if c then (s.expireIdle p).trySleep p else ((s.expireIdle p).trySleep p).poolChanged p) := by
  have slept := h.inside.trySleep (p := p) (h.inside.expireIdle (p := p) hs)
  exact Local.choose slept (h.poolChanged p slept)

theorem setPress (p : PressNo) (pool : Option PoolNo) (c : CircuitNo) (f : PressSpec) (hs : P s) :
    P (s.setPress p pool c f) := by
  have held : P (if (s.pressRec p).pool = pool then s else s.holdPool p) := Local.choose hs (h.holdPool p hs)
  exact h.resettled p _ (h.moveQueue p _ c (h.same held rfl))

theorem reqPressSet (p : Byte) (f : PressSpec) (hs : P s) : P (reqPressSet p f s).2 := by
  refine withPress_keeps hs fun p => ?_
  split
  · split
    · exact hs
    · split
      · exact hs
      · exact h.settle (h.setPress _ _ _ _ hs)
  · exact hs

omit h in
theorem reqPressRead (p : Byte) (hs : P s) : P (reqPressRead p s).2 := by
  refine withPress_keeps hs fun p => ?_
  split <;> exact hs

theorem wakePress {p : PressNo} {t : State} (ht : s.wakePress p = some t) (hs : P s) : P t := by
  unfold State.wakePress at ht
  split at ht <;> cases ht
  · exact h.settle (h.inside.requestWake _ hs)
  · exact h.same hs rfl
  · exact h.inside.keepAwake hs

theorem reqPressWake (p : Byte) (hs : P s) : P (reqPressWake p s).2 := by
  refine withPress_keeps hs fun p => ?_
  split
  · exact hs
  · split
    · exact h.wakePress ‹_› hs
    · exact hs

theorem sleepPress {p : PressNo} {t : State} (ht : s.sleepPress p = some t) (hs : P s) : P t := by
  unfold State.sleepPress at ht
  split at ht <;> simp only [Option.some.injEq, reduceCtorEq] at ht <;> subst ht
  · exact h.settle (h.inside.setSleepPending hs)
  · exact h.settle (h.inside.withdraw hs)
  · exact hs
  · exact hs

theorem reqPressSleep (p : Byte) (hs : P s) : P (reqPressSleep p s).2 := by
  refine withPress_keeps hs fun p => ?_
  split
  · exact hs
  · split
    · exact h.sleepPress ‹_› hs
    · exact hs

theorem reqPressCalibrate (p k : Byte) (hs : P s) : P (reqPressCalibrate p k s).2 := by
  refine withPress_keeps hs fun p => ?_
  split
  · exact hs
  · split
    · exact hs
    · have due : P (s.modRec p (PressRec.setDue (k == 1))) := h.same hs rfl
      exact Local.choose (h.settle (h.inside.enterCalibrating due)) due

theorem reqPressResume (p : Byte) (hs : P s) : P (reqPressResume p s).2 := by
  refine withPress_keeps hs fun p => ?_
  split
  · exact hs
  · split
    · exact h.settle (h.inside.enterIdle hs)
    · exact hs

theorem reqPressRestart (p : Byte) (hs : P s) : P (reqPressRestart p s).2 := by
  refine withPress_keeps hs fun p => ?_
  split
  · exact hs
  · exact h.settle (h.inside.restartLink hs)

/-! ## The requests of the whole part -/

theorem reqCircuitSet (c w : Byte) (tw : BitVec 16) (ts : Byte) (hs : P s) : P (reqCircuitSet c w tw ts s).2 := by
  unfold Machine.reqCircuitSet
  split
  · exact hs
  · exact h.settle (h.inside.grantCheck _ (h.same hs rfl))

theorem reqScheduleSet (f : ScheduleSpec) (hs : P s) : P (reqScheduleSet f s).2 := by
  unfold Machine.reqScheduleSet
  split
  · exact hs
  · rename_i m _
    have stored : P { s with ret := { s.ret with schedule := scheduleOf m f } } := h.same hs rfl
    dsimp only
    exact h.settle (h.evalSupply (h.escalateAll stored))

theorem reqFilterSet (n : Byte) (f : FilterSpec) (hs : P s) : P (reqFilterSet n f s).2 := by
  unfold Machine.reqFilterSet
  split
  · split
    · exact hs
    · exact h.same hs rfl
  · exact hs

omit h in
theorem reqFilterRead (n : Byte) (hs : P s) : P (reqFilterRead n s).2 := by
  unfold Machine.reqFilterRead
  split <;> exact hs

theorem reqAlertLevels (v : List Byte) (hs : P s) : P (reqAlertLevels v s).2 := by
  unfold Machine.reqAlertLevels
  split
  · exact hs
  · split
    · exact h.same hs rfl
    · exact hs

theorem reqAlertAck (n k st : Byte) (src : BitVec 32) (hs : P s) : P (reqAlertAck n k st src s).2 := by
  unfold Machine.reqAlertAck
  split
  · exact hs
  · split
    · dsimp only
      exact Local.fold _ (fun _ n hs => h.ackAlert n hs) _ hs
    · split
      · split
        · exact hs
        · split
          · exact h.ackAlert _ hs
          · exact hs
      · exact hs

theorem reqStatus (c : Byte) (hs : P s) : P (reqStatus c s).2 := by
  unfold Machine.reqStatus
  split
  · exact hs
  · exact Local.choose (h.same hs rfl) hs

theorem flushPath (p : PressNo) (b : Bool) (hs : P s) : P (s.flushPath p b) := by
  have emptied : P (s.modPress p fun x => { x with txq := x.dropSheetFrames.txq, path := [], send := .idle }) :=
    h.same hs rfl
  exact Local.choose hs (Local.choose (h.inside.give _ emptied) emptied)

theorem flushPress (p : PressNo) (hs : P s) : P (s.flushPress p) := by
  have unmarked : P (s.modPress p fun x => { x with resumeMark := false }) := h.same hs rfl
  unfold State.flushPress
  dsimp only
  split
  · exact h.inside.enterIdle unmarked
  · exact h.inside.enterIdle (h.ended _ _ _ unmarked)
  · exact h.inside.enterIdle unmarked
  · exact unmarked

theorem flush (hs : P s) : P s.flush := by
  have discarded : P { s with
      jobs := Vector.replicate 64 none, spool := Spool.fresh, reports := s.reports.filter fun r => !r.isJob
      ret := s.ret.zeroHolds } :=
    h.same (h.reported _ s List.filter_sublist hs)
      (by simp only [State.watched, State.account, Retained.house_zeroHolds]; rfl)
  exact h.settle (h.inside.wantDemand (Local.fold _ (fun _ p hs => h.flushPress p hs) _
    (Local.fold _ (fun _ p hs => h.flushPath p _ hs) _ (h.removeJobAlerts discarded))))

theorem reqFlush (hs : P s) : P (reqFlush s).2 := by
  unfold Machine.reqFlush
  dsimp only
  exact h.flush hs

theorem clearRetained (hs : P s) : P s.clearRetained := by
  have gathered : P ({ s with ret := s.ret.cleared } : State).gatherQueues :=
    Local.fold _ (fun _ c hs => h.inside.grantCheck c hs) _ (h.same (h.cleared s hs) rfl)
  have pressed : P (allPresses.foldl
      (fun t p => t.clearedPress p (s.ret.presses.map (·.pool))[p]) ({ s with ret := s.ret.cleared } : State).gatherQueues) :=
    Local.fold _ (fun _ p hs => h.resettled p _ hs) _ gathered
  exact h.settle (h.inside.wantDemand (h.evalSupply (h.escalateAll pressed)))

theorem reqRetainedClear (hs : P s) : P (reqRetainedClear s).2 := by
  unfold Machine.reqRetainedClear
  split
  · exact hs
  · dsimp only
    exact h.clearRetained hs

/-- Every request is made of such changes. -/
theorem performRequest (r : Request) (hs : P s) : P (performRequest r s).2 := by
  cases r with
  | jobOpen a t c n => exact h.reqJobOpen a t c n hs
  | jobRuns hd d rs => exact h.reqJobRuns hd d rs hs
  | jobData hd k f b => exact h.reqJobData hd k f b hs
  | jobCommit hd => exact h.reqJobCommit hd hs
  | jobHold hd => exact h.reqJobHold hd hs
  | jobRelease hd => exact h.reqJobRelease hd hs
  | jobCancel hd => exact h.reqJobCancel hd hs
  | jobStatus hd => exact withJob_keeps hs fun _ _ _ => hs
  | accountSet n st l => exact h.reqAccountSet n st l hs
  | accountAdjust n x => exact h.reqAccountAdjust n x hs
  | accountRead n => exact withAccount_keeps hs fun _ => hs
  | priceWrite g f v => exact h.reqPriceWrite g f v hs
  | priceCommit => exact h.reqPriceCommit hs
  | priceRead r => exact reqPriceRead r hs
  | pressSet p f => exact h.reqPressSet p f hs
  | pressRead p => exact reqPressRead p hs
  | pressWake p => exact h.reqPressWake p hs
  | pressSleep p => exact h.reqPressSleep p hs
  | pressCalibrate p k => exact h.reqPressCalibrate p k hs
  | pressResume p => exact h.reqPressResume p hs
  | pressRestart p => exact h.reqPressRestart p hs
  | circuitSet c w tw ts => exact h.reqCircuitSet c w tw ts hs
  | scheduleSet f => exact h.reqScheduleSet f hs
  | filterSet n f => exact h.reqFilterSet n f hs
  | filterRead n => exact reqFilterRead n hs
  | alertLevels v => exact h.reqAlertLevels v hs
  | alertAck n k st src => exact h.reqAlertAck n k st src hs
  | meterRead p c => exact h.reqMeterRead p c hs
  | status c => exact h.reqStatus c hs
  | flush => exact h.reqFlush hs
  | restart => exact h.same hs rfl
  | retainedClear => exact h.reqRetainedClear hs
  | alertList | unknown | badLength => exact hs

/-! ## The host line -/

theorem execute (q : Queued) (hs : P s) : P (s.execute q) := h.same (h.performRequest q.req hs) rfl

theorem arrive (q : Queued) (hs : P s) : P (s.arrive q) := by
  unfold State.arrive
  split
  · exact h.execute q hs
  · split
    · rename_i room
      refine h.intake _ s ?_ hs
      rw [List.length_append, List.length_singleton]
      exact le_max_of_le_left room
    · exact hs

theorem serve (hs : P s) : P s.serve := by
  unfold State.serve
  split
  · rename_i q rest queue
    exact Local.choose (h.execute q (h.intake rest s (by simp [queue]) hs)) hs
  · exact hs

theorem feedByte (b : Byte) (hs : P s) : P (s.feedByte b) := by
  have hunting : P { s with framer := { s.framer with bytes := none } } := h.same hs rfl
  unfold State.feedByte
  split
  · exact hs
  · split
    · exact Local.choose (h.same hs rfl) hs
    · exact Local.choose hunting (Local.choose (Local.choose (h.arrive _ hunting) hunting) (h.same hs rfl))

theorem takeBytes (bytes : List Byte) (hs : P s) : P (s.takeBytes bytes) :=
  Local.fold _ (fun _ b hs => h.feedByte b hs) _ hs

theorem freeEntry (e : Entry) (n : Serial) (hs : P s) : P (s.freeEntry e n) := by
  have freed : P (s.setJob e none) := h.same hs rfl
  unfold State.freeEntry
  split
  · exact Local.choose (h.settle (h.inside.wantDemand (h.ended _ _ _ (h.ended _ _ _ freed)))) hs
  · exact hs

theorem endReport (hs : P s) : P s.endReport := by
  have done : P { s with txReport := none } := h.same hs rfl
  unfold State.endReport
  split
  · dsimp only
    split
    · exact h.freeEntry _ _ done
    · exact done
  · exact hs

theorem beginReport (hs : P s) : P s.beginReport := by
  unfold State.beginReport
  split
  · rename_i r rest _ _ queue
    have taken : P { s with reports := rest } := h.reported rest s (by rw [queue]; exact List.sublist_cons_self r rest) hs
    exact h.same taken rfl
  · exact hs

theorem dropWorking (ph : Phase) (hs : P s) : P (s.dropWorking ph) := h.same (h.blank s hs) rfl

theorem endReply (hs : P s) : P s.endReply := by
  have done : P { s with slot := none } := h.same hs rfl
  unfold State.endReply
  split
  · exact Local.choose (h.dropWorking _ hs) (h.serve done)
  · exact hs

/-! ## Timers, the panel, starts -/

theorem endWindow (p : PressNo) (hs : P s) : P (s.endWindow p) := by
  have ended : P (((s.modPress p fun x => { x with restart := none }).mark (.press p)).wantDemand) :=
    h.inside.wantDemand (h.report _ _ (h.same hs rfl))
  exact Local.choose (h.settle (Local.choose ended (h.raise _ _ _ _ (by decide) ended))) hs

theorem starveOut (e : Entry) (hs : P s) : P (s.starveOut e) := by
  unfold State.starveOut
  split
  · exact h.settle (h.inside.startDrain _ hs)
  · exact hs

theorem buttonPress (hs : P s) : P s.buttonPress := by
  have pressed : P { s with buttonArmed := false } := h.same hs rfl
  unfold State.buttonPress
  split
  · dsimp only
    split
    · exact h.ackAlert _ pressed
    · exact pressed
  · exact hs

theorem tick (hs : P s) : P s.tick := Local.choose (h.same hs rfl) hs

/-- A start rebuilds the part from the retained domain, or from its defaults (R175, R176). -/
theorem rebuilt (c : ResetCause) (b1 b0 : Bool) (mv : Nat) (hs : P s) : P (s.rebuilt c b1 b0 mv) := by
  unfold State.rebuilt State.examineRetained
  split
  · refine h.same (h.report .start _ (h.blank s hs)) ?_
    simp only [State.watched, State.account, State.blank, Retained.house_zeroHolds]
    rfl
  · exact h.same h.reset rfl

theorem startPart (c : ResetCause) (b1 b0 : Bool) (mv : Nat) (hs : P s) : P (s.startPart c b1 b0 mv) := by
  have built := h.rebuilt c b1 b0 mv hs
  rw [State.startPart_eq]
  exact Local.choose built (h.raise _ _ _ _ (by decide) (h.same built rfl))

/-! ## The step -/

/-- Every command is made of such changes. -/
theorem exec {t : State} (c : Instr) (ht : Machine.exec c s = .next t) (hs : P s) : P t := by
  cases hq : requestRow c with
  | some q => exact whenRunning_keeps ((exec_request hq s).symm.trans ht) (h.arrive q) hs
  | none =>
    cases hp : pressRow c with
    | some x => exact whenRunning_keeps ((exec_pressRow hp s).symm.trans ht) (h.inside.takeFrame _) hs
    | none =>
      cases c with
      | hostFrameReceived bytes => exact whenRunning_keeps ht (h.takeBytes bytes) hs
      | hostFrameDiscarded bytes err =>
        cases ht
        have fed := h.takeBytes bytes hs
        exact Local.choose (Local.choose (h.same fed rfl) fed) hs
      | interByteGapTimeout late =>
        cases ht
        have dropped : P s.dropFrame := h.same hs rfl
        exact Local.choose (h.takeBytes late.toList dropped) hs
      | lineBreak =>
        cases ht
        exact Local.choose (h.same hs rfl) hs
      | lineReturnToMark =>
        cases ht
        exact Local.choose (h.same hs rfl) hs
      | replyTransmitted => exact whenRunning_keeps ht h.endReply hs
      | reportTransmissionBegin => exact whenRunning_keeps ht h.beginReport hs
      | reportTransmitted => exact whenRunning_keeps ht h.endReport hs
      | unactedPressFrame p k b => exact whenRunning_keeps ht (h.inside.takeFrame _) hs
      | pressFrameDiscarded p bytes err =>
        cases ht
        have fed := h.inside.feedPressBytes (p := p) bytes hs
        exact Local.choose (Local.choose (h.same fed rfl) fed) hs
      | pressFrameTransmitted p => exact whenRunning_keeps ht h.inside.frameDone hs
      | heartbeatExpiry p => exact whenRunning_keeps ht (fun hs => Local.choose (h.settle (h.inside.linkDown _ hs)) hs) hs
      | restartSignalEnd p => exact whenRunning_keeps ht (fun hs => Local.choose (h.same hs rfl) hs) hs
      | restartWindowExpiry p => exact whenRunning_keeps ht (h.endWindow p) hs
      | wakeTimeout p =>
        exact whenRunning_keeps ht (fun hs => Local.choose
          (h.settle (h.raise _ _ _ _ (by decide) (h.inside.enter _ hs))) hs) hs
      | calibrationTimeout p => exact whenRunning_keeps ht (fun hs => Local.choose (h.settle (h.inside.failRun hs)) hs) hs
      | starveExpiry e => exact whenRunning_keeps ht (h.starveOut e) hs
      | idleTimerExpiry p =>
        cases ht
        exact Local.choose (h.settle (h.inside.expireIdle hs)) hs
      | sleepPointReached p =>
        cases ht
        exact Local.choose (h.settle (h.inside.trySleep hs)) hs
      | nextGrantTime k =>
        cases ht
        exact Local.choose (h.settle (h.inside.grantCheck k hs)) hs
      | escalation n => exact whenRunning_keeps ht (h.escalate n) hs
      | ackButtonPress => exact whenRunning_keeps ht h.buttonPress hs
      | supplyFall mv =>
        cases ht
        exact Local.choose (h.takeSense mv hs) hs
      | supplyRise mv =>
        cases ht
        exact Local.choose (h.takeSense mv hs) hs
      | mainSupplyLoss =>
        cases ht
        exact h.dropWorking _ (h.same hs rfl)
      | supplyStart =>
        cases ht
        exact Local.choose (h.same hs rfl) hs
      | resetInputAssert =>
        cases ht
        split
        · exact h.dropWorking _ (h.same hs rfl)
        · exact h.same hs rfl
        · exact h.same hs rfl
      | resetInputRelease =>
        cases ht
        split <;> exact h.same hs rfl
      | startOfPart b1 b0 mv =>
        cases ht
        split
        · exact h.startPart _ _ _ _ hs
        · exact hs
      | backupCellLoss =>
        cases ht
        exact h.same hs rfl
      | ackButtonRelease =>
        cases ht
        exact h.same hs rfl
      | _ => simp [requestRow, pressRow] at hq hp

/-- Every step is made of such changes. -/
theorem step {t : State} (ht : Machine.step s = .next t) (hs : P s) : P t := by
  unfold Machine.step at ht
  split at ht
  · cases ht
    exact h.tick hs
  · exact h.exec _ ht (h.same hs rfl)

end Stepwise

end Sys2Proof.Machine
end

section
/-! PROOF. Price generations one apart, the house account ACTIVE, the intake bounded, one report for each subject (R118, R133,
R165, R170). -/

namespace Sys2Proof.Machine

/-! ## The prices (R118, R123) -/

/-- An exchange of the roles gives the table that enters service the generation after the one that leaves it (R123). -/
theorem pricesApart_stepwise : Stepwise PricesApart where
  same {s t} hs eq := by
    have current : t.ret.current.gen = s.ret.current.gen := congrArg Watched.current eq
    have other : t.ret.other.gen = s.ret.other.gen := congrArg Watched.other eq
    rwa [PricesApart, current, other]
  report _ _ hs := hs
  raise _ _ _ _ _ hs := by simpa [PricesApart] using hs
  ended _ _ _ hs := by simpa [PricesApart] using hs
  alert _ _ _ _ _ _ _ _ hs := hs
  reported _ _ _ hs := hs
  intake _ _ _ hs := hs
  account _ _ _ _ hs := hs
  exchange _ _ := rfl
  cleared _ _ := rfl
  blank _ hs := hs
  reset := resetInvariant.prices

/-! ## The house account (R133, R134, R142) -/

/-- The house account is ACTIVE in the default account table (R134). -/
theorem defaultAccounts_house : (defaultAccounts[house]).state = .active := resetInvariant.house

theorem houseActive_stepwise : Stepwise HouseActive where
  same hs eq := (congrArg Watched.house eq).trans hs
  report _ _ hs := hs
  raise _ _ _ _ _ hs := by simpa [HouseActive] using hs
  ended _ _ _ hs := by simpa [HouseActive] using hs
  alert _ _ _ _ _ _ _ _ hs := hs
  reported _ _ _ hs := hs
  intake _ _ _ hs := hs
  account a f s active hs := by
    rw [HouseActive, State.account_modAccount]
    split
    · exact active ‹_›
    · exact hs
  exchange _ hs := hs
  cleared _ _ := defaultAccounts_house
  blank _ hs := hs
  reset := resetInvariant.house

/-! ## The intake (R165) -/

theorem intakeBounded_stepwise : Stepwise IntakeBounded where
  same {s t} hs eq := by
    have intake : t.intake = s.intake := congrArg Watched.intake eq
    rwa [IntakeBounded, intake]
  report _ _ hs := hs
  raise _ _ _ _ _ hs := by simpa [IntakeBounded] using hs
  ended _ _ _ hs := by simpa [IntakeBounded] using hs
  alert _ _ _ _ _ _ _ _ hs := hs
  reported _ _ _ hs := hs
  intake _ _ len hs := len.trans (max_le (le_refl 8) hs)
  account _ _ _ _ hs := hs
  exchange _ hs := hs
  cleared _ hs := hs
  blank _ _ := Nat.zero_le 8
  reset := resetInvariant.intake

/-! ## The report queue (R170) -/

/-- Two reports of one subject have one subject with the same reports. -/
theorem Report.sameSubject_congr {r x : Report} (h : r.sameSubject x = true) (y : Report) :
    r.sameSubject y = x.sameSubject y := by
  cases r with
  | job e => rw [Report.plain_job e x h]
  | press p => rw [Report.plain_press p x h]
  | start =>
    cases x with
    | start => rfl
    | _ => cases h
  | alert n act b =>
    cases x with
    | alert m act' b' =>
      obtain rfl : n = m := by simpa [Report.sameSubject] using h
      cases y <;> rfl
    | _ => cases h

/-- Putting a report in the place of those of its subject changes the subject of no place. -/
theorem Report.sameSubject_replaced (r x y : Report) :
    (if r.sameSubject x then r else x).sameSubject y = x.sameSubject y := by
  split
  · exact Report.sameSubject_congr ‹_› y
  · rfl

/-- A report made pending takes the place of the one of its subject, or the tail when there is none (R170). -/
theorem ReportsDistinct.mark {s : State} (hs : ReportsDistinct s) (r : Report) : ReportsDistinct (s.mark r) := by
  unfold ReportsDistinct State.mark
  dsimp only
  split
  · refine List.pairwise_map.mpr (hs.imp fun {x y} apart => ?_)
    rw [Report.sameSubject_replaced, Report.sameSubject_comm, Report.sameSubject_replaced, Report.sameSubject_comm]
    exact apart
  · rename_i absent
    refine List.pairwise_append.mpr ⟨hs, List.pairwise_singleton _ r, fun x hx y hy => ?_⟩
    rw [List.mem_singleton.mp hy, Report.sameSubject_comm]
    exact Bool.eq_false_iff.mpr fun same => absent (List.any_eq_true.mpr ⟨x, hx, same⟩)

theorem ReportsDistinct.setAlert {s : State} (hs : ReportsDistinct s) (n : AlertNo) (a : Option Alert) (act : AlertAction)
    (b : Bool) : ReportsDistinct (s.setAlert n a act b) :=
  mark (s := { s with alerts := s.alerts.set n a }) hs _

theorem reportsDistinct_stepwise : Stepwise ReportsDistinct where
  same {s t} hs eq := by
    have reports : t.reports = s.reports := congrArg Watched.reports eq
    rwa [ReportsDistinct, reports]
  report r _ hs := hs.mark r
  raise k src d s _ hs := by
    unfold State.raise State.overflowRaise
    dsimp only
    repeat' split
    all_goals first | exact hs | exact hs.setAlert _ _ _ _
  ended k src s hs := by
    unfold State.endCondition
    repeat' split
    all_goals first | exact hs | exact hs.setAlert _ _ _ _
  alert n _ b act r _ _ _ hs := hs.setAlert n b act r
  reported _ _ sub hs := hs.sublist sub
  intake _ _ _ hs := hs
  account _ _ _ _ hs := hs
  exchange _ hs := hs
  cleared _ hs := hs
  blank _ _ := List.Pairwise.nil
  reset := resetInvariant.reports

/-- Settles O5: each of the four is kept by every change that a step can make. -/
theorem pricesAndQueuesInvariant : Obligations.PricesAndQueuesInvariant := fun _ _ ht =>
  ⟨pricesApart_stepwise.step ht, houseActive_stepwise.step ht, intakeBounded_stepwise.step ht,
    reportsDistinct_stepwise.step ht⟩

end Sys2Proof.Machine
end

section
/-! PROOF. The side price, the nominal price, the tier and the charge of a position, and the estimate as their sum (R126 to
R131). -/

namespace Sys2Proof.Machine

/-! ## The side price and the nominal price (R126, R127) -/

/-- The rounded quotient by 256 undoes a factor of 256. -/
theorem round256_mul_256 (x : Nat) : round256 (x * 256) = x := by
  unfold round256
  omega

theorem round256_zero : round256 0 = 0 := rfl

section Prices

variable (t : PriceTable)

theorem PriceTable.side_fin (m : Fin 16) (b : Fin 4) : t.side m.val b.val = round256 (t.base[m] * t.cf[b]) := by
  simp [PriceTable.side, PriceTable.basePrice, PriceTable.colourFactor]

theorem PriceTable.nominal_one (m b : Nat) : t.nominal m b 1 = t.side m b := rfl

theorem PriceTable.nominal_two (m b : Nat) : t.nominal m b 2 = t.side m b + round256 (t.side m b * t.df) := rfl

end Prices

/-- A sheet of a duplex run has a second side unless it is the last of an odd page count; one of a simplex run has none (R42). -/
theorem Run.sides_sheet {r : Run} {i : Nat} (f : Nat) (hi : i < r.sheets) :
    (r.sheet f i).sides = if r.duplex = true ∧ (i + 1 < r.sheets ∨ r.pages % 2 = 0) then 2 else 1 := by
  unfold Run.sheets at hi ⊢
  unfold Run.sheet Sheet.sides
  cases duplex : r.duplex with
  | false => simp
  | true =>
    simp only [duplex, if_true, true_and] at hi ⊢
    have second : 2 * i + 1 < r.pages ↔ i + 1 < (r.pages + 1) / 2 ∨ r.pages % 2 = 0 := by omega
    simp only [← second]
    split <;> simp_all

/-- Settles O56: the price of a side is one rounded product, that of a second side another. -/
theorem sidePrice : Obligations.SidePrice := by
  refine ⟨?_, fun r f i hi => Run.sides_sheet f hi⟩
  intro t m b side
  have hside : t.side m.val b.val = side := t.side_fin m b
  have one : t.nominal m.val b.val 1 = side := (t.nominal_one _ _).trans hside
  have two : t.nominal m.val b.val 2 = side + round256 (side * t.df) := by rw [t.nominal_two, hside]
  refine ⟨hside, fun cf => ?_, fun base => ?_, fun cf => ?_, one, two, fun df => ?_, fun df => ?_⟩
  · exact (congrArg (fun c => round256 (t.base[m] * c)) cf).trans (round256_mul_256 _)
  · exact (congrArg (fun x => round256 (x * t.cf[b])) base).trans (by rw [Nat.zero_mul, round256_zero])
  · exact (congrArg (fun c => round256 (t.base[m] * c)) cf).trans (by rw [Nat.mul_zero, round256_zero])
  · rw [one, two, df, round256_mul_256, Nat.two_mul]
  · rw [one, two, df, Nat.mul_zero, round256_zero, Nat.add_zero]

/-! ## The tier and the charge of a position (R128, R129) -/

theorem PriceTable.tierFactor_tier (t : PriceTable) (n : Nat) :
    t.tierFactor (t.tier n) = if n ≤ t.t1 then t.tf0 else if n ≤ t.t2 then t.tf1 else t.tf2 := by
  unfold PriceTable.tier
  split
  · rfl
  · split <;> rfl

theorem PriceTable.sheetCharge_eq (t : PriceTable) (sh : Sheet) (n : Nat) :
    t.sheetCharge sh n = round256 (t.nominal sh.media sh.band sh.sides * t.tierFactor (t.tier n)) := rfl

theorem PriceTable.tier_eq_zero_iff {t : PriceTable} {n : Nat} : t.tier n = 0 ↔ n ≤ t.t1 := by
  unfold PriceTable.tier
  split_ifs <;> simp <;> omega

theorem PriceTable.tier_eq_one_iff {t : PriceTable} {n : Nat} : t.tier n = 1 ↔ t.t1 < n ∧ n ≤ t.t2 := by
  unfold PriceTable.tier
  split_ifs <;> simp <;> omega

theorem PriceTable.tier_eq_two_iff {t : PriceTable} {n : Nat} : t.tier n = 2 ↔ t.t1 < n ∧ t.t2 < n := by
  unfold PriceTable.tier
  split_ifs <;> simp <;> omega

/-- Of two tables with different generations, CURRENT prices the jobs of its generation, OTHER those of its own (R119). -/
theorem State.tableOf_current (s : State) : s.tableOf s.ret.current.gen = s.ret.current := if_pos rfl

theorem State.tableOf_other {s : State} (apart : s.ret.current.gen ≠ s.ret.other.gen) :
    s.tableOf s.ret.other.gen = s.ret.other := if_neg apart

/-- Settles O57: the tier's cases, and the table found by the job's generation. -/
theorem sheetCharge : Obligations.SheetCharge := by
  refine ⟨fun s j c sh n hc hsh apart => ⟨fun gen => ?_, fun gen => ?_⟩, ?_⟩
  · rw [State.chargeOf_eq hc hsh, gen, State.tableOf_current]
  · rw [State.chargeOf_eq hc hsh, gen, State.tableOf_other apart]
  · intro t sh n factor
    refine ⟨?_, fun first t1 => ?_, fun equal => ?_, fun last t2 => ?_, rfl, fun first t1 t2 => ?_, fun whole two => ?_⟩
    · rw [t.sheetCharge_eq, t.tierFactor_tier, round256]
    · rw [Ne, PriceTable.tier_eq_zero_iff]
      omega
    · rw [Ne, PriceTable.tier_eq_one_iff]
      omega
    · rw [Ne, PriceTable.tier_eq_two_iff]
      omega
    · rw [PriceTable.tier_eq_two_iff]
      omega
    · have factor : t.tierFactor 2 = 256 := whole
      rw [t.sheetCharge_eq, two, factor, round256_mul_256]

/-! ## The groups of a sheet index (R131) -/

/-- How many of the ordinals i+1, S+i+1, 2S+i+1, ... of a sheet index are at most a bound, in any number of copies (R131). -/
def ordinalsUpTo (perCopy i bound : Nat) : Nat := if bound < i + 1 then 0 else (bound - (i + 1)) / perCopy + 1

theorem countUpTo_eq (perCopy copies i bound : Nat) :
    countUpTo perCopy copies i bound = min copies (ordinalsUpTo perCopy i bound) := by
  unfold countUpTo ordinalsUpTo
  split
  · exact (Nat.min_zero copies).symm
  · rfl

/-- A copy is among those counted exactly when its ordinal is at most the bound. -/
theorem lt_ordinalsUpTo_iff {perCopy : Nat} (hS : 0 < perCopy) {c i bound : Nat} :
    c < ordinalsUpTo perCopy i bound ↔ c * perCopy + i + 1 ≤ bound := by
  unfold ordinalsUpTo
  split
  · omega
  · rw [Nat.lt_succ_iff, Nat.le_div_iff_mul_le hS]
    omega

theorem ordinalsUpTo_mono {perCopy : Nat} (hS : 0 < perCopy) (i : Nat) {b b' : Nat} (h : b ≤ b') :
    ordinalsUpTo perCopy i b ≤ ordinalsUpTo perCopy i b' :=
  le_of_forall_lt fun _ hc => (lt_ordinalsUpTo_iff hS).mpr (((lt_ordinalsUpTo_iff hS).mp hc).trans h)

/-- A sum over copies whose terms change at two places is a sum of three groups. -/
theorem sum_three_groups (x y z : Nat) {k k' : Nat} (h : k ≤ k') (copies : Nat) :
    ((List.range copies).map fun c => if c < k then x else if c < k' then y else z).sum =
      min copies k * x + (min copies k' - min copies k) * y + (copies - min copies k') * z := by
  induction copies with
  | zero => simp
  | succ c ih =>
    rw [List.range_succ, List.map_append, List.sum_append, ih]
    rcases Nat.lt_or_ge c k with first | past
    · simp [first, Nat.le_of_lt first, first.trans_le h |>.le, Nat.succ_le_of_lt first,
        Nat.succ_le_of_lt (first.trans_le h), Nat.succ_mul]
    · rcases Nat.lt_or_ge c k' with second | third
      · have : c + 1 - k = c - k + 1 := by omega
        simp [Nat.not_lt_of_ge past, second, Nat.min_eq_right past, Nat.min_eq_right (Nat.le_succ_of_le past),
          Nat.min_eq_left second.le, this, Nat.succ_mul, Nat.add_assoc]
      · have : c + 1 - k' = c - k' + 1 := by omega
        simp [Nat.not_lt_of_ge past, Nat.not_lt_of_ge third, Nat.min_eq_right past, Nat.min_eq_right third,
          Nat.min_eq_right (Nat.le_succ_of_le past), Nat.min_eq_right (Nat.le_succ_of_le third), this, Nat.succ_mul,
          Nat.add_assoc]

/-- The groups of a sheet index add up to the charges of its positions, copy by copy (R128, R131). -/
theorem PriceTable.indexEstimate_eq {t : PriceTable} (ht : t.t1 ≤ t.t2) {perCopy : Nat} (hS : 0 < perCopy) (copies i : Nat)
    (sh : Sheet) : t.indexEstimate perCopy copies i sh =
      ((List.range copies).map fun c => t.sheetCharge sh (c * perCopy + i + 1)).sum := by
  have charge (c : Nat) : t.sheetCharge sh (c * perCopy + i + 1) =
      if c < ordinalsUpTo perCopy i t.t1 then t.tierCharge sh.media sh.band sh.sides 0
      else if c < ordinalsUpTo perCopy i t.t2 then t.tierCharge sh.media sh.band sh.sides 1
      else t.tierCharge sh.media sh.band sh.sides 2 := by
    simp only [PriceTable.sheetCharge, PriceTable.charge, PriceTable.tier, lt_ordinalsUpTo_iff hS]
    split_ifs <;> rfl
  simp only [charge, sum_three_groups _ _ _ (ordinalsUpTo_mono hS i ht), PriceTable.indexEstimate, max_eq_right ht,
    countUpTo_eq]

/-! ## The sum over the positions of a job (R131) -/

/-- A sum over the positions of all copies, taken by sheet index. -/
theorem sum_range_mul (f : Nat → Nat) (copies perCopy : Nat) : ((List.range (copies * perCopy)).map f).sum =
    ((List.range perCopy).map fun i => ((List.range copies).map fun c => f (c * perCopy + i)).sum).sum := by
  induction copies with
  | zero => simp
  | succ c ih =>
    simp only [Nat.succ_mul, List.range_add, List.range_succ, List.map_append, List.sum_append, List.map_map, ih,
      List.map_cons, List.map_nil, List.sum_singleton, List.sum_map_add, Function.comp_def]

/-- The position of a sheet index in a copy, counted from 0, carries the sheet of that index (R41). -/
theorem Job.sheetOf_copy {j : Job} {i : Nat} (hi : i < j.perCopy) (c : Nat) :
    j.sheetOf (c * j.perCopy + i + 1) = sheetAt (j.runs.getD []) 0 i := by
  rw [Job.sheetOf, Job.sheetIndex, Nat.add_sub_cancel, Nat.mul_add_mod_of_lt hi]

/-- Settles O58: the sum over the positions is taken by sheet index, and there by tier. -/
theorem estimateIsSum : Obligations.EstimateIsSum := by
  intro t j runs ht hruns
  have list : j.runs.getD [] = runs := by rw [hruns, Option.getD_some]
  have perCopy : j.perCopy = sheetsOf runs := by rw [Job.perCopy, list]
  rw [Job.total, sum_range_mul, perCopy, PriceTable.estimate]
  refine congrArg List.sum (List.map_congr_left fun i hi => ?_)
  have hi : i < j.perCopy := by rw [perCopy]; exact List.mem_range.mp hi
  simp only [← perCopy, Job.sheetOf_copy hi, list]
  cases sheetAt runs 0 i with
  | none => simp
  | some sh => exact PriceTable.indexEstimate_eq ht (Nat.zero_lt_of_lt hi) j.copies i sh

end Sys2Proof.Machine
end

section
/-! PROOF. PRICE WRITE and PRICE COMMIT (R119, R121 to R123). -/

namespace Sys2Proof.Machine

/-! ## The jobs quoted under a table (R119) -/

theorem State.quoted_eq_zero_iff {s : State} {gen : BitVec 8} :
    s.quoted gen = 0 ↔ ∀ e j, s.job e = some j → j.quotedUnder gen = false := by
  simp [State.quoted, allEntries, Option.any_eq_false]

/-! ## The values of a group (R121, R122) -/

/-- A write of values replaces those at its places, and no others. -/
theorem getElem_writeFrom {n : Nat} (v : Vector Nat n) (first : Nat) (xs : List Nat) (i : Nat) (hi : i < n) :
    (writeFrom v first xs)[i] = if first ≤ i ∧ i < first + xs.length then xs.getD (i - first) 0 else v[i] := by
  induction xs generalizing v first with
  | nil => simp [writeFrom]
  | cons x xs ih =>
    rw [writeFrom, ih, List.length_cons]
    by_cases after : first + 1 ≤ i
    · have place : i - first = i - (first + 1) + 1 := by omega
      have inside : first + 1 + xs.length = first + (xs.length + 1) := by omega
      simp [after, Nat.le_of_succ_le after, place, inside, Nat.ne_of_lt after]
    · by_cases here : first = i
      · simp [here]
      · have before : ¬ first ≤ i := by omega
        simp [after, before, here]

/-- A write of clamped values, of which each is below its bound. -/
theorem getElem_writeFrom_min {n : Nat} (v : Vector Nat n) (first bound : Nat) (values : List Nat) (i : Fin n) :
    (writeFrom v first (values.map fun x => min x bound))[i] =
      if first ≤ i.val ∧ i.val < first + values.length then min (values.getD (i.val - first) 0) bound else v[i] := by
  rw [Fin.getElem_fin, getElem_writeFrom, List.length_map]
  refine ite_congr rfl (fun _ => ?_) fun _ => rfl
  rw [List.getD_eq_getElem?_getD, List.getD_eq_getElem?_getD, List.getElem?_map]
  cases values[i.val - first]? <;> simp

/-! ## The two requests -/

/-- A PRICE WRITE that is not refused writes OTHER alone (R121). -/
theorem exec_priceWrite {s : State} (free : HostFree s) {tag group first : Byte} {values : List Nat} {t : PriceTable}
    (taken : s.priceWriteRefusal group.toNat first.toNat values.length = none)
    (ht : PriceTable.write group.toNat first.toNat values s.ret.current s.ret.other = t) :
    exec (.priceWrite tag group first values) s =
      .next (({ s with ret := { s.ret with other := t } } : State).answered tag 0x18
        (okWith (le 1 s.ret.other.gen.toNat ++ t.bytes))) := by
  refine exec_free free rfl ?_
  simp only [performRequest, reqPriceWrite, taken, ht]
  rw [← ht, PriceTable.gen_write]

/-- A PRICE WRITE whose group, first index and count are in their ranges is taken while no job is quoted under OTHER (R121). -/
theorem State.priceWriteRefusal_none {s : State} (unquoted : s.quoted s.ret.other.gen = 0) {group first count : Nat}
    (inRange : (group = 0 ∧ 0 < count ∧ first + count ≤ 16) ∨ (group = 1 ∧ 0 < count ∧ first + count ≤ 4) ∨
      (group = 2 ∧ count = 1) ∨ (group = 3 ∧ count = 5) ∨ (group = 4 ∧ count = 0)) :
    s.priceWriteRefusal group first count = none := by
  unfold State.priceWriteRefusal
  rw [if_neg (by omega), if_neg (by simp; omega), if_neg (by simp; omega), if_neg (by simp [unquoted])]

/-- Settles O29: no check refuses the group, and its values are written from the first index on, each clamped. -/
theorem priceWritten : Obligations.PriceWritten := by
  intro s tag first free unquoted
  have unquoted := State.quoted_eq_zero_iff.mpr unquoted
  refine ⟨fun values nonempty inside => ⟨_, exec_priceWrite free ?_ rfl, getElem_writeFrom_min _ _ 999999 values⟩,
    fun values nonempty inside => ⟨_, exec_priceWrite free ?_ rfl, getElem_writeFrom_min _ _ 1023 values⟩,
    fun v => exec_priceWrite free ?_ rfl, fun t1 t2 a b c => exec_priceWrite free ?_ rfl, exec_priceWrite free ?_ rfl⟩
  · exact State.priceWriteRefusal_none unquoted (.inl ⟨rfl, List.length_pos_of_ne_nil nonempty, inside⟩)
  · exact State.priceWriteRefusal_none unquoted (.inr (.inl ⟨rfl, List.length_pos_of_ne_nil nonempty, inside⟩))
  · exact State.priceWriteRefusal_none unquoted (.inr (.inr (.inl ⟨rfl, rfl⟩)))
  · exact State.priceWriteRefusal_none unquoted (.inr (.inr (.inr (.inl ⟨rfl, rfl⟩))))
  · exact State.priceWriteRefusal_none unquoted (.inr (.inr (.inr (.inr ⟨rfl, rfl⟩))))

/-- Settles O30: the one check is on the jobs quoted under OTHER, and neither exchange nor reply touches the jobs. -/
theorem priceCommitted : Obligations.PriceCommitted := by
  intro s tag free o c
  refine ⟨fun ⟨e, j, live, under⟩ => exec_free free rfl ?_, fun unquoted => exec_free free rfl ?_⟩
  · have quoted : s.quoted s.ret.other.gen ≠ 0 := fun zero => by
      have := State.quoted_eq_zero_iff.mp zero e j live
      rw [under] at this
      cases this
    exact if_pos (bne_iff_ne.mpr quoted)
  · have zero : s.quoted s.ret.other.gen = 0 := State.quoted_eq_zero_iff.mpr unquoted
    exact if_neg (by simp [zero])

end Sys2Proof.Machine
end
